-- ==== Sys2Proof/Word.lean ====
section
/-! DEFINITION. The words and small data types of the ABN4120 that commands and state share: bytes, tick times,
epoch numbers, samples, phases and per-phase values, the two trip outputs, claim keys, and the configuration image as
the station controller loads it. -/

namespace Sys2Proof

/-- One byte of a frame or of a station-port command. -/
abbrev Byte := BitVec 8

/-- A time on the 32-bit wrapping tick counter (R1). -/
abbrev Tick := BitVec 32

/-- An epoch number: 16 bits, wrapping (00_scope.md, "Epoch numbers and stamp positions"). -/
abbrev EpochNum := BitVec 16

/-- One raw sample: a signed 14-bit value, -8192..8191 (R18). -/
abbrev Sample := BitVec 14

/-- The three phases (00_scope.md, "Phases and masks"). -/
inductive Phase where
  | one
  | two
  | three
deriving DecidableEq, Repr

/-- One value for each of the three phases; `PerPhase Bool` is a phase mask. -/
structure PerPhase (α : Type) where
  p1 : α
  p2 : α
  p3 : α
deriving DecidableEq, Repr

/-- The six samples of one sample set: three phase currents and three phase voltages (R18). -/
structure SampleSet where
  i : PerPhase Sample
  v : PerPhase Sample
deriving DecidableEq, Repr

/-- The two trip outputs TRIP0 and TRIP1, paired with the inputs OPEN0 and OPEN1 (section 9.1). -/
inductive Output where
  | trip0
  | trip1
deriving DecidableEq, Repr

/-- The two kinds of claim (section 8.1). -/
inductive ClaimKind where
  | openConductor
  | ground
deriving DecidableEq, Repr

/-- Which end of its span the claimant is: U or D (section 8.1). -/
inductive SpanEnd where
  | u
  | d
deriving DecidableEq, Repr

/-- The two sides of the station (R110). -/
inductive Side where
  | up
  | down
deriving DecidableEq, Repr

/-- The key of a claim record: claimant's station id, kind and end (section 8.1). -/
structure ClaimKey where
  claimant : Nat
  kind : ClaimKind
  fin : SpanEnd
deriving DecidableEq, Repr

/-- One linkage entry as LOAD_CONFIG carries it (section 11.2): numbers, not yet clamped. The kinds are a set of bits
(bit 0 OPEN, bit 1 GROUND), the outputs too (bit 0 TRIP0, bit 1 TRIP1); the enumerated items are coded from 0 in the
order Chapter 9 lists their values. DESIGN CHOICE (log 16) for the bit numbers of the two sets. -/
structure RawEntry where
  zlo : Nat
  zhi : Nat
  kinds : Nat
  requirement : Nat
  delay : Nat
  mapCheck : Nat
  outputs : Nat
  role : Nat
  backup : Nat
  degraded : Nat
deriving DecidableEq, Repr

/-- A whole configuration image as LOAD_CONFIG carries it (section 11.2). `frequency` is in Hz: 60 means 60 Hz, any
other code 50 Hz. DESIGN CHOICE (log 16). -/
structure RawImage where
  stationId : Nat
  segment : Nat
  position : Nat
  frequency : Nat
  preferredPhase : Nat
  n : Nat
  w : Nat
  vlive : Nat
  vdead : Nat
  vrefFloor : Nat
  istep : Nat
  idrop : Nat
  irregMin : Nat
  rground : Nat
  rstep : Nat
  vloss : Nat
  rsplit : Nat
  k : Nat
  repeats : Nat
  settleCount : Nat
  confirmTimeout : Nat
  entryCount : Nat
  entries : List RawEntry
deriving DecidableEq, Repr

end Sys2Proof
end

