-- ==== Sys2Proof/Syntax.lean ====
section
/-! DEFINITION. The commands of the ABN4120: one constructor for each row of spec/opcode_table.json, with its operands
(DESIGN CHOICE, logs 1 and 15 to 17: the table gives no operands). -/

namespace Sys2Proof

/-- A command: an operation of the station port, an event at a pin or port, or an event of the part's own clock and
counters. -/
inductive Instr where
  /-- POWER_ON_RESET (R184) -/
  | powerOnReset
  /-- RESET_PIN, the deassertion of the reset pin (R185) -/
  | resetPin
  /-- GET_STATUS (R180) -/
  | getStatus
  /-- POP_EVENT (R187) -/
  | popEvent
  /-- LOAD_CONFIG with the whole image (R181) -/
  | loadConfig (image : RawImage)
  /-- START (R182) -/
  | start
  /-- START_VALIDATION_END (R182) -/
  | startValidationEnd
  /-- GET_RECORD with its index byte (R180) -/
  | getRecord (k : Byte)
  /-- GET_PEER with its index byte (R114) -/
  | getPeer (k : Byte)
  /-- GET_CLAIMS (R154) -/
  | getClaims
  /-- GET_MAP (R136) -/
  | getMap
  /-- RESET, the command (R185) -/
  | reset
  /-- BAD_COMMAND, a transaction whose bytes form no command (R178) -/
  | badCommand
  /-- CROSSING_EDGE on a phase's input at a tick time (R1) -/
  | crossingEdge (phase : Phase) (at_ : Tick)
  /-- REFERENCE_MISS (R8) -/
  | referenceMiss
  /-- CYCLE_BOUNDARY (R5) -/
  | cycleBoundary
  /-- LISTEN_TIMEOUT (R92) -/
  | listenTimeout
  /-- DISTURBANCE_CLOSE (R46) -/
  | disturbanceClose
  /-- DISTURBANCE_TIMEOUT (R48) -/
  | disturbanceTimeout
  /-- BLIND_EXIT (R41) -/
  | blindExit
  /-- DEENERGIZED_RESTORED (R51) -/
  | deenergizedRestored
  /-- ALERT_EXPIRED (R71) -/
  | alertExpired
  /-- VIGILANCE_HOLD_EXPIRED (R68) -/
  | vigilanceHoldExpired
  /-- PROBATION_WINDOW_PASSED for the entry of a slot (R102) -/
  | probationWindowPassed (slot : Fin 16)
  /-- PEER_STALE for the entry of a slot (R104) -/
  | peerStale (slot : Fin 16)
  /-- PEER_LOST for the entry of a slot (R104) -/
  | peerLost (slot : Fin 16)
  /-- PEER_FREED for the entry of a slot (R104) -/
  | peerFreed (slot : Fin 16)
  /-- CLAIM_REFRESH for the own record of a kind and end (R140) -/
  | claimRefresh (kind : ClaimKind) (fin : SpanEnd)
  /-- CLAIM_EXPIRED for the record of a key (R147) -/
  | claimExpired (key : ClaimKey)
  /-- DELAY_END for a linkage entry (R157) -/
  | delayEnd (entry : Fin 8)
  /-- BACKUP_TRIP for a linkage entry (R161) -/
  | backupTrip (entry : Fin 8)
  /-- JAMMED_SET (R171) -/
  | jammedSet
  /-- SILENT_SET (R175) -/
  | silentSet
  /-- SAMPLE_STROBE, a strobe after the first of its cycle (R17) -/
  | sampleStrobe
  /-- SAMPLE_STALL (R19) -/
  | sampleStall
  /-- SAMPLE_SET_ARRIVAL with the six samples (R18) -/
  | sampleSetArrival (set : SampleSet)
  /-- TX_DONE (R56) -/
  | txDone
  /-- TX_COMPLETION_TIMEOUT (R56) -/
  | txCompletionTimeout
  /-- BACKOFF_END (R78) -/
  | backoffEnd
  /-- CHANNEL_BUSY_CHANGE to a level, true for asserted (R76) -/
  | channelBusyChange (level : Bool)
  /-- RX_START (R58) -/
  | rxStart
  /-- RECEPTION_TIMEOUT (R59) -/
  | receptionTimeout
  /-- REPORT_RECEIVED with the bytes of the frame (R65) -/
  | reportReceived (frame : List Byte)
  /-- ALERT_RECEIVED with the bytes of the frame (R107) -/
  | alertReceived (frame : List Byte)
  /-- CLAIM_RECEIVED with the bytes of the frame (R144) -/
  | claimReceived (frame : List Byte)
  /-- RELEASE_RECEIVED with the bytes of the frame (R146) -/
  | releaseReceived (frame : List Byte)
  /-- TRIPPED_RECEIVED with the bytes of the frame (R167) -/
  | trippedReceived (frame : List Byte)
  /-- PEN_CHANGE to a level, true for asserted (R159) -/
  | penChange (level : Bool)
  /-- OPEN_CONFIRM_CHANGE of the input paired with an output, to a level (R164) -/
  | openConfirmChange (output : Output) (level : Bool)
  /-- TRIP_FAILED for an output (R165) -/
  | tripFailed (output : Output)
  /-- RESET_PIN_ASSERTED (R185) -/
  | resetPinAsserted
  /-- RECEIVED_FRAME_DROPPED with the bytes of the frame (R64) -/
  | receivedFrameDropped (frame : List Byte)
deriving DecidableEq, Repr

end Sys2Proof
end

