-- ==== Sys2Proof/Config.lean ====
section
/-! DEFINITION. What the part fixes: the constants its chapters name, and the orders its chapters leave open. The
configuration image is state (it is loaded by a command) and stands in Machine/State.lean. -/

namespace Sys2Proof.Config

/-- The lower and upper end of the period estimate P, in ticks (section 1.1). -/
def periodMin : Int := 15000
def periodMax : Int := 22500

/-- The start values of P for 60 Hz and 50 Hz (R20). -/
def period60 : Nat := 16667
def period50 : Nat := 20000

/-- Strobes per cycle (R17). -/
def strobes : Nat := 32

/-- Patched sets that make a cycle invalid, and the missing run that brings STALL (R19). -/
def patchedLimit : Nat := 4
def stallRun : Nat := 32

/-- Records in the history ring (R33), in a peer's ring (R105) and in the Event Queue (R186). -/
def ringSize : Nat := 16
def peerRingSize : Nat := 4
def eventQueueSize : Nat := 32

/-- Own epochs in LISTEN before the part runs free (R92). -/
def listenEpochs : Nat := 20

/-- Valid records that end BLIND (R41), and records that force a close (R48). -/
def blindExitRun : Nat := 4
def forcedCloseRun : Nat := 600

/-- Sample intervals of the completion timer (R56) and of the reception timer (R59). -/
def linkTimeout : Nat := 64

/-- Epochs of the vigilance hold (R68). -/
def holdEpochs : Nat := 20

/-- The tolerance of ALIGNED, in sample intervals (R83). -/
def alignTolerance : Int := 16

/-- The fixed constants of the Peer Table (section 6.1). -/
def probationReports : Nat := 3
def probationWindow : Nat := 6
def staleSilence : Nat := 5
def lostSilence : Nat := 20
def heardExpiry : Nat := 20
def lostExpiry : Nat := 64
def conflictListSize : Nat := 8

/-- Own epochs between refreshes (R140), and the frame age that removes a heard record (R147). -/
def refreshEpochs : Nat := 8
def claimExpiry : Nat := 12

/-- Places for heard records (R137), and items of the trip list (section 9.1). -/
def heardPlaces : Nat := 8
def tripListSize : Nat := 8

/-- Unknown epochs after which a WATCH cell gives up (R126). -/
def watchUnknowns : Nat := 3

/-- Busy epochs that set JAMMED (R171), timeouts that set XCVR_FAULT (R173), silent epochs that set SILENT (R175). -/
def jamEpochs : Nat := 2
def faultTimeouts : Nat := 3
def silentEpochs : Nat := 10

/-- Ticks within which START's validation ends (R182). -/
def validationTicks : Int := 64

/-- Rounds of evaluation that one event can bring. A round that brings another confirms a trip at the instant of its
assertion; each output does so at most once between two entries into CALM, and a chain of rounds holds at most one
entry into CALM, so five rounds suffice and eight are kept (log 22). -/
def evaluationRounds : Nat := 8

/-- Free order: in which of the six orders the Disturbance Detector, the Claim Register and the Trip Linkage take one
TRIPPED frame, read modulo 6 (R149 and R162 let either of two be first). No value of it is known to any proof. -/
opaque trippedOrder : Nat → Nat

/-- Free order: whether the setting of JAMMED is taken before the REPORT offered at the same boundary (R172). -/
opaque jamBeforeReport : Nat → Bool

/-- Free order: whether, at the boundary that ends a shortened epoch whose window is still open, the assessment is
taken before the record handed at the same boundary (R116). -/
opaque assessmentBeforeRecord : Nat → Bool

/-- Free order: whether SILENT is judged before JAMMED at a boundary that changes both (R176 lets either of two faults be first). -/
opaque silentBeforeJam : Nat → Bool

end Sys2Proof.Config
end

