-- ==== Sys2Proof/Machine/State.lean ====
section
/-! DEFINITION. The whole state of the ABN4120, block by block as its chapters list it, the reasons a step could stop,
and the state right after a power-on reset. State is plain data. -/

namespace Sys2Proof.Machine

/-- No command of this part ends in a fault: no rule of the spec stops its running, so the type has no constructor and
nobody raises one (safe: there is nothing to raise). -/
inductive Fault where
deriving DecidableEq, Repr

/-- The one refusal: nobody raises it, since every command has its meaning. -/
inductive Refusal where
  /-- A command of the opcode table without a meaning. Raised only by a refused arm of `exec`; safe, since nothing can
  be proved of a command that does not run. No arm is refused. -/
  | notModelled (mnemonic : String)
deriving DecidableEq, Repr

/-! ## Values shared by several blocks -/

/-- A pair of positions, upstream first (00_scope.md, "Identities and places"). -/
structure Span where
  up : Nat
  down : Nat
deriving DecidableEq, Repr

/-- A range of positions [zlo, zhi] (section 9.1). -/
structure Zone where
  lo : Nat
  hi : Nat
deriving DecidableEq, Repr

/-- Seven values I1, I2, I3, V1, V2, V3, R: magnitudes, sums of squares, epoch sums or means. -/
structure Means where
  i : PerPhase Nat
  v : PerPhase Nat
  r : Nat
deriving DecidableEq, Repr

/-- The tracker states (section 1.1). -/
inductive TrackerMode where
  | seeking
  | locked
  | holdover
deriving DecidableEq, Repr

/-- The assessment states (section 3.1). -/
inductive Assessment where
  | blind
  | calm
  | disturbed
  | deenergized
deriving DecidableEq, Repr

/-- The three conditions of R39; the cause mask of a comparison. -/
structure CauseMask where
  a : Bool
  b : Bool
  c : Bool
deriving DecidableEq, Repr

/-- An epoch record (R27). -/
structure EpochRecord where
  epoch : EpochNum
  means : Means
  irregularity : Nat
  validCycles : Nat
  ref : Phase
  mode : TrackerMode
  holdover : Bool
  unlocked : Bool
  slewed : Bool
  invalid : Bool
deriving DecidableEq, Repr

/-- A place on a timeline: epoch number and stamp position (R14). -/
structure Stamp where
  epoch : EpochNum
  position : Nat
deriving DecidableEq, Repr

/-! ## Cycle Tracker and sample port (Chapter 1) -/

/-- Pending slew (R15). -/
inductive Slew where
  | noSlew
  | shorten
  | lengthen
deriving DecidableEq, Repr

/-- What has become of one acceptance window (R6, R8): it awaits its crossing, has accepted one, or has passed. -/
inductive WindowMark where
  | awaiting
  | accepted
  | passed
deriving DecidableEq, Repr

/-- Target of a jump: epoch number and cycle index (R16). -/
structure JumpTarget where
  epoch : EpochNum
  cycle : Nat
deriving DecidableEq, Repr

/-- The last reference capture with its accepted mark (section 1.1). -/
structure RefCapture where
  tick : Tick
  accepted : Bool
deriving DecidableEq, Repr

/-- The Cycle Tracker (section 1.1). `anchor` is the boundary that has fallen last and `next` the one to come; `windowNow` is
the window of the first, `windowNext` that of the second (R5, R6, log 10). -/
structure Tracker where
  mode : TrackerMode
  period : Nat
  anchor : Option Tick
  next : Option Tick
  correction : Int
  ref : Phase
  offset : Option Int
  lastRef : Option RefCapture
  miss : PerPhase Nat
  accepts : Nat
  preferredRun : Nat
  health : PerPhase Nat
  validAge : Nat
  blankEnd : PerPhase (Option Tick)
  epoch : EpochNum
  cycleIndex : Nat
  cycleCount : Nat
  epochLength : Nat
  slew : Slew
  jump : Option JumpTarget
  crossed : PerPhase Bool
  windowNow : WindowMark
  windowNext : WindowMark
  slewed : Bool
deriving DecidableEq, Repr

/-- The sample sequencer and sample port (section 1.6). -/
structure Sampling where
  stalled : Bool
  patched : Nat
  missingRun : Nat
  stallPatches : Nat
  held : SampleSet
  strobe : Option Nat
  hasSet : Bool
  interval : Nat
  stallSeen : Bool
deriving DecidableEq, Repr

/-! ## Measurement Engine (Chapter 2) -/

/-- The tracker states a cycle has passed through (R25). -/
structure ModeSet where
  seeking : Bool
  locked : Bool
  holdover : Bool
deriving DecidableEq, Repr

/-- The residual magnitude of the cycle before the current one, with its validity (R26). -/
structure PreviousResidual where
  r : Nat
  valid : Bool
deriving DecidableEq, Repr

/-- A closed cycle of the current epoch: its seven magnitudes and its validity (R23). -/
structure ClosedCycle where
  magnitudes : Means
  valid : Bool
deriving DecidableEq, Repr

/-- The Measurement Engine (section 2.1). `acc` holds the seven sums of squares, `closed` the closed cycles of the
epoch, oldest first, `sums` the seven epoch magnitude sums, `ring` the history ring, newest first. -/
structure Engine where
  acc : Means
  cycleModes : ModeSet
  closed : List ClosedCycle
  sums : Means
  validCount : Nat
  irregularity : Nat
  previous : Option PreviousResidual
  holdoverSeen : Bool
  seekingSeen : Bool
  discard : Bool
  ring : List EpochRecord
deriving DecidableEq, Repr

/-! ## Disturbance Detector (Chapter 3) -/

/-- The Disturbance Detector (section 3.1). `closedByChange` is the model's own field: a change of an own claim record has closed a
disturbance (R47) and no record has been handed since (DEDUCED, log 31). -/
structure Detector where
  assessment : Assessment
  snapshot : Option EpochRecord
  reference : Option EpochRecord
  sequence : BitVec 8
  blindRun : Nat
  settle : Nat
  restore : Nat
  forced : Nat
  closedByChange : Bool
deriving DecidableEq, Repr

/-! ## Span Link Controller (Chapter 4) -/

/-- What a CLAIM or RELEASE frame says (R62). -/
structure ClaimContent where
  span : Span
  kind : ClaimKind
  mask : PerPhase Bool
  fin : SpanEnd
deriving DecidableEq, Repr

/-- The result of a trip (section 4.3). -/
inductive TripResult where
  | success
  | failed
deriving DecidableEq, Repr

/-- What a TRIPPED frame says (R62). -/
structure TrippedContent where
  result : TripResult
  output : Output
  zone : Zone
  span : Span
deriving DecidableEq, Repr

/-- What an ALERT frame says (R45). -/
structure AlertContent where
  sequence : BitVec 8
  cause : CauseMask
  values : Means
deriving DecidableEq, Repr

/-- The content of a queue entry (R69). -/
inductive QueueItem where
  | report (rec : EpochRecord)
  | alert (content : AlertContent)
  | claim (content : ClaimContent) (refresh : Bool)
  | release (content : ClaimContent)
  | tripped (content : TrippedContent)
deriving DecidableEq, Repr

/-- What a queue entry is for: at most one entry has each subject (R69). -/
inductive QueueSubject where
  | report
  | alert
  | claim (kind : ClaimKind) (fin : SpanEnd)
  | tripped (output : Output)
deriving DecidableEq, Repr

/-- The in-flight mark of a series (R69). -/
inductive InFlightMark where
  | noFrame
  | current
  | superseded
deriving DecidableEq, Repr

/-- An entry of the transmit queue (R69). A single frame uses `bound`; a series uses `remaining`, `due` and `mark`. -/
structure QueueEntry where
  item : QueueItem
  bound : EpochNum
  remaining : Nat
  due : Bool
  mark : InFlightMark
deriving DecidableEq, Repr

/-- Access states (section 4.1). -/
inductive Access where
  | idle
  | defer
  | backoff
deriving DecidableEq, Repr

/-- The frame in flight: its bytes as handed over, and the subject of its queue entry (R55). -/
structure InFlight where
  subject : QueueSubject
  bytes : List Byte
deriving DecidableEq, Repr

/-- The six drop counters, one per cause of R64. -/
structure DropCounters where
  crc : Nat
  unknownKind : Nat
  length : Nat
  malformed : Nat
  foreignSegment : Nat
  ownId : Nat
deriving DecidableEq, Repr

/-- The Span Link Controller (section 4.1). `vigilant` is the posture, `receiverEnable` the line. -/
structure Link where
  vigilant : Bool
  hold : Nat
  windowOpen : Bool
  queue : List QueueEntry
  access : Access
  candidate : Option QueueSubject
  backoff : Nat
  lfsr : BitVec 16
  sending : Bool
  inFlight : Option InFlight
  completionTimer : Nat
  receiving : Bool
  latch : Option Stamp
  receptionTimer : Nat
  drops : DropCounters
  reportsMissed : Nat
  alertsExpired : Nat
  receiverEnable : Bool
deriving DecidableEq, Repr

/-! ## Timeline Unit (Chapter 5) -/

/-- Progress of the LISTEN join (section 5.1). -/
inductive Join where
  | opened
  | pending
  | done
deriving DecidableEq, Repr

/-- The error of a source's REPORT: D and E of R82. -/
structure SourceError where
  d : Int
  e : Int
deriving DecidableEq, Repr

/-- A jump requested and not yet applied: its target, and the sender of the REPORT that gave it (R86). -/
structure PendingJump where
  target : JumpTarget
  sender : Nat
deriving DecidableEq, Repr

/-- The Timeline Unit (section 5.1). -/
structure Timeline where
  source : Option Nat
  sourceError : Option SourceError
  jumpPending : Option PendingJump
  join : Join
  listenCount : Nat
  slewGuard : Bool
  deferred : Bool
deriving DecidableEq, Repr

/-! ## Peer Table (Chapter 6) -/

/-- The states of an entry (section 6.1). -/
inductive PeerState where
  | free
  | heard
  | active
  | stale
  | lost
deriving DecidableEq, Repr

/-- A peer record in a ring: the fields a REPORT carries, and the two header flags stored with it (section 6.1). -/
structure PeerRecord where
  epoch : EpochNum
  means : Means
  irregularity : Nat
  validCycles : Nat
  ref : Phase
  mode : TrackerMode
  slewed : Bool
  holdover : Bool
  unlocked : Bool
deriving DecidableEq, Repr

/-- One of the 16 entries (section 6.1). `ring` is newest first. -/
structure PeerEntry where
  state : PeerState
  id : Nat
  position : Nat
  aligned : Bool
  mismatched : Bool
  pinned : Nat
  reportSilence : Nat
  frameSilence : Nat
  tally : Nat
  age : Nat
  ring : List PeerRecord
  snapshot : Option AlertContent
  flags : BitVec 8
deriving DecidableEq, Repr

/-- The Peer Table: its 16 entries by slot, and its three items (section 6.1). -/
structure PeerTable where
  entries : List PeerEntry
  conflicts : List Nat
  refusals : Nat
  adjacentUp : Option Nat
  adjacentDown : Option Nat
deriving DecidableEq, Repr

/-! ## Continuity Assessor (Chapter 7) -/

/-- The class of a phase of a map entry (R119). -/
inductive PhaseClass where
  | energized
  | partly
  | collapsed
deriving DecidableEq, Repr

/-- A map entry (section 7.1). -/
structure MapEntry where
  id : Nat
  position : Nat
  own : Bool
  means : Means
  irregularity : Nat
  validCycles : Nat
  classes : PerPhase PhaseClass
deriving DecidableEq, Repr

/-- The continuity map of one epoch, upstream entry first (R119). -/
structure ContinuityMap where
  epoch : EpochNum
  entries : List MapEntry
deriving DecidableEq, Repr

/-- The states of a verdict cell (section 7.1). -/
inductive CellState where
  | clear
  | watch
  | held
  | fading
deriving DecidableEq, Repr

/-- What a cell was shown at an assessment (section 7.1). -/
inductive Verdict where
  | isTrue
  | isFalse
  | unknown
  | notJudged
deriving DecidableEq, Repr

/-- A verdict cell (section 7.1). -/
structure Cell where
  state : CellState
  condition : Nat
  falses : Nat
  unknowns : Nat
  verdict : Verdict
deriving DecidableEq, Repr

/-- The Continuity Assessor (section 7.1). -/
structure Assessor where
  lastEpoch : Option EpochNum
  map : Option ContinuityMap
  phaseBoundary : PerPhase (Option Span)
  residualBoundary : Option Span
  openDown : PerPhase Cell
  openUp : PerPhase Cell
  groundDown : Cell
  groundUp : Cell
deriving DecidableEq, Repr

/-! ## Claim Register (Chapter 8) -/

/-- The status of a claim record (section 8.1). -/
inductive ClaimStatus where
  | standing
  | released
  | covered
deriving DecidableEq, Repr

/-- A claim record (section 8.1). -/
structure ClaimRecord where
  key : ClaimKey
  position : Nat
  span : Span
  mask : PerPhase Bool
  status : ClaimStatus
  own : Bool
  raiseEpoch : EpochNum
  refreshEpoch : EpochNum
  standingAge : Nat
  refreshAge : Nat
  frameAge : Nat
  corroborated : Bool
  agrees : Bool
deriving DecidableEq, Repr

/-- A corroborating pair with its effective span (R151). -/
structure ClaimPair where
  upKey : ClaimKey
  downKey : ClaimKey
  span : Span
deriving DecidableEq, Repr

/-- The Claim Register: its records in register order, and its pair list (section 8.1). -/
structure Register where
  records : List ClaimRecord
  pairs : List ClaimPair
deriving DecidableEq, Repr

/-! ## Trip Linkage (Chapter 9) -/

/-- A candidate as a backup timer keeps it: a pair by its two keys, a single record by its key, and the effective span
(R161). -/
structure TimerCandidate where
  key : ClaimKey
  partner : Option ClaimKey
  span : Span
deriving DecidableEq, Repr

/-- A backup timer (section 9.1). -/
inductive BackupTimer where
  | off
  | running (count : Nat) (candidate : TimerCandidate)
  | expired (candidate : TimerCandidate)
deriving DecidableEq, Repr

/-- The runtime state of one linkage entry (section 9.1). -/
structure EntryRuntime where
  spent : Bool
  wouldTrip : Bool
  timer : BackupTimer
deriving DecidableEq, Repr

/-- The states of a trip record (section 9.1). -/
inductive TripState where
  | idle
  | asserted
  | confirmed
  | failed
deriving DecidableEq, Repr

/-- A trip record (section 9.1), with the level of its output line (R163). -/
structure TripRecord where
  state : TripState
  entry : Option Nat
  timer : Nat
  zone : Option Zone
  span : Option Span
  driven : Bool
deriving DecidableEq, Repr

/-- An item of the trip list (section 9.1). -/
structure TripItem where
  sender : Nat
  content : TrippedContent
deriving DecidableEq, Repr

/-- The Trip Linkage (section 9.1). `entries` holds the runtime state of the 8 possible entries, `trips` the trip list,
oldest first. -/
structure Linkage where
  entries : List EntryRuntime
  trip0 : TripRecord
  trip1 : TripRecord
  trips : List TripItem
  pen : Bool
  open0 : Bool
  open1 : Bool
deriving DecidableEq, Repr

/-! ## Fault unit (Chapter 10) -/

/-- The fault unit (section 10.1). -/
structure FaultUnit where
  busyUnbroken : Bool
  busyEpochs : Nat
  jammed : Bool
  timeouts : Nat
  xcvrFault : Bool
  silence : Nat
  livePeers : Bool
  silent : Bool
  impaired : Bool
deriving DecidableEq, Repr

/-! ## Configuration image (section 11.2) -/

/-- The requirement of a linkage entry, without its d (section 9.1). -/
inductive Requirement where
  | both
  | either
  | delayed
deriving DecidableEq, Repr

/-- The role of a linkage entry, without its b (section 9.1). -/
inductive Role where
  | primary
  | backup
deriving DecidableEq, Repr

/-- The degraded action of a linkage entry (section 9.1). -/
inductive Degraded where
  | same
  | either
  | hold
deriving DecidableEq, Repr

/-- A linkage entry as stored (section 9.1). -/
structure LinkageEntry where
  zone : Zone
  acceptsOpen : Bool
  acceptsGround : Bool
  requirement : Requirement
  delay : Nat
  mapCheck : Bool
  trip0 : Bool
  trip1 : Bool
  role : Role
  backupEpochs : Nat
  degraded : Degraded
deriving DecidableEq, Repr

/-- The configuration image as stored (section 11.2). -/
structure Image where
  stationId : Nat
  segment : Nat
  position : Nat
  hz60 : Bool
  preferred : Phase
  n : Nat
  w : Nat
  vlive : Nat
  vdead : Nat
  vrefFloor : Nat
  istep : Nat
  idrop : Nat
  irregMin : Nat
  rground : Nat
  rstep : Nat
  vloss : Nat
  rsplit : Nat
  k : Nat
  repeats : Nat
  settleCount : Nat
  confirmTimeout : Nat
  entries : List LinkageEntry
deriving DecidableEq, Repr

/-- The items of the image, for the reply of LOAD_CONFIG (R181). -/
inductive ImageItem where
  | position | frequency | preferredPhase
  | vlive | vdead | vrefFloor | istep | idrop | irregMin | rground | rstep | vloss | rsplit
  | k | repeats | settleCount | confirmTimeout | entryCount
  | zlo | zhi | kinds | requirement | delay | mapCheck | outputs | role | backup | degraded
deriving DecidableEq, Repr

/-- An item that LOAD_CONFIG changed in storing, with its entry index for a linkage item (R181). -/
structure ClampedItem where
  item : ImageItem
  entry : Option Nat
deriving DecidableEq, Repr

/-! ## Events and replies (Chapter 11) -/

/-- The event kinds (section 11.4). -/
inductive EventKind where
  | disturbanceOpen | disturbanceClose | disturbanceTimeout | deenergizedEnter
  | claimRaised | claimReleased | claimHeard | claimExpired | corroborated | located | claimOverflow
  | tripIssued | tripConfirmed | tripFailed | backupTrip | wouldTrip | trippedHeard
  | peerActive | peerLost | positionConflict | configMismatch | timelineJump | jumpDeferred
  | refPhaseSwitch | holdoverEnter | holdoverExit | sampleStall | sampleResume | linkImpaired | linkRestored
deriving DecidableEq, Repr

/-- The subject of an event (R186). -/
inductive EventSubject where
  | absent
  | station (id : Nat)
  | output (o : Output)
  | claim (key : ClaimKey)
deriving DecidableEq, Repr

/-- The cause of a disturbance (R44). -/
inductive OpenCause where
  | own
  | sympathy
  | claim
deriving DecidableEq, Repr

/-- Named details of events (section 11.4). -/
inductive NamedDetail where
  | disturbed | deenergized | blind
  | own | heard
  | silent | evicted
  | jammed | xcvrFault
deriving DecidableEq, Repr

/-- The detail of an event: a value of 0..65535 or a named value (R186). -/
inductive Detail where
  | absent
  | value (n : Nat)
  | mask (m : PerPhase Bool)
  | cause (c : OpenCause)
  | named (n : NamedDetail)
  | phase (p : Phase)
  | peerState (p : PeerState)
  | trip (r : TripResult) (o : Output)
deriving DecidableEq, Repr

/-- An event record (R186). -/
structure Event where
  kind : EventKind
  epoch : EpochNum
  sequence : BitVec 8
  subject : EventSubject
  span : Option Span
  detail : Detail
  gap : Bool
deriving DecidableEq, Repr

/-- The run states (R183). -/
inductive RunState where
  | config
  | listen
  | run
deriving DecidableEq, Repr

/-- The status that opens a reply (section 11.1). -/
inductive ReplyStatus where
  | ok
  | busy
  | badState
  | configInvalid
  | badIndex
  | empty
  | badCommand
deriving DecidableEq, Repr

/-- The Timeline Unit's items in GET_STATUS (R94). -/
structure TimelineStatus where
  source : Option Nat
  sourceError : Option SourceError
  jumpTarget : Option JumpTarget
  join : Join
  listenCount : Nat
  slewGuard : Bool
  deferred : Bool
deriving DecidableEq, Repr

/-- A trip record in GET_STATUS (R169). -/
structure TripStatus where
  state : TripState
  entry : Option Nat
  timer : Nat
  zone : Option Zone
  span : Option Span
deriving DecidableEq, Repr

/-- A backup timer in GET_STATUS: its state, its count and its candidate's keys (R169). -/
inductive TimerStatus where
  | off
  | running (count : Nat) (key : ClaimKey) (partner : Option ClaimKey)
  | expired (key : ClaimKey) (partner : Option ClaimKey)
deriving DecidableEq, Repr

/-- A linkage entry's marks and timer in GET_STATUS (R169). -/
structure EntryStatus where
  spent : Bool
  wouldTrip : Bool
  timer : TimerStatus
deriving DecidableEq, Repr

/-- The fault unit's items in GET_STATUS (R177). -/
structure FaultStatus where
  impaired : Bool
  jammed : Bool
  xcvrFault : Bool
  silent : Bool
  busyEpochs : Nat
  timeouts : Nat
  silence : Nat
deriving DecidableEq, Repr

/-- The groups GET_STATUS returns (R180). -/
structure StatusReply where
  run : RunState
  busy : Bool
  eventCount : Nat
  assessment : Assessment
  vigilant : Bool
  mode : TrackerMode
  ref : Phase
  stalled : Bool
  timeline : TimelineStatus
  drops : DropCounters
  reportsMissed : Nat
  alertsExpired : Nat
  refusals : Nat
  trip0 : TripStatus
  trip1 : TripStatus
  entries : List EntryStatus
  trips : List TripItem
  pen : Bool
  open0 : Bool
  open1 : Bool
  fault : FaultStatus
deriving DecidableEq, Repr

/-- What GET_MAP returns (R136): the Assessor's items and the adjacent peer's id on each side. -/
structure MapReply where
  assessor : Assessor
  adjacentUp : Option Nat
  adjacentDown : Option Nat
deriving DecidableEq, Repr

/-- What follows the status of a reply (section 11.1). -/
inductive ReplyBody where
  | nothing
  | runState (r : RunState)
  | status (groups : StatusReply)
  | event (e : Event)
  | clamped (items : List ClampedItem)
  | check (code : Nat) (entry : Option Nat)
  | record (r : EpochRecord)
  | peer (e : PeerEntry) (adjacent : Bool)
  | freePeer
  | claims (records : List ClaimRecord) (pairs : List ClaimPair)
  | map (m : MapReply)
deriving DecidableEq, Repr

/-- A reply of the station port (section 11.1). -/
structure Reply where
  status : ReplyStatus
  body : ReplyBody
deriving DecidableEq, Repr

/-- The station port (Chapter 11). `shifted` is the reply that the latest ended transaction shifted out (R178). -/
structure Port where
  busy : Bool
  validationStart : Tick
  image : Image
  reply : Reply
  shifted : Option Reply
  events : List Event
  eventSequence : BitVec 8
  attention : Bool
deriving DecidableEq, Repr

/-! ## The part -/

/-- The whole state of the part, the levels at its input pins, and the queue of commands that wait. -/
structure State where
  run : RunState
  resetHeld : Bool
  timebase : Tick
  penPin : Bool
  openPin0 : Bool
  openPin1 : Bool
  busyPin : Bool
  tracker : Tracker
  sampling : Sampling
  engine : Engine
  detector : Detector
  link : Link
  timeline : Timeline
  peers : PeerTable
  assessor : Assessor
  register : Register
  linkage : Linkage
  fault : FaultUnit
  port : Port
  choices : Nat
  pending : List Instr
deriving DecidableEq, Repr

/-! ## Reset values -/

namespace Init

/-- One value on all three phases. -/
def allPhases {α : Type} (a : α) : PerPhase α := ⟨a, a, a⟩

def zeroMeans : Means := ⟨allPhases 0, allPhases 0, 0⟩

/-- The cleared image (section 11.2): the defaults where the table gives one, 50 Hz, preferred phase 1, no linkage
entries, and 0 for every other item. -/
def clearedImage : Image where
  stationId := 0
  segment := 0
  position := 0
  hz60 := false
  preferred := .one
  n := 6
  w := 3
  vlive := 0
  vdead := 0
  vrefFloor := 0
  istep := 0
  idrop := 0
  irregMin := 0
  rground := 0
  rstep := 0
  vloss := 0
  rsplit := 0
  k := 2
  repeats := 2
  settleCount := 8
  confirmTimeout := 12
  entries := []

/-- The Cycle Tracker after any reset, from the image as the reset leaves it (R20). -/
def tracker (image : Image) : Tracker where
  mode := .seeking
  period := if image.hz60 then Config.period60 else Config.period50
  anchor := none
  next := none
  correction := 0
  ref := image.preferred
  offset := none
  lastRef := none
  miss := allPhases 0
  accepts := 0
  preferredRun := 0
  health := allPhases 0
  validAge := 4
  blankEnd := allPhases none
  epoch := 0
  cycleIndex := 0
  cycleCount := 0
  epochLength := image.n
  slew := .noSlew
  jump := none
  crossed := allPhases false
  windowNow := .passed
  windowNext := .passed
  slewed := false

/-- The sample port after any reset (R20). -/
def sampling : Sampling where
  stalled := false
  patched := 0
  missingRun := 0
  stallPatches := 0
  held := ⟨allPhases 0, allPhases 0⟩
  strobe := none
  hasSet := false
  interval := 0
  stallSeen := false

/-- The Measurement Engine after any reset (R36). -/
def engine : Engine where
  acc := zeroMeans
  cycleModes := ⟨false, false, false⟩
  closed := []
  sums := zeroMeans
  validCount := 0
  irregularity := 0
  previous := none
  holdoverSeen := false
  seekingSeen := false
  discard := false
  ring := []

/-- The Disturbance Detector after any reset (R37). -/
def detector : Detector where
  assessment := .blind
  snapshot := none
  reference := none
  sequence := 0
  blindRun := 0
  settle := 0
  restore := 0
  forced := 0
  closedByChange := false

/-- The Span Link Controller after any reset (R54). -/
def link : Link where
  vigilant := true
  hold := 0
  windowOpen := false
  queue := []
  access := .idle
  candidate := none
  backoff := 0
  lfsr := 0
  sending := false
  inFlight := none
  completionTimer := 0
  receiving := false
  latch := none
  receptionTimer := 0
  drops := ⟨0, 0, 0, 0, 0, 0⟩
  reportsMissed := 0
  alertsExpired := 0
  receiverEnable := false

/-- The Timeline Unit after any reset (R80). -/
def timeline : Timeline where
  source := none
  sourceError := none
  jumpPending := none
  join := .opened
  listenCount := 0
  slewGuard := false
  deferred := false

/-- A FREE entry with its fields cleared (R95). -/
def freePeer : PeerEntry where
  state := .free
  id := 0
  position := 0
  aligned := false
  mismatched := false
  pinned := 0
  reportSilence := 0
  frameSilence := 0
  tally := 0
  age := 0
  ring := []
  snapshot := none
  flags := 0

/-- The Peer Table after any reset (R95). -/
def peers : PeerTable where
  entries := List.replicate 16 freePeer
  conflicts := []
  refusals := 0
  adjacentUp := none
  adjacentDown := none

/-- A CLEAR cell with its counters at 0 and no verdict yet (R115). -/
def clearCell : Cell where
  state := .clear
  condition := 0
  falses := 0
  unknowns := 0
  verdict := .notJudged

/-- The Continuity Assessor after any reset (R115). -/
def assessor : Assessor where
  lastEpoch := none
  map := none
  phaseBoundary := allPhases none
  residualBoundary := none
  openDown := allPhases clearCell
  openUp := allPhases clearCell
  groundDown := clearCell
  groundUp := clearCell

/-- The Claim Register after any reset (R138). -/
def register : Register where
  records := []
  pairs := []

/-- The runtime state of a linkage entry after any reset (R155). -/
def entryRuntime : EntryRuntime where
  spent := false
  wouldTrip := false
  timer := .off

/-- An IDLE trip record with its line released (R155). -/
def tripRecord : TripRecord where
  state := .idle
  entry := none
  timer := 0
  zone := none
  span := none
  driven := false

/-- The Trip Linkage after any reset, holding the levels its inputs present (R155). -/
def linkage (pen open0 open1 : Bool) : Linkage where
  entries := List.replicate 8 entryRuntime
  trip0 := tripRecord
  trip1 := tripRecord
  trips := []
  pen := pen
  open0 := open0
  open1 := open1

/-- The fault unit after any reset (R170). -/
def fault : FaultUnit where
  busyUnbroken := false
  busyEpochs := 0
  jammed := false
  timeouts := 0
  xcvrFault := false
  silence := 0
  livePeers := false
  silent := false
  impaired := false

/-- The station port after any reset, around the image as the reset leaves it (R178, R179, R184). DESIGN CHOICE
(log 15, log 18): nothing has been shifted out and no validation has begun. -/
def port (image : Image) : Port where
  busy := false
  validationStart := 0
  image := image
  reply := ⟨.ok, .runState .config⟩
  shifted := none
  events := []
  eventSequence := 0
  attention := false

end Init

/-- The part right after a power-on reset (R184), its reset pin released and its inputs deasserted, the timebase at 0
(DESIGN CHOICE, logs 4, 5 and 7), with no command waiting. -/
def State.reset : State where
  run := .config
  resetHeld := false
  timebase := 0
  penPin := false
  openPin0 := false
  openPin1 := false
  busyPin := false
  tracker := Init.tracker Init.clearedImage
  sampling := Init.sampling
  engine := Init.engine
  detector := Init.detector
  link := Init.link
  timeline := Init.timeline
  peers := Init.peers
  assessor := Init.assessor
  register := Init.register
  linkage := Init.linkage false false false
  fault := Init.fault
  port := Init.port Init.clearedImage
  choices := 0
  pending := []

end Sys2Proof.Machine
end

