-- ==== Sys2Proof/Machine/Ops.lean ====
section
/-! DEFINITION. Operations that several blocks share: tick and epoch differences, saturating counts, per-phase access,
the integer square root, the CRC, and the admission of an event to the Event Queue. -/

namespace Sys2Proof

/-- The value of one phase. -/
def PerPhase.get {α : Type} (m : PerPhase α) : Phase → α
  | .one => m.p1
  | .two => m.p2
  | .three => m.p3

/-- One phase's value replaced. -/
def PerPhase.set {α : Type} (m : PerPhase α) (φ : Phase) (a : α) : PerPhase α :=
  match φ with
  | .one => { m with p1 := a }
  | .two => { m with p2 := a }
  | .three => { m with p3 := a }

/-- A function applied to each phase's value. -/
def PerPhase.map {α β : Type} (f : α → β) (m : PerPhase α) : PerPhase β := ⟨f m.p1, f m.p2, f m.p3⟩

/-- A function applied phase by phase to two families. -/
def PerPhase.zip {α β γ : Type} (f : α → β → γ) (m : PerPhase α) (n : PerPhase β) : PerPhase γ :=
  ⟨f m.p1 n.p1, f m.p2 n.p2, f m.p3 n.p3⟩

/-- Whether a mask holds at least one phase. -/
def PerPhase.some (m : PerPhase Bool) : Bool := m.p1 || m.p2 || m.p3

/-- The phases in ascending order. -/
def Phase.ascending : List Phase := [.one, .two, .three]

/-- The number of a phase. -/
def Phase.number : Phase → Nat
  | .one => 1
  | .two => 2
  | .three => 3

end Sys2Proof

namespace Sys2Proof.Machine

/-! ## Ticks, epochs and counts -/

/-- The difference of two tick times, taken as a signed 32-bit value (R1). -/
def tickDiff (a b : Tick) : Int := (a - b).toInt

/-- A tick time moved by a signed number of ticks. -/
def tickAdd (t : Tick) (n : Int) : Tick := t + BitVec.ofInt 32 n

/-- The difference of two epoch numbers in -32768..32767 (00_scope.md). -/
def epochDiff (a b : EpochNum) : Int := (a - b).toInt

/-- A count raised by 1, saturating at `limit`. -/
def raise (limit n : Nat) : Nat := if n < limit then n + 1 else limit

/-- The 16-bit saturating counters of the part. -/
def raise16 (n : Nat) : Nat := raise 65535 n

/-- The timebase carried forward to `t`, or left where it has already passed `t` (log 1). -/
def advanceTo (s : State) (t : Tick) : State :=
  if 0 < tickDiff t s.timebase then { s with timebase := t } else s

/-- The timebase carried forward to an instant that exists, if it does. -/
def advanceToSome (s : State) (t : Option Tick) : State :=
  match t with
  | some t => advanceTo s t
  | none => s

/-- The next value of the counter of free orders, and the state with the counter advanced (log 7). -/
def nextChoice (s : State) : Nat × State := (s.choices, { s with choices := s.choices + 1 })

/-- Two events of one instant, of which the spec lets either be taken first: in a free order where they race, and `second` before
`first` where they do not and the order shows nothing (log 7). -/
def eitherOrder (race : Bool) (firstFirst : Nat → Bool) (first second : State → State) (s : State) : State :=
  if race then
    let c := nextChoice s
    if firstFirst c.1 then second (first c.2) else first (second c.2)
  else first (second s)

/-! ## Arithmetic -/

/-- The bit-by-bit search of `isqrt`: `bits` bits are still to be tried on the root `r`. -/
def isqrtFrom : Nat → Nat → Nat → Nat
  | 0, _, r => r
  | bits + 1, n, r =>
    let c := r + 2 ^ bits
    if c * c ≤ n then isqrtFrom bits n c else isqrtFrom bits n r

/-- The largest integer whose square does not exceed `n`, for `n` below 2^30 (R23: mean squares go to 603,979,776). -/
def isqrt (n : Nat) : Nat := isqrtFrom 15 n 0

/-- Seven values combined channel by channel. -/
def Means.zip (f : Nat → Nat → Nat) (a b : Means) : Means :=
  ⟨PerPhase.zip f a.i b.i, PerPhase.zip f a.v b.v, f a.r b.r⟩

/-- Seven values mapped channel by channel. -/
def Means.map (f : Nat → Nat) (a : Means) : Means := ⟨a.i.map f, a.v.map f, f a.r⟩

/-- The absolute difference of two counts. -/
def absDiff (a b : Nat) : Nat := (a - b) + (b - a)

/-! ## The CRC of frames (R63) -/

/-- One bit of the CRC register with generator 0x1021. -/
def crcShift (c : BitVec 16) : BitVec 16 :=
  if c.getLsbD 15 then (c <<< 1) ^^^ 0x1021#16 else c <<< 1

/-- `k` bits of the CRC register. -/
def crcShifts : Nat → BitVec 16 → BitVec 16
  | 0, c => c
  | k + 1, c => crcShifts k (crcShift c)

/-- One byte entered, most significant bit first. -/
def crcByte (c : BitVec 16) (b : Byte) : BitVec 16 :=
  crcShifts 8 (c ^^^ ((b.zeroExtend 16) <<< 8))

/-- The CRC over a list of bytes, from 0xFFFF, without reflection and without final inversion. -/
def crc16 (bytes : List Byte) : BitVec 16 := bytes.foldl crcByte 0xFFFF#16

/-! ## Spans and zones -/

/-- A span lies within a zone (R148, R156). -/
def Span.within (x : Span) (z : Zone) : Bool := z.lo ≤ x.up && x.down ≤ z.hi

/-- The intersection of two spans, whether or not it is empty. -/
def Span.meet (x y : Span) : Span := ⟨max x.up y.up, min x.down y.down⟩

/-- Two spans intersect: max(u, u') < min(d, d') (R151, R153). -/
def Span.intersects (x y : Span) : Bool := max x.up y.up < min x.down y.down

/-- Two masks share a phase (R151). -/
def masksMeet (a b : PerPhase Bool) : Bool := (PerPhase.zip (· && ·) a b).some

/-! ## Events (R186, R187) -/

/-- An event recorded: admitted as the queue's newest record with the next sequence number and the own epoch number
current; at a full queue the oldest record is discarded and the new one carries GAP. The attention line is asserted. -/
def record (s : State) (kind : EventKind) (subject : EventSubject) (span : Option Span) (detail : Detail) : State :=
  let full : Bool := Config.eventQueueSize ≤ s.port.events.length
  let e : Event := ⟨kind, s.tracker.epoch, s.port.eventSequence, subject, span, detail, full⟩
  { s with port := { s.port with
      events := (if full then s.port.events.tail else s.port.events) ++ [e]
      eventSequence := s.port.eventSequence + 1
      attention := true } }

/-! ## Lists -/

/-- The entry at an index replaced by a function of it. -/
def modifyAt {α : Type} (f : α → α) : Nat → List α → List α
  | _, [] => []
  | 0, a :: as => f a :: as
  | k + 1, a :: as => a :: modifyAt f k as

/-- The index of the first element that meets a test, counted from `k`. -/
def findIndexFrom {α : Type} (p : α → Bool) : Nat → List α → Option Nat
  | _, [] => none
  | k, a :: as => if p a then some k else findIndexFrom p (k + 1) as

/-- The index of the first element that meets a test. -/
def findIndex {α : Type} (p : α → Bool) (l : List α) : Option Nat := findIndexFrom p 0 l

end Sys2Proof.Machine
end

