-- ==== Sys2Proof/Machine/Operands.lean ====
section
/-! DEFINITION. Frames: the one layout of the link (section 4.3), read and written, and the receive filter (R64). -/

namespace Sys2Proof.Machine

/-! ## Layout -/

/-- The fields of a frame header but for the kind (section 4.3). -/
structure Header where
  segment : Nat
  sender : Nat
  position : Nat
  epoch : EpochNum
  stamp : Nat
  n : Nat
  flags : BitVec 8
deriving DecidableEq, Repr

/-- The payload of a REPORT (R61). -/
structure ReportPayload where
  means : Means
  irregularity : Nat
  validCycles : Nat
  ref : Phase
  mode : TrackerMode
  slewed : Bool
deriving DecidableEq, Repr

/-- The payloads of the five kinds (section 4.3). -/
inductive Payload where
  | report (p : ReportPayload)
  | alert (c : AlertContent)
  | claim (c : ClaimContent) (refresh : Bool)
  | release (c : ClaimContent) (refresh : Bool)
  | tripped (c : TrippedContent)
deriving DecidableEq, Repr

/-- A whole frame. -/
structure Frame where
  header : Header
  payload : Payload
deriving DecidableEq, Repr

/-- The kind code of a payload. -/
def Payload.kind : Payload → Nat
  | .report _ => 1
  | .alert _ => 2
  | .claim _ _ => 3
  | .release _ _ => 4
  | .tripped _ => 5

/-! ## Writing -/

/-- One byte. -/
def put8 (n : Nat) : List Byte := [BitVec.ofNat 8 n]

/-- Two bytes, high byte first (R63). -/
def put16 (n : Nat) : List Byte := [BitVec.ofNat 8 (n / 256), BitVec.ofNat 8 n]

/-- Three flags as bits 0, 1 and 2: a phase mask or a cause mask. -/
def bits3 (a b c : Bool) : Nat := a.toNat + 2 * b.toNat + 4 * c.toNat

/-- The tracker state code of a REPORT. -/
def modeCode : TrackerMode → Nat
  | .seeking => 0
  | .locked => 1
  | .holdover => 2

/-- The kind code of a claim. -/
def kindCode : ClaimKind → Nat
  | .openConductor => 1
  | .ground => 2

/-- The end code of a claim. -/
def endCode : SpanEnd → Nat
  | .u => 1
  | .d => 2

/-- The result code of a TRIPPED. -/
def resultCode : TripResult → Nat
  | .success => 1
  | .failed => 2

/-- The output code of a TRIPPED. -/
def outputCode : Output → Nat
  | .trip0 => 0
  | .trip1 => 1

/-- Seven values, two bytes each. -/
def putMeans (m : Means) : List Byte :=
  put16 m.i.p1 ++ put16 m.i.p2 ++ put16 m.i.p3 ++ put16 m.v.p1 ++ put16 m.v.p2 ++ put16 m.v.p3 ++ put16 m.r

/-- The payload of a CLAIM or RELEASE. -/
def putClaim (c : ClaimContent) (refresh : Bool) : List Byte :=
  put16 c.span.up ++ put16 c.span.down ++ put8 (kindCode c.kind) ++ put8 (bits3 c.mask.p1 c.mask.p2 c.mask.p3) ++
    put8 (endCode c.fin) ++ put8 refresh.toNat

/-- The payload of a frame. -/
def putPayload : Payload → List Byte
  | .report p => putMeans p.means ++ put16 p.irregularity ++ put8 p.validCycles ++
      put8 (64 * p.ref.number + 16 * modeCode p.mode + 8 * p.slewed.toNat)
  | .alert c => put8 c.sequence.toNat ++ put8 (bits3 c.cause.a c.cause.b c.cause.c) ++ putMeans c.values
  | .claim c refresh => putClaim c refresh
  | .release c refresh => putClaim c refresh
  | .tripped c => put8 (resultCode c.result) ++ put8 (outputCode c.output) ++ put16 c.zone.lo ++ put16 c.zone.hi ++
      put16 c.span.up ++ put16 c.span.down

/-- The header of a frame of a given kind. -/
def putHeader (kind : Nat) (h : Header) : List Byte :=
  put8 kind ++ put8 h.segment ++ put16 h.sender ++ put16 h.position ++ put16 h.epoch.toNat ++ put16 h.stamp ++
    put8 h.n ++ [h.flags]

/-- The bytes of a frame: header, payload, CRC (R55, R63). -/
def putFrame (f : Frame) : List Byte :=
  let body := putHeader f.payload.kind f.header ++ putPayload f.payload
  body ++ put16 (crc16 body).toNat

/-! ## Reading -/

/-- The byte at an offset. -/
def get8 (bytes : List Byte) (k : Nat) : Nat := (bytes.getD k 0).toNat

/-- The two bytes at an offset, high byte first. -/
def get16 (bytes : List Byte) (k : Nat) : Nat := get8 bytes k * 256 + get8 bytes (k + 1)

/-- The header. -/
def getHeader (bytes : List Byte) : Header where
  segment := get8 bytes 1
  sender := get16 bytes 2
  position := get16 bytes 4
  epoch := BitVec.ofNat 16 (get16 bytes 6)
  stamp := get16 bytes 8
  n := get8 bytes 10
  flags := bytes.getD 11 0

/-- Three flags read from bits 0, 1 and 2. -/
def getMask (bytes : List Byte) (k : Nat) : PerPhase Bool :=
  let b := bytes.getD k 0
  ⟨b.getLsbD 0, b.getLsbD 1, b.getLsbD 2⟩

/-- Seven values from an offset. -/
def getMeans (bytes : List Byte) (k : Nat) : Means :=
  ⟨⟨get16 bytes k, get16 bytes (k + 2), get16 bytes (k + 4)⟩,
   ⟨get16 bytes (k + 6), get16 bytes (k + 8), get16 bytes (k + 10)⟩, get16 bytes (k + 12)⟩

/-- Every magnitude in the range of the layout table (R64). -/
def meansInRange (m : Means) : Bool :=
  m.i.p1 ≤ 8192 && m.i.p2 ≤ 8192 && m.i.p3 ≤ 8192 && m.v.p1 ≤ 8192 && m.v.p2 ≤ 8192 && m.v.p3 ≤ 8192 && m.r ≤ 24576

/-- A reference phase code 1..3. -/
def phaseOf : Nat → Option Phase
  | 1 => some .one
  | 2 => some .two
  | 3 => some .three
  | _ => none

/-- A tracker state code 0..2. -/
def modeOf : Nat → Option TrackerMode
  | 0 => some .seeking
  | 1 => some .locked
  | 2 => some .holdover
  | _ => none

/-- A claim kind code. -/
def kindOf : Nat → Option ClaimKind
  | 1 => some .openConductor
  | 2 => some .ground
  | _ => none

/-- An end code. -/
def endOf : Nat → Option SpanEnd
  | 1 => some .u
  | 2 => some .d
  | _ => none

/-- A result code. -/
def resultOf : Nat → Option TripResult
  | 1 => some .success
  | 2 => some .failed
  | _ => none

/-- An output code. -/
def outputOf : Nat → Option Output
  | 0 => some .trip0
  | 1 => some .trip1
  | _ => none

/-- A REPORT's payload with every field in range, or none (R64). -/
def getReport (bytes : List Byte) : Option Payload :=
  match phaseOf (get8 bytes 29 / 64), modeOf (get8 bytes 29 / 16 % 4) with
  | some ref, some mode =>
    let m := getMeans bytes 12
    if meansInRange m && get8 bytes 28 ≤ 17 then
      some (.report ⟨m, get16 bytes 26, get8 bytes 28, ref, mode, (bytes.getD 29 0).getLsbD 3⟩)
    else none
  | _, _ => none

/-- An ALERT's payload with every field in range, or none (R64). -/
def getAlert (bytes : List Byte) : Option Payload :=
  let m := getMeans bytes 14
  let c := getMask bytes 13
  if meansInRange m then some (.alert ⟨bytes.getD 12 0, ⟨c.p1, c.p2, c.p3⟩, m⟩) else none

/-- A CLAIM's or RELEASE's content with every field in range, or none (R64). -/
def getClaim (bytes : List Byte) : Option ClaimContent :=
  match kindOf (get8 bytes 16), endOf (get8 bytes 18) with
  | some kind, some fin =>
    let span : Span := ⟨get16 bytes 12, get16 bytes 14⟩
    let mask := getMask bytes 17
    if span.up < span.down && !(kind = .ground && mask.some) then some ⟨span, kind, mask, fin⟩ else none
  | _, _ => none

/-- The REFRESH flag. -/
def getRefresh (bytes : List Byte) : Bool := (bytes.getD 19 0).getLsbD 0

/-- A TRIPPED's content with every field in range, or none (R64). -/
def getTripped (bytes : List Byte) : Option Payload :=
  match resultOf (get8 bytes 12), outputOf (get8 bytes 13) with
  | some result, some output =>
    let zone : Zone := ⟨get16 bytes 14, get16 bytes 16⟩
    let span : Span := ⟨get16 bytes 18, get16 bytes 20⟩
    if zone.lo ≤ zone.hi && span.up < span.down then some (.tripped ⟨result, output, zone, span⟩) else none
  | _, _ => none

/-- The payload of a kind with every field in range, or none (R64). -/
def getPayload (kind : Nat) (bytes : List Byte) : Option Payload :=
  match kind with
  | 1 => getReport bytes
  | 2 => getAlert bytes
  | 3 => (getClaim bytes).map (fun c => .claim c (getRefresh bytes))
  | 4 => (getClaim bytes).map (fun c => .release c (getRefresh bytes))
  | 5 => getTripped bytes
  | _ => none

/-- The header's fields in range (R64). -/
def headerInRange (h : Header) : Bool :=
  1 ≤ h.sender && h.sender ≤ 65534 && h.position ≤ 4095 && 4 ≤ h.n && h.n ≤ 16 && h.stamp < 32 * h.n

/-- The length of a frame of a kind 1..5 (section 4.3). -/
def frameLength : Nat → Nat
  | 1 => 32
  | 2 => 30
  | 3 => 22
  | 4 => 22
  | _ => 24

/-! ## The receive filter (R64) -/

/-- The six causes of a drop, in the order of the checks (R64). -/
inductive DropCause where
  | crc
  | unknownKind
  | length
  | malformed
  | foreignSegment
  | ownId
deriving DecidableEq, Repr

/-- What the filter makes of a delivered frame. -/
inductive Filtered where
  | dropped (cause : DropCause)
  | valid (frame : Frame)
deriving DecidableEq, Repr

/-- The CRC of a frame of at least 14 bytes matches its last two bytes (R63, R64). -/
def crcMatches (bytes : List Byte) : Bool :=
  14 ≤ bytes.length &&
    (crc16 (bytes.take (bytes.length - 2))).toNat = get16 bytes (bytes.length - 2)

/-- The checks of R64 in their order: the first that fails drops the frame. -/
def receiveFilter (image : Image) (bytes : List Byte) : Filtered :=
  let kind := get8 bytes 0
  let h := getHeader bytes
  if !crcMatches bytes then .dropped .crc
  else if !(1 ≤ kind && kind ≤ 5) then .dropped .unknownKind
  else if bytes.length ≠ frameLength kind then .dropped .length
  else
    match getPayload kind bytes with
    | none => .dropped .malformed
    | some payload =>
      if !headerInRange h then .dropped .malformed
      else if h.segment ≠ image.segment then .dropped .foreignSegment
      else if h.sender = image.stationId then .dropped .ownId
      else .valid ⟨h, payload⟩

/-- The counter of a drop cause raised (R64). -/
def DropCounters.count (d : DropCounters) : DropCause → DropCounters
  | .crc => { d with crc := raise16 d.crc }
  | .unknownKind => { d with unknownKind := raise16 d.unknownKind }
  | .length => { d with length := raise16 d.length }
  | .malformed => { d with malformed := raise16 d.malformed }
  | .foreignSegment => { d with foreignSegment := raise16 d.foreignSegment }
  | .ownId => { d with ownId := raise16 d.ownId }

/-! ## The image as LOAD_CONFIG stores it (R181) -/

/-- A number saturated into a range. -/
def clamp (lo hi n : Nat) : Nat := max lo (min n hi)

/-- A stored linkage entry from a loaded one (section 11.2). -/
def storeEntry (e : RawEntry) : LinkageEntry where
  zone := ⟨clamp 0 4095 e.zlo, clamp 0 4095 e.zhi⟩
  acceptsOpen := e.kinds.testBit 0
  acceptsGround := e.kinds.testBit 1
  requirement := match e.requirement with | 0 => .both | 1 => .either | _ => .delayed
  delay := clamp 1 30 e.delay
  mapCheck := e.mapCheck ≠ 0
  trip0 := e.outputs.testBit 0
  trip1 := e.outputs.testBit 1
  role := match e.role with | 0 => .primary | _ => .backup
  backupEpochs := clamp 1 30 e.backup
  degraded := match e.degraded with | 0 => .same | 1 => .either | _ => .hold

/-- An entry of zeros, for a place the loaded image leaves out (log 16). -/
def zeroEntry : RawEntry := ⟨0, 0, 0, 0, 0, 0, 0, 0, 0, 0⟩

/-- The loaded entries that are part of the image: as many as the stored count (R181). -/
def keptEntries (r : RawImage) : List RawEntry :=
  (List.range (clamp 0 8 r.entryCount)).map (fun k => r.entries.getD k zeroEntry)

/-- The stored image from a loaded one (R181, section 11.2): station id, segment code, N and W are kept as loaded. -/
def storeImage (r : RawImage) : Image where
  stationId := r.stationId
  segment := r.segment
  position := clamp 0 4095 r.position
  hz60 := r.frequency = 60
  preferred := (phaseOf (clamp 1 3 r.preferredPhase)).getD .one
  n := r.n
  w := r.w
  vlive := clamp 1 8191 r.vlive
  vdead := clamp 1 8191 r.vdead
  vrefFloor := clamp 1 8191 r.vrefFloor
  istep := clamp 1 8191 r.istep
  idrop := clamp 1 8191 r.idrop
  irregMin := clamp 1 8191 r.irregMin
  rground := clamp 1 24575 r.rground
  rstep := clamp 1 24575 r.rstep
  vloss := clamp 1 255 r.vloss
  rsplit := clamp 1 255 r.rsplit
  k := clamp 2 8 r.k
  repeats := clamp 0 3 r.repeats
  settleCount := clamp 4 32 r.settleCount
  confirmTimeout := clamp 3 60 r.confirmTimeout
  entries := (keptEntries r).map storeEntry

/-- The item, if storing changed it. -/
def changed (item : ImageItem) (entry : Option Nat) (loaded stored : Nat) : List ClampedItem :=
  if loaded = stored then [] else [⟨item, entry⟩]

/-- The items of a linkage entry that storing changes (R181). -/
def changedInEntry (k : Nat) (e : RawEntry) : List ClampedItem :=
  changed .zlo (some k) e.zlo (clamp 0 4095 e.zlo) ++
  changed .zhi (some k) e.zhi (clamp 0 4095 e.zhi) ++
  changed .kinds (some k) e.kinds (e.kinds % 4) ++
  changed .requirement (some k) e.requirement (min e.requirement 2) ++
  changed .delay (some k) e.delay (clamp 1 30 e.delay) ++
  changed .mapCheck (some k) e.mapCheck (min e.mapCheck 1) ++
  changed .outputs (some k) e.outputs (e.outputs % 4) ++
  changed .role (some k) e.role (min e.role 1) ++
  changed .backup (some k) e.backup (clamp 1 30 e.backup) ++
  changed .degraded (some k) e.degraded (min e.degraded 2)

/-- The changed items of the linkage entries from index `k` on. -/
def changedInEntries : Nat → List RawEntry → List ClampedItem
  | _, [] => []
  | k, e :: es => changedInEntry k e ++ changedInEntries (k + 1) es

/-- Every item that storing changes, in the order of the table of section 11.2 (R181). -/
def changedItems (r : RawImage) : List ClampedItem :=
  changed .position none r.position (clamp 0 4095 r.position) ++
  changed .frequency none r.frequency (if r.frequency = 60 then 60 else 50) ++
  changed .preferredPhase none r.preferredPhase (clamp 1 3 r.preferredPhase) ++
  changed .vlive none r.vlive (clamp 1 8191 r.vlive) ++
  changed .vdead none r.vdead (clamp 1 8191 r.vdead) ++
  changed .vrefFloor none r.vrefFloor (clamp 1 8191 r.vrefFloor) ++
  changed .istep none r.istep (clamp 1 8191 r.istep) ++
  changed .idrop none r.idrop (clamp 1 8191 r.idrop) ++
  changed .irregMin none r.irregMin (clamp 1 8191 r.irregMin) ++
  changed .rground none r.rground (clamp 1 24575 r.rground) ++
  changed .rstep none r.rstep (clamp 1 24575 r.rstep) ++
  changed .vloss none r.vloss (clamp 1 255 r.vloss) ++
  changed .rsplit none r.rsplit (clamp 1 255 r.rsplit) ++
  changed .k none r.k (clamp 2 8 r.k) ++
  changed .repeats none r.repeats (clamp 0 3 r.repeats) ++
  changed .settleCount none r.settleCount (clamp 4 32 r.settleCount) ++
  changed .confirmTimeout none r.confirmTimeout (clamp 3 60 r.confirmTimeout) ++
  changed .entryCount none r.entryCount (clamp 0 8 r.entryCount) ++
  changedInEntries 0 (keptEntries r)

/-! ## Validation at START (R182) -/

/-- The index of the first linkage entry that meets a test. -/
def firstEntry (image : Image) (p : LinkageEntry → Bool) : Option Nat := findIndex p image.entries

/-- The checks of R182 in turn: the code of the first that fails, with the entry index for checks 6 and 7. -/
def failedCheck (image : Image) : Option (Nat × Option Nat) :=
  if image.stationId = 0 || image.stationId = 65535 then some (1, none)
  else if image.segment = 0 || image.segment = 255 then some (2, none)
  else if !(4 ≤ image.n && image.n ≤ 16) then some (3, none)
  else if !(1 ≤ image.w && image.w < image.n) then some (4, none)
  else if image.vlive ≤ image.vdead then some (5, none)
  else match firstEntry image (fun e => e.zone.hi < e.zone.lo) with
  | some k => some (6, some k)
  | none => match firstEntry image (fun e => !(e.trip0 || e.trip1)) with
    | some k => some (7, some k)
    | none => none

end Sys2Proof.Machine
end

