-- ==== Sys2Proof/Machine/Flags.lean ====
section
/-! DEFINITION. The flags of a frame header (R60) and the frame a queue entry makes at hand-over (R60 to R62). -/

namespace Sys2Proof.Machine

/-- Eight flags as a byte, bit 7 first. -/
def flagByte (b7 b6 b5 b4 b3 b2 b1 b0 : Bool) : BitVec 8 :=
  BitVec.ofNat 8 (128 * b7.toNat + 64 * b6.toNat + 32 * b5.toNat + 16 * b4.toNat + 8 * b3.toNat + 4 * b2.toNat +
    2 * b1.toNat + b0.toNat)

/-- The header flags at hand-over: of a REPORT's record for HOLDOVER, UNLOCKED and INVALID, of the station otherwise
(R60). -/
def headerFlags (s : State) (item : QueueItem) : BitVec 8 :=
  let holdover : Bool := match item with
    | .report r => r.holdover
    | _ => s.tracker.mode = .holdover
  let unlocked : Bool := match item with
    | .report r => r.unlocked
    | _ => s.tracker.mode = .seeking
  let invalid : Bool := match item with
    | .report r => r.invalid
    | _ => false
  flagByte (s.detector.assessment = .disturbed) (s.detector.assessment = .deenergized) holdover unlocked invalid
    s.link.vigilant s.fault.impaired (s.detector.assessment = .blind)

/-- The INVALID, HOLDOVER and UNLOCKED flags of a received header (section 4.3). -/
def Header.invalid (h : Header) : Bool := h.flags.getLsbD 3
def Header.holdover (h : Header) : Bool := h.flags.getLsbD 5
def Header.unlocked (h : Header) : Bool := h.flags.getLsbD 4

/-- The stamp position: cycle index times 32 plus the index of the most recent strobe (R14). -/
def stampPosition (s : State) : Nat := s.tracker.cycleIndex * Config.strobes + s.sampling.strobe.getD 0

/-- The own epoch number and stamp position at this instant (R14). -/
def ownStamp (s : State) : Stamp := ⟨s.tracker.epoch, stampPosition s⟩

/-- The payload of a queue entry (R61, R62). -/
def QueueItem.payload : QueueItem → Payload
  | .report r => .report ⟨r.means, r.irregularity, r.validCycles, r.ref, r.mode, r.slewed⟩
  | .alert c => .alert c
  | .claim c refresh => .claim c refresh
  | .release c => .release c false
  | .tripped c => .tripped c

/-- The frame of a queue entry, stamped at this instant (R60). -/
def stampedFrame (s : State) (item : QueueItem) : Frame where
  header :=
    { segment := s.port.image.segment
      sender := s.port.image.stationId
      position := s.port.image.position
      epoch := s.tracker.epoch
      stamp := stampPosition s
      n := s.port.image.n
      flags := headerFlags s item }
  payload := item.payload

end Sys2Proof.Machine
end

