-- ==== Sys2Proof/Machine/Tracker.lean ====
section
/-! DEFINITION. The Cycle Tracker (Chapter 1): crossings, the flywheel, the reference phase and the epoch counter, as
functions of the tracker and the image. Events they record are returned with them. -/

namespace Sys2Proof.Machine

/-- An event of the tracker: its kind, and the phase that is its detail. -/
abbrev TrackerEvent := EventKind × Phase

/-! ## Intervals that follow from P (section 1.1) -/

def Tracker.blanking (k : Tracker) : Int := (k.period / 4 : Nat)
def Tracker.halfWindow (k : Tracker) : Int := (k.period / 16 : Nat)
def Tracker.sampleInterval (k : Tracker) : Nat := k.period / 32
def Tracker.tolerance (k : Tracker) : Int := (k.period / 64 : Nat)
def Tracker.offsetLimit (k : Tracker) : Int := (k.period / 2 : Nat)

/-! ## Health and priority -/

/-- A phase is healthy (R10). -/
def healthy (image : Image) (k : Tracker) (φ : Phase) : Bool :=
  if k.validAge < 4 then image.vrefFloor ≤ k.health.get φ else k.miss.get φ ≤ 1

/-- The priority order: the preferred phase first, then the other two ascending (R4). -/
def priority : Phase → List Phase
  | .one => [.one, .two, .three]
  | .two => [.two, .one, .three]
  | .three => [.three, .one, .two]

/-- The two phases after the current one in priority order, wrapping (R4). -/
def phasesAfter (preferred cur : Phase) : List Phase :=
  match priority preferred with
  | [a, b, c] => if cur = a then [b, c] else if cur = b then [c, a] else [a, b]
  | _ => []

/-- The first healthy phase of a list. -/
def firstHealthy (image : Image) (k : Tracker) (φs : List Phase) : Option Phase := φs.find? (healthy image k)

/-! ## Crossings -/

/-- What every accepted crossing does: the phase's miss counter to 0, and blanking from the capture (R1, R2). -/
def acceptCrossing (φ : Phase) (t : Tick) (k : Tracker) : Tracker :=
  { k with
    miss := k.miss.set φ 0
    crossed := k.crossed.set φ true
    blankEnd := k.blankEnd.set φ (some (tickAdd t k.blanking)) }

/-- A measured period lies in window (R3, R7). -/
def periodInWindow (k : Tracker) (m : Int) : Bool :=
  Config.periodMin ≤ m && m ≤ Config.periodMax && (m - k.period).natAbs ≤ k.tolerance.toNat

/-- P moved by an eighth of the difference, truncated toward zero (R3, R7). -/
def movedPeriod (k : Tracker) (m : Int) : Nat := (k.period + (m - k.period).tdiv 8 : Int).toNat

/-- The measured period of a capture, where there is a last reference capture. -/
def measuredPeriod (k : Tracker) (t : Tick) : Option Int := k.lastRef.map (fun c => tickDiff t c.tick)

/-- A seek crossing (R3). -/
def seekCrossing (t : Tick) (k : Tracker) : Tracker :=
  let moved : Tracker := match measuredPeriod k t with
    | some m =>
      if periodInWindow k m then { k with period := movedPeriod k m, accepts := raise 4 k.accepts }
      else { k with accepts := 1 }
    | none => { k with accepts := 1 }
  let taken : Tracker := { acceptCrossing k.ref t k with
    period := moved.period
    accepts := moved.accepts
    lastRef := some ⟨t, true⟩
    next := some (tickAdd t moved.period) }
  if taken.accepts = 4 then
    { taken with mode := .locked, offset := some 0, windowNow := .passed, windowNext := .awaiting }
  else taken

/-- P after a crossing accepted in LOCKED (R7): a period is formed only from an accepted last capture. -/
def updatedPeriod (t : Tick) (k : Tracker) : Nat :=
  match k.lastRef with
  | some c =>
    let m := tickDiff t c.tick
    if c.accepted && periodInWindow k m then movedPeriod k m else k.period
  | none => k.period

/-- The phase error of a capture against an anchor (R6). -/
def phaseError (t : Tick) (offset : Int) (anchor : Tick) : Int := tickDiff t anchor - offset

/-- A capture falls inside the window of an anchor (R5). -/
def inWindow (k : Tracker) (t : Tick) (offset : Int) (anchor : Tick) : Bool :=
  (phaseError t offset anchor).natAbs ≤ k.halfWindow.toNat

/-- The reference crossing of a LOCKED tracker inside the window of its current anchor, fallen or to come, or a stray
(R6, R8). -/
def lockedCrossing (t : Tick) (offset : Int) (k : Tracker) : Tracker :=
  match k.anchor, k.next with
  | some anchor, some next =>
    if k.windowNow = .awaiting && inWindow k t offset anchor then
      let p := updatedPeriod t k
      { acceptCrossing k.ref t k with
        period := p
        next := some (tickAdd anchor (p + (phaseError t offset anchor).tdiv 4))
        lastRef := some ⟨t, true⟩
        windowNow := .accepted }
    else if k.windowNext = .awaiting && inWindow k t offset next then
      { acceptCrossing k.ref t k with
        period := updatedPeriod t k
        correction := (phaseError t offset next).tdiv 4
        lastRef := some ⟨t, true⟩
        windowNext := .accepted }
    else k
  | _, _ => k

/-- The crossing that learns the reference offset against the nearer anchor (R11). DEDUCED (log 11): the anchor before
lies one P before, the anchor after is the next boundary. -/
def learnOffset (t : Tick) (k : Tracker) : Tracker :=
  let taken : Tracker := { acceptCrossing k.ref t k with lastRef := some ⟨t, true⟩ }
  match k.anchor, k.next with
  | some anchor, some next =>
    let d := tickDiff t anchor
    if d.natAbs ≤ k.offsetLimit.toNat then
      { taken with offset := some d, windowNow := .accepted, windowNext := .awaiting }
    else if 0 < d then
      { taken with offset := some (tickDiff t next), windowNow := .passed, windowNext := .accepted }
    else
      { taken with offset := some (d + k.period), windowNow := .awaiting, windowNext := .awaiting }
  | _, _ => taken

/-- The acceptance window closed without an accepted crossing (R8). -/
def windowMissed (k : Tracker) : Tracker :=
  { k with
    miss := k.miss.set k.ref (raise 3 (k.miss.get k.ref))
    lastRef := k.lastRef.map (fun c => { c with accepted := false }) }

/-- The last instant of the window of an anchor (R5). -/
def windowEnd (k : Tracker) (offset : Int) (anchor : Tick) : Tick := tickAdd anchor (offset + k.halfWindow)

/-- The windows that have closed before `t` without a crossing, taken in order (R8, log 10). -/
def closeWindows (t : Tick) (k : Tracker) : Tracker :=
  match k.mode, k.offset, k.anchor, k.next with
  | .locked, some offset, some anchor, some next =>
    let k := if k.windowNow = .awaiting && 0 < tickDiff t (windowEnd k offset anchor) then
        windowMissed { k with windowNow := .passed }
      else k
    if k.windowNext = .awaiting && 0 < tickDiff t (windowEnd k offset next) then
      windowMissed { k with windowNext := .passed }
    else k
  | _, _, _, _ => k

/-- The tick at which the next window to close has passed: one after its last instant, if it closes before the boundary
that the tracker awaits next or belongs to the fallen anchor (R8). -/
def windowPassing (k : Tracker) : Option Tick :=
  match k.mode, k.offset, k.anchor, k.next with
  | .locked, some offset, some anchor, some next =>
    if k.windowNow = .awaiting then some (windowEnd k offset anchor + 1)
    else if k.windowNext = .awaiting && offset + k.halfWindow < 0 then some (windowEnd k offset next + 1)
    else none
  | _, _, _, _ => none

/-- The exit from HOLDOVER at an accepted crossing of a healthy phase (R13). -/
def holdoverCrossing (image : Image) (φ : Phase) (t : Tick) (k : Tracker) : Tracker × List TrackerEvent :=
  let k := acceptCrossing φ t k
  if healthy image k φ then
    ({ learnOffset t { k with ref := φ } with mode := .locked, preferredRun := 0 }, [(.holdoverExit, φ)])
  else (k, [])

/-- An edge arrives before its input's blanking end (R1). DESIGN CHOICE (log 12): an edge at the very instant of the
blanking end is captured. -/
def blanked (φ : Phase) (t : Tick) (k : Tracker) : Bool :=
  match k.blankEnd.get φ with
  | some b => tickDiff t b < 0
  | none => false

/-- A rising edge on the input of a phase, captured at `t`, in LISTEN and RUN (R1 to R3, R6, R8, R11, R13). -/
def edge (image : Image) (φ : Phase) (t : Tick) (k : Tracker) : Tracker × List TrackerEvent :=
  if blanked φ t k then (k, [])
  else
    let k := closeWindows t k
    match k.mode with
    | .holdover => holdoverCrossing image φ t k
    | .seeking => (if φ = k.ref then seekCrossing t k else acceptCrossing φ t k, [])
    | .locked =>
      if φ = k.ref then
        match k.offset with
        | none => (learnOffset t k, [])
        | some offset => (lockedCrossing t offset k, [])
      else (acceptCrossing φ t k, [])

/-! ## The cycle boundary -/

/-- The health inputs from the closed cycle (R9). -/
def updateHealth (valid : Bool) (v : PerPhase Nat) (k : Tracker) : Tracker :=
  if valid then { k with validAge := 0, health := v } else { k with validAge := raise 4 k.validAge }

/-- The boundary falls: it becomes the anchor, and the next boundary is set provisionally (R5). -/
def fall (k : Tracker) : Tracker :=
  { k with
    anchor := k.next
    next := k.next.map (fun b => tickAdd b (k.period + k.correction))
    correction := 0
    windowNow := k.windowNext
    windowNext := .awaiting }

/-- Whether the miss counter of a phase is counted at boundaries as that of a non-reference phase (R2, R11). -/
def countedAtBoundary (k : Tracker) (φ : Phase) : Bool :=
  φ ≠ k.ref || k.mode = .holdover || (k.mode = .locked && k.offset.isNone)

/-- The miss counter of a phase at a boundary (R2, R4). -/
def boundaryMiss (k : Tracker) (φ : Phase) : Nat :=
  let n := k.miss.get φ
  if countedAtBoundary k φ then (if k.crossed.get φ then n else raise 3 n)
  else if k.mode = .seeking then (if k.crossed.get φ then 0 else raise 3 n)
  else n

/-- The miss counters at a boundary, and the crossings counted anew for the new cycle (R2, R4). -/
def countMisses (k : Tracker) : Tracker :=
  { k with
    miss := ⟨boundaryMiss k .one, boundaryMiss k .two, boundaryMiss k .three⟩
    crossed := ⟨false, false, false⟩ }

/-- The next boundary at anchor plus P, as every switch made at a boundary sets it (R11, R13). -/
def plainNext (k : Tracker) : Option Tick := k.anchor.map (fun a => tickAdd a k.period)

/-- In SEEKING, the reference passes on when its miss counter has reached 3 (R4). -/
def seekSwitch (image : Image) (k : Tracker) : Tracker × List TrackerEvent :=
  if k.miss.get k.ref = 3 then
    let others := phasesAfter image.preferred k.ref
    let φ := (firstHealthy image k others).getD (others.headD k.ref)
    ({ k with ref := φ, accepts := 0, miss := k.miss.set φ 0, lastRef := none }, [(.refPhaseSwitch, φ)])
  else (k, [])

/-- The reference abandoned: a healthy phase takes it, or the tracker enters HOLDOVER (R11, R13). -/
def abandon (image : Image) (k : Tracker) : Tracker × List TrackerEvent :=
  match firstHealthy image k ((priority image.preferred).filter (· ≠ k.ref)) with
  | some φ =>
    ({ k with ref := φ, offset := none, miss := k.miss.set φ 0, lastRef := none, preferredRun := 0,
              next := plainNext k }, [(.refPhaseSwitch, φ)])
  | none =>
    ({ k with mode := .holdover, preferredRun := 0, next := plainNext k }, [(.holdoverEnter, k.ref)])

/-- The preferred-healthy run and the return it brings (R12). DESIGN CHOICE (log 13): the return forgets the last
reference capture, which was another phase's, and leaves the miss counter as it stands. -/
def preferredReturn (image : Image) (k : Tracker) : Tracker × List TrackerEvent :=
  if k.ref = image.preferred then ({ k with preferredRun := 0 }, [])
  else if healthy image k image.preferred then
    if raise 8 k.preferredRun = 8 then
      ({ k with ref := image.preferred, offset := none, lastRef := none, preferredRun := 0, next := plainNext k },
        [(.refPhaseSwitch, image.preferred)])
    else ({ k with preferredRun := raise 8 k.preferredRun }, [])
  else ({ k with preferredRun := 0 }, [])

/-- The evaluations of a boundary (R4, R10 to R13). -/
def evaluateReference (image : Image) (k : Tracker) : Tracker × List TrackerEvent :=
  match k.mode with
  | .seeking => seekSwitch image k
  | .locked =>
    if k.miss.get k.ref = 3 || !healthy image k k.ref then abandon image k else preferredReturn image k
  | .holdover => (k, [])

/-! ## The epoch counter (R14 to R16) -/

/-- What a boundary does to the epoch counter. -/
inductive BoundaryKind where
  /-- The epoch continues. -/
  | continues
  /-- The epoch ends at this boundary; its number, and whether its length was changed by a slew. -/
  | epochEnds (ended : EpochNum) (slewed : Bool)
  /-- A pending jump is applied. -/
  | jumps (target : JumpTarget)
deriving DecidableEq, Repr

/-- Which of the three this boundary is (R14, R16). -/
def boundaryKind (k : Tracker) : BoundaryKind :=
  match k.jump with
  | some target => .jumps target
  | none => if k.cycleCount + 1 < k.epochLength then .continues else .epochEnds k.epoch k.slewed

/-- The length of a new epoch from the pending slew (R14). -/
def slewedLength (n : Nat) : Slew → Nat
  | .noSlew => n
  | .shorten => n - 1
  | .lengthen => n + 1

/-- The epoch counter at a boundary (R14, R16). -/
def advanceEpoch (image : Image) (k : Tracker) : Tracker :=
  match boundaryKind k with
  | .continues =>
    { k with
      cycleCount := k.cycleCount + 1
      cycleIndex := if k.epochLength = image.n + 1 && k.cycleIndex = image.n - 1 then k.cycleIndex else k.cycleIndex + 1 }
  | .epochEnds _ _ =>
    { k with
      epoch := k.epoch + 1
      cycleIndex := 0
      cycleCount := 0
      epochLength := slewedLength image.n k.slew
      slewed := k.slew ≠ .noSlew
      slew := .noSlew }
  | .jumps target =>
    { k with
      epoch := target.epoch
      cycleIndex := target.cycle
      cycleCount := target.cycle
      epochLength := image.n
      slewed := false
      slew := .noSlew
      jump := none }

/-! ## Start (R20) -/

/-- The tracker at the START instant `t`: the first boundary falls there. -/
def startTracker (image : Image) (t : Tick) : Tracker :=
  let k := Init.tracker image
  { k with anchor := some t, next := some (tickAdd t k.period) }

end Sys2Proof.Machine
end

