-- ==== Sys2Proof/Machine/Engine.lean ====
section
/-! DEFINITION. The sample port (section 1.6) and the Measurement Engine (Chapter 2): strobes, sample sets, cycle
magnitudes, epoch records and the history ring. -/

namespace Sys2Proof.Machine

/-! ## Sums of squares (R21, R22) -/

/-- The square of a sample. -/
def square (x : Sample) : Nat := x.toInt.natAbs * x.toInt.natAbs

/-- The residual sample of a set (R22). -/
def residualSample (set : SampleSet) : Int := set.i.p1.toInt + set.i.p2.toInt + set.i.p3.toInt

/-- The seven squares of a settled set (R21). -/
def squares (set : SampleSet) : Means :=
  ⟨set.i.map square, set.v.map square, (residualSample set).natAbs * (residualSample set).natAbs⟩

/-- A settled set entered in the cycle accumulators (R21). -/
def accumulate (set : SampleSet) (e : Engine) : Engine := { e with acc := Means.zip (· + ·) e.acc (squares set) }

/-! ## The sample port (R17 to R19) -/

/-- The sample port enters STALL (R19). -/
def enterStall (s : State) : State :=
  record { s with sampling := { s.sampling with stalled := true, stallSeen := true } }
    .sampleStall .absent none (.value Config.stallRun)

/-- The counts of a patched strobe (R18). -/
def countPatch (p : Sampling) : Sampling :=
  { p with
    hasSet := true
    patched := p.patched + 1
    missingRun := raise Config.stallRun p.missingRun
    stallPatches := raise16 p.stallPatches }

/-- The most recent strobe, if it has no set, is patched with the held set, and the port may enter STALL (R18, R19). -/
def patchStrobe (s : State) : State :=
  if s.sampling.strobe.isSome && !s.sampling.hasSet then
    let t := { s with engine := accumulate s.sampling.held s.engine, sampling := countPatch s.sampling }
    if t.sampling.missingRun = Config.stallRun && !t.sampling.stalled then enterStall t else t
  else s

/-- The port returns to RUNNING at the first set to arrive in STALL (R19). -/
def resumeSampling (s : State) : State :=
  if s.sampling.stalled then
    record { s with sampling := { s.sampling with stalled := false } }
      .sampleResume .absent none (.value s.sampling.stallPatches)
  else s

/-- A sample set from the converter becomes the most recent strobe's set and the held set, or is discarded (R18). -/
def takeSampleSet (set : SampleSet) (s : State) : State :=
  if s.sampling.strobe.isSome && !s.sampling.hasSet then
    let t := resumeSampling s
    { t with
      engine := accumulate set t.engine
      sampling := { t.sampling with held := set, hasSet := true, missingRun := 0, stallPatches := 0 } }
  else s

/-- Strobe `k` of the current cycle is issued (R17). -/
def issueStrobe (k : Nat) (p : Sampling) : Sampling := { p with strobe := some k, hasSet := false }

/-- Strobe 0 of a new cycle is issued, with the interval from P as it stands, and the cycle's counts begin (R17, R19). -/
def openCycle (k : Tracker) (p : Sampling) : Sampling :=
  { p with strobe := some 0, hasSet := false, interval := k.sampleInterval, patched := 0, stallSeen := p.stalled }

/-! ## Cycle close (R23 to R26, R28) -/

/-- The magnitudes of a cycle from its accumulators (R23). -/
def magnitudes (acc : Means) : Means := acc.map (fun sum => isqrt (sum / 32))

/-- The cycle just ended is valid (R19, R24). -/
def cycleValid (p : Sampling) : Bool := p.patched < Config.patchedLimit && !p.stallSeen

/-- The irregularity step of a closed cycle (R28). -/
def irregularityStep (e : Engine) (r : Nat) (valid : Bool) : Nat :=
  match e.previous with
  | some prev => if valid && prev.valid then min 65535 (e.irregularity + absDiff r prev.r) else e.irregularity
  | none => e.irregularity

/-- The ended cycle closed: epoch marks, epoch sums, irregularity and previous residual, accumulators to 0 (R21, R23 to
R26, R28). -/
def closeCycle (valid : Bool) (e : Engine) : Engine :=
  let m := magnitudes e.acc
  { e with
    acc := Init.zeroMeans
    closed := e.closed ++ [⟨m, valid⟩]
    sums := if valid then Means.zip (· + ·) e.sums m else e.sums
    validCount := if valid then e.validCount + 1 else e.validCount
    irregularity := irregularityStep e m.r valid
    previous := some ⟨m.r, valid⟩
    seekingSeen := e.seekingSeen || e.cycleModes.seeking
    holdoverSeen := e.holdoverSeen || e.cycleModes.holdover }

/-- A tracker state entered in the course of a cycle joins its state set (R25). -/
def addMode (m : TrackerMode) (x : ModeSet) : ModeSet :=
  match m with
  | .seeking => { x with seeking := true }
  | .locked => { x with locked := true }
  | .holdover => { x with holdover := true }

/-- The state set of a cycle at its opening boundary (R25). -/
def openModes (m : TrackerMode) : ModeSet := addMode m ⟨false, false, false⟩

/-- The cycle ended in SEEKING (R25). -/
def endedSeeking (x : ModeSet) : Bool := x = ⟨true, false, false⟩

/-! ## Epochs (R26, R27, R29 to R34) -/

/-- The accumulation of an epoch begun at its first boundary, with or without the discard mark (R26). -/
def beginEpoch (discard : Bool) (e : Engine) : Engine :=
  { e with
    closed := []
    sums := Init.zeroMeans
    validCount := 0
    irregularity := 0
    previous := none
    holdoverSeen := false
    seekingSeen := false
    discard := discard }

/-- A record is INVALID: too few valid cycles, or the last cycle ended in SEEKING (R29). -/
def recordInvalid (n : Nat) (e : Engine) : Bool :=
  e.validCount < (n + 1) / 2 || endedSeeking e.cycleModes

/-- The record of the ended epoch (R27, R29 to R31). `Nat` division by a valid count of 0 gives the 0 that R27 asks. -/
def formRecord (n : Nat) (epoch : EpochNum) (slewed : Bool) (ref : Phase) (mode : TrackerMode) (e : Engine) :
    EpochRecord where
  epoch := epoch
  means := e.sums.map (fun sum => sum / e.validCount)
  irregularity := e.irregularity
  validCycles := e.validCount
  ref := ref
  mode := mode
  holdover := e.holdoverSeen
  unlocked := e.seekingSeen
  slewed := slewed
  invalid := recordInvalid n e

/-- A record enters the history ring (R33). -/
def ringInsert (r : EpochRecord) (ring : List EpochRecord) : List EpochRecord :=
  (r :: ring.filter (fun x => x.epoch ≠ r.epoch)).take Config.ringSize

/-- The ring's record of an epoch (R33, R34). -/
def ringFind (ring : List EpochRecord) (epoch : EpochNum) : Option EpochRecord := ring.find? (fun r => r.epoch = epoch)

/-- The engine at an applied jump: the accumulation dropped, the ring cleared, the epoch entered begun (R32, R34). -/
def engineJump (cycle : Nat) (e : Engine) : Engine := { beginEpoch (0 < cycle) e with ring := [] }

end Sys2Proof.Machine
end

