-- ==== Sys2Proof/Machine/Queue.lean ====
section
/-! DEFINITION. The transmit queue (section 4.6): its order, the offers, replacements and withdrawals of its entries. -/

namespace Sys2Proof.Machine

/-- The class of an entry: 0 for CLAIM, RELEASE and TRIPPED, 1 for ALERT, 2 for REPORT (section 4.3). -/
def QueueItem.cls : QueueItem → Nat
  | .report _ => 2
  | .alert _ => 1
  | .claim _ _ => 0
  | .release _ => 0
  | .tripped _ => 0

/-- What an entry is for (R69): a CLAIM and a RELEASE of one own record have one subject. -/
def QueueItem.subject : QueueItem → QueueSubject
  | .report _ => .report
  | .alert _ => .alert
  | .claim c _ => .claim c.kind c.fin
  | .release c => .claim c.kind c.fin
  | .tripped c => .tripped c.output

/-- The subject of an entry. -/
def QueueEntry.subject (e : QueueEntry) : QueueSubject := e.item.subject

/-- The class of an entry. -/
def QueueEntry.cls (e : QueueEntry) : Nat := e.item.cls

/-- An entry is a series (R69). -/
def QueueEntry.isSeries (e : QueueEntry) : Bool := e.cls = 0

/-- A new entry at the end of its class (R69). -/
def insertEntry (e : QueueEntry) : List QueueEntry → List QueueEntry
  | [] => [e]
  | x :: xs => if x.cls ≤ e.cls then x :: insertEntry e xs else e :: x :: xs

/-- The entry of a subject. -/
def queueFind (q : List QueueEntry) (x : QueueSubject) : Option QueueEntry := q.find? (fun e => e.subject = x)

/-- The entry of a subject changed in place. -/
def queueModify (x : QueueSubject) (f : QueueEntry → QueueEntry) (q : List QueueEntry) : List QueueEntry :=
  q.map (fun e => if e.subject = x then f e else e)

/-- The queue without the entry of a subject. -/
def queueRemove (x : QueueSubject) (q : List QueueEntry) : List QueueEntry := q.filter (fun e => e.subject ≠ x)

/-- An entry offered: in place of the entry of its subject (`replace` of the old one), or as a new one (R69). -/
def queueOffer (new : QueueEntry) (replace : QueueEntry → QueueEntry) (q : List QueueEntry) : List QueueEntry :=
  match queueFind q new.subject with
  | some _ => queueModify new.subject replace q
  | none => insertEntry new q

/-- The queue of a state replaced. -/
def State.setQueue (s : State) (q : List QueueEntry) : State := { s with link := { s.link with queue := q } }

/-- A series offered: created with remaining count R+1 and its due mark set, or restarted in place, a frame of the old
content in flight becoming SUPERSEDED (R72, R73). -/
def offerSeries (item : QueueItem) (s : State) : State :=
  let fresh : QueueEntry := ⟨item, 0, s.port.image.repeats + 1, true, .noFrame⟩
  let restart (old : QueueEntry) : QueueEntry :=
    { fresh with mark := if old.mark = .noFrame then .noFrame else .superseded }
  s.setQueue (queueOffer fresh restart s.link.queue)

/-- A REPORT offered with its bound; one still queued is replaced and counts as missed (R70). -/
def offerReport (r : EpochRecord) (bound : EpochNum) (s : State) : State :=
  let fresh : QueueEntry := ⟨.report r, bound, 0, false, .noFrame⟩
  let missed := if (queueFind s.link.queue .report).isSome then raise16 s.link.reportsMissed else s.link.reportsMissed
  { s with link := { s.link with
      queue := queueOffer fresh (fun _ => fresh) s.link.queue
      reportsMissed := missed } }

/-- An ALERT offered with the bound of the current epoch; one still queued is replaced (R71). -/
def offerAlert (c : AlertContent) (s : State) : State :=
  let fresh : QueueEntry := ⟨.alert c, s.tracker.epoch, 0, false, .noFrame⟩
  s.setQueue (queueOffer fresh (fun _ => fresh) s.link.queue)

/-- A series withdrawn by its owner (R74). -/
def withdrawSeries (kind : ClaimKind) (fin : SpanEnd) (s : State) : State :=
  s.setQueue (queueRemove (.claim kind fin) s.link.queue)

/-- A queued REPORT that meets a test removed as missed (R70). -/
def missReport (p : QueueEntry → Bool) (s : State) : State :=
  match queueFind s.link.queue .report with
  | some e =>
    if p e then
      { s with link := { s.link with
          queue := queueRemove .report s.link.queue
          reportsMissed := raise16 s.link.reportsMissed } }
    else s
  | none => s

/-- A queued ALERT whose bound lies two epochs back, or further, has expired (R71). -/
def alertOverdue (s : State) : Bool :=
  match queueFind s.link.queue .alert with
  | some e => 2 ≤ epochDiff s.tracker.epoch e.bound
  | none => false

/-- The expired ALERT removed and counted (R71). -/
def expireAlert (s : State) : State :=
  if alertOverdue s then
    { s with link := { s.link with
        queue := queueRemove .alert s.link.queue
        alertsExpired := raise16 s.link.alertsExpired } }
  else s

/-- The bound of a queued ALERT set to an epoch, at an applied jump (R71). -/
def rebindAlert (epoch : EpochNum) (s : State) : State :=
  s.setQueue (queueModify .alert (fun e => { e with bound := epoch }) s.link.queue)

/-- At a window opening, every series whose remaining count is above 0 has its due mark set (R72). -/
def seriesDue (s : State) : State :=
  s.setQueue (s.link.queue.map (fun e => if e.isSeries && 0 < e.remaining then { e with due := true } else e))

end Sys2Proof.Machine
end

