-- ==== Sys2Proof/Machine/Register.lean ====
section
/-! DEFINITION. The Claim Register's records, pair list and map agreement (Chapter 8), with the pins and cells that hang
on own records (R109, R133). No evaluation of the Trip Linkage is made here. -/

namespace Sys2Proof.Machine

/-! ## Records -/

/-- The record of a key. -/
def findRecord (rs : List ClaimRecord) (key : ClaimKey) : Option ClaimRecord := rs.find? (fun r => r.key = key)

/-- The record of a key changed in place. -/
def modifyRecord (key : ClaimKey) (f : ClaimRecord → ClaimRecord) (rs : List ClaimRecord) : List ClaimRecord :=
  rs.map (fun r => if r.key = key then f r else r)

/-- The records without that of a key. -/
def removeRecord (key : ClaimKey) (rs : List ClaimRecord) : List ClaimRecord := rs.filter (fun r => r.key ≠ key)

/-- A record at the end of register order, in place of any of its key (R137). -/
def appendRecord (r : ClaimRecord) (rs : List ClaimRecord) : List ClaimRecord := removeRecord r.key rs ++ [r]

/-- A record is STANDING. -/
def ClaimRecord.standing (r : ClaimRecord) : Bool := r.status = .standing

/-- The register's records replaced. -/
def State.setRecords (s : State) (rs : List ClaimRecord) : State :=
  { s with register := { s.register with records := rs } }

/-- The station holds an own STANDING record (R46). -/
def ownStanding (s : State) : Bool := s.register.records.any (fun r => r.own && r.standing)

/-- The key of the own record of a kind and end. -/
def ownKey (s : State) (kind : ClaimKind) (fin : SpanEnd) : ClaimKey := ⟨s.port.image.stationId, kind, fin⟩

/-! ## Corroboration (R151, R152) -/

/-- A U-end and a D-end record corroborate (R151). DESIGN CHOICE (log 38): the four conditions alone decide, and the claimants
are not compared. -/
def corroborate (u d : ClaimRecord) : Bool :=
  u.key.fin = .u && d.key.fin = .d && u.key.kind = d.key.kind && u.standing && d.standing &&
    u.span.intersects d.span && (u.key.kind = .ground || masksMeet u.mask d.mask)

/-- The pair of two records, with its effective span (R151). -/
def pairOf (u d : ClaimRecord) : ClaimPair := ⟨u.key, d.key, u.span.meet d.span⟩

/-- All corroborating pairs, in register order of their U-end records (R152). DESIGN CHOICE (log 45): for one U-end record in
register order of their D-end records, the order of R156's candidates. -/
def pairsOf (rs : List ClaimRecord) : List ClaimPair :=
  rs.flatMap (fun u => (rs.filter (corroborate u)).map (pairOf u))

/-- A pair is in a list, whatever its effective span. -/
def pairIn (ps : List ClaimPair) (p : ClaimPair) : Bool := ps.any (fun q => q.upKey = p.upKey && q.downKey = p.downKey)

/-- A record belongs to a pair of a list. -/
def inSomePair (ps : List ClaimPair) (key : ClaimKey) : Bool := ps.any (fun q => q.upKey = key || q.downKey = key)

/-- The events of the pairs that enter the list (R152). -/
def recordPairs : List ClaimPair → State → State
  | [], s => s
  | p :: ps, s =>
    recordPairs ps (record s .corroborated (.claim p.upKey) (some p.span) (.value p.downKey.claimant))

/-- The pair list re-judged: the new list, its entering pairs' events, and every corroborated mark (R152). -/
def rejudgePairs (s : State) : State :=
  let new := pairsOf s.register.records
  let entering := new.filter (fun p => !pairIn s.register.pairs p)
  let marked := s.register.records.map (fun r => { r with corroborated := inSomePair new r.key })
  recordPairs entering { s with register := ⟨marked, new⟩ }

/-! ## Map agreement (R153) -/

/-- A boundary, if there is one, intersects a span. -/
def boundaryMeets (b : Option Span) (x : Span) : Bool :=
  match b with
  | some b => b.intersects x
  | none => false

/-- A record agrees with the latest located boundaries (R153). -/
def agreesWith (a : Assessor) (r : ClaimRecord) : Bool :=
  match r.key.kind with
  | .ground => boundaryMeets a.residualBoundary r.span
  | .openConductor =>
    (PerPhase.zip (fun inMask b => inMask && boundaryMeets b r.span) r.mask a.phaseBoundary).some

/-- Every record's map agreement flag judged (R153). -/
def judgeAgreement (s : State) : State :=
  s.setRecords (s.register.records.map (fun r => { r with agrees := agreesWith s.assessor r }))

/-! ## Pins and cells behind own records (R109, R133) -/

/-- The position of the far end of an own record's span: the peer it pins (R130). -/
def farEnd (fin : SpanEnd) (x : Span) : Nat :=
  match fin with
  | .u => x.down
  | .d => x.up

/-- The PINNED count of the entry at a position changed (R109). -/
def adjustPin (f : Nat → Nat) (position : Nat) (s : State) : State :=
  { s with peers := { s.peers with
      entries := s.peers.entries.map (fun e =>
        if e.state ≠ .free && e.position = position then { e with pinned := f e.pinned } else e) } }

/-- The entry at a position pinned once more (R109). -/
def pin (position : Nat) (s : State) : State := adjustPin (· + 1) position s

/-- The entry at a position unpinned once (R109). -/
def unpin (position : Nat) (s : State) : State := adjustPin (· - 1) position s

/-- The cells behind the own record of a kind and end become CLEAR with their counters at 0, their last verdicts kept
(R133). -/
def Cell.cleared (c : Cell) : Cell := { c with state := .clear, condition := 0, falses := 0, unknowns := 0 }

/-- The cells behind the own record of a kind and end cleared (R133). -/
def clearCellsBehind (kind : ClaimKind) (fin : SpanEnd) (a : Assessor) : Assessor :=
  match kind, fin with
  | .openConductor, .u => { a with openDown := a.openDown.map Cell.cleared }
  | .openConductor, .d => { a with openUp := a.openUp.map Cell.cleared }
  | .ground, .u => { a with groundDown := a.groundDown.cleared }
  | .ground, .d => { a with groundUp := a.groundUp.cleared }

/-- All eight cells cleared (R134). -/
def clearAllCells (a : Assessor) : Assessor :=
  { a with
    openDown := a.openDown.map Cell.cleared
    openUp := a.openUp.map Cell.cleared
    groundDown := a.groundDown.cleared
    groundUp := a.groundUp.cleared }

/-! ## Removal and covering (R143, R148 to R150) -/

/-- What the removal of an own COVERED record brings: its series withdrawn, its peer unpinned, the cells behind it
cleared (R133, R143). -/
def releaseHold (r : ClaimRecord) (s : State) : State :=
  if r.own then
    let t := withdrawSeries r.key.kind r.key.fin s
    if r.status = .released then t
    else
      let t := unpin (farEnd r.key.fin r.span) t
      { t with assessor := clearCellsBehind r.key.kind r.key.fin t.assessor }
  else s

/-- `releaseHold` of each of a list of records. -/
def releaseHolds : List ClaimRecord → State → State
  | [], s => s
  | r :: rs, s => releaseHolds rs (releaseHold r s)

/-- The records that meet a test removed, with all that the removal of own ones brings, and the pair list re-judged. -/
def removeRecords (p : ClaimRecord → Bool) (s : State) : State :=
  if s.register.records.any p then
    let gone := s.register.records.filter p
    rejudgePairs ((releaseHolds gone s).setRecords (s.register.records.filter (fun r => !p r)))
  else s

/-- The register's part of an entry into CALM: every COVERED record removed, and from DEENERGIZED every own record
(R150). -/
def registerCalm (fromDeenergized : Bool) (s : State) : State :=
  removeRecords (fun r => r.status = .covered || (fromDeenergized && r.own)) s

/-- Each of a list of own records has its series withdrawn. -/
def withdrawAll : List ClaimRecord → State → State
  | [], s => s
  | r :: rs, s => withdrawAll rs (if r.own then withdrawSeries r.key.kind r.key.fin s else s)

/-- The STANDING records that meet a test become COVERED, the series of own ones withdrawn, the pair list re-judged
(R148, R149). -/
def coverRecords (p : ClaimRecord → Bool) (s : State) : State :=
  let hit (r : ClaimRecord) : Bool := r.standing && p r
  if s.register.records.any hit then
    rejudgePairs ((withdrawAll (s.register.records.filter hit) s).setRecords
      (s.register.records.map (fun r => if hit r then { r with status := .covered } else r)))
  else s

end Sys2Proof.Machine
end

