-- ==== Sys2Proof/Machine/Detector.lean ====
section
/-! DEFINITION. The Disturbance Detector (Chapter 3): reference, trigger, the openings, closes and returns of the
assessment state, with the hand-offs they make. No evaluation of the Trip Linkage is made here. -/

namespace Sys2Proof.Machine

/-! ## Reference and trigger (R38, R39) -/

/-- The ring's record of an epoch, if it is not INVALID. -/
def validRecord (ring : List EpochRecord) (epoch : EpochNum) : Option EpochRecord :=
  (ringFind ring epoch).filter (fun r => !r.invalid)

/-- The reference for record e: e-3, or the newest usable among e-4 to e-8, or none (R38). -/
def selectReference (ring : List EpochRecord) (e : EpochNum) : Option EpochRecord :=
  [3, 4, 5, 6, 7, 8].findSome? (fun back => validRecord ring (e - BitVec.ofNat 16 back))

/-- Whether a three-phase test holds on any phase. -/
def anyPhase (f : Phase → Bool) : Bool := f .one || f .two || f .three

/-- The conditions a, b and c of record e against a comparison record (R39). -/
def trigger (image : Image) (e c : EpochRecord) : CauseMask where
  a := anyPhase (fun φ => image.istep ≤ absDiff (e.means.i.get φ) (c.means.i.get φ))
  b := anyPhase (fun φ => image.vrefFloor ≤ c.means.v.get φ &&
    e.means.v.get φ * 256 < c.means.v.get φ * image.vloss)
  c := (image.rstep : Int) ≤ (e.means.r : Int) - c.means.r

/-- A cause mask is not empty. -/
def CauseMask.some (m : CauseMask) : Bool := m.a || m.b || m.c

/-- Record e is quiet (R46). -/
def quiet (image : Image) (ring : List EpochRecord) (e : EpochRecord) : Bool :=
  match validRecord ring (e.epoch - 1) with
  | some prev => !e.invalid && !(trigger image e prev).some
  | none => false

/-- Record e is restored (R51). -/
def restored (image : Image) (e : EpochRecord) : Bool :=
  !e.invalid && image.vlive ≤ e.means.v.p1 && image.vlive ≤ e.means.v.p2 && image.vlive ≤ e.means.v.p3

/-! ## Openings (R42 to R45) -/

/-- The entry actions of DISTURBED but for the ALERT (R44). -/
def enterDisturbed (cause : OpenCause) (subject : EventSubject) (snapshot : Option EpochRecord) (s : State) : State :=
  record { s with detector := { s.detector with
      assessment := .disturbed
      snapshot := snapshot
      sequence := s.detector.sequence + 1
      blindRun := 0
      settle := 0
      forced := 0 } }
    .disturbanceOpen subject none (.cause cause)

/-- An OWN opening against the reference used, with its ALERT in RUN (R42, R44, R45). -/
def openOwn (mask : CauseMask) (reference : EpochRecord) (s : State) : State :=
  let t := enterDisturbed .own .absent (some reference) s
  if t.run = .run then offerAlert ⟨t.detector.sequence, mask, reference.means⟩ t else t

/-- A SYMPATHY or CLAIM request, acted on by the assessment state (R43). -/
def requestDisturbance (cause : OpenCause) (subject : EventSubject) (s : State) : State :=
  match s.detector.assessment with
  | .calm => enterDisturbed cause subject s.detector.reference s
  | .blind => enterDisturbed cause subject none s
  | .disturbed => s
  | .deenergized => s

/-! ## Entries into CALM (R41, R46 to R51, R108, R150, R168) -/

/-- A CONFIRMED or FAILED trip record returns to IDLE (R168). -/
def calmTrip (r : TripRecord) : TripRecord :=
  if r.state = .confirmed || r.state = .failed then Init.tripRecord else r

/-- The Trip Linkage's part of an entry into CALM (R168). -/
def linkageCalm (l : Linkage) : Linkage :=
  { l with
    entries := l.entries.map (fun e => { e with spent := false, wouldTrip := false })
    trip0 := calmTrip l.trip0
    trip1 := calmTrip l.trip1
    trips := [] }

/-- Every peer snapshot becomes ABSENT (R108). -/
def clearPeerSnapshots (t : PeerTable) : PeerTable :=
  { t with entries := t.entries.map (fun e => { e with snapshot := none }) }

/-- BLIND is left for CALM (R41): the Linkage's and the register's parts of an entry into CALM are made, no event is
recorded. -/
def leaveBlind (s : State) : State :=
  registerCalm false
    { s with
      detector := { s.detector with assessment := .calm, blindRun := 0 }
      linkage := linkageCalm s.linkage }

/-- The return to CALM from DISTURBED (R49), with its hand-offs. -/
def returnToCalm (s : State) : State :=
  registerCalm false
    { s with
      detector := { s.detector with assessment := .calm, snapshot := none, settle := 0, restore := 0, forced := 0 }
      linkage := linkageCalm s.linkage
      peers := clearPeerSnapshots s.peers }

/-- The close of a disturbance by settling (R46, R47). -/
def closeDisturbance (s : State) : State :=
  returnToCalm (record s .disturbanceClose .absent none (.named .disturbed))

/-- The forced close of a disturbance (R48). -/
def forceClose (s : State) : State :=
  returnToCalm (record s .disturbanceTimeout .absent none (.value s.detector.sequence.toNat))

/-- The return to CALM from DEENERGIZED (R51, R134), with its hand-offs. -/
def restoreLine (s : State) : State :=
  let t := record s .disturbanceClose .absent none (.named .deenergized)
  let t := { t with
    detector := { t.detector with
      assessment := .calm, snapshot := none, blindRun := 0, settle := 0, restore := 0, forced := 0 }
    linkage := linkageCalm t.linkage
    peers := clearPeerSnapshots t.peers }
  let t := registerCalm true t
  { t with assessor := clearAllCells t.assessor }

/-- The close condition of R46. -/
def closeDue (s : State) : Bool :=
  s.detector.assessment = .disturbed && s.port.image.settleCount ≤ s.detector.settle && !ownStanding s

/-- The close condition tested on a record (R46). -/
def testClose (s : State) : State := if closeDue s then closeDisturbance s else s

/-- The detector of a state replaced. -/
def State.setDetector (s : State) (d : Detector) : State := { s with detector := d }

/-- The close condition tested when an own record has left STANDING or the register (R47). DEDUCED (log 31): the record that such a
close comes before is the one handed next, and it is taken without comparison. -/
def testCloseOnChange (s : State) : State :=
  if closeDue s then
    let t := closeDisturbance s
    t.setDetector { t.detector with closedByChange := true }
  else s

/-- Whether the forced-close counter has reached its limit (R48). -/
def forceDue (s : State) : Bool :=
  s.detector.assessment = .disturbed && Config.forcedCloseRun ≤ s.detector.forced

/-- Whether the blind run has reached its limit (R41). -/
def blindExitDue (s : State) : Bool :=
  s.detector.assessment = .blind && Config.blindExitRun ≤ s.detector.blindRun

/-- Whether the restore counter has reached the settle count (R51). -/
def restoreDue (s : State) : Bool :=
  s.detector.assessment = .deenergized && s.port.image.settleCount ≤ s.detector.restore

/-! ## A record handed to the Detector (R38, R40, R41, R46, R48, R51) -/

/-- A record taken in BLIND (R41). -/
def handBlind (e : EpochRecord) (s : State) : State :=
  let run := if e.invalid then 0 else raise Config.blindExitRun s.detector.blindRun
  let t := s.setDetector { s.detector with blindRun := run }
  if blindExitDue t then leaveBlind t else t

/-- A record taken in CALM (R40, R42). -/
def handCalm (e : EpochRecord) (s : State) : State :=
  match s.detector.reference with
  | some reference =>
    let mask := trigger s.port.image e reference
    if !e.invalid && mask.some then openOwn mask reference s else s
  | none => s

/-- The forced-close counter moved by a record that leaves the station DISTURBED (R48). -/
def moveForced (s : State) : State :=
  let count := if s.register.records.isEmpty then raise Config.forcedCloseRun s.detector.forced else 0
  let t := s.setDetector { s.detector with forced := count }
  if forceDue t then forceClose t else t

/-- A record taken in DISTURBED (R46, R48). -/
def handDisturbed (e : EpochRecord) (s : State) : State :=
  let count := if quiet s.port.image s.engine.ring e then raise s.port.image.settleCount s.detector.settle else 0
  let t := testClose (s.setDetector { s.detector with settle := count })
  if t.detector.assessment = .disturbed then moveForced t else t

/-- A record taken in DEENERGIZED (R51). -/
def handDeenergized (e : EpochRecord) (s : State) : State :=
  let count := if restored s.port.image e then raise s.port.image.settleCount s.detector.restore else 0
  let t := s.setDetector { s.detector with restore := count }
  if restoreDue t then restoreLine t else t

/-- The reference for own record e selected, a close by a change being one record back from now on (R38, R47). -/
def takeReference (e : EpochRecord) (s : State) : State :=
  s.setDetector { s.detector with reference := selectReference s.engine.ring e.epoch, closedByChange := false }

/-- Own record e handed to the Detector: its reference selected, then taken by the assessment state, in CALM without comparison
where a change has just closed a disturbance (R38, R40, R47). -/
def handRecord (e : EpochRecord) (s : State) : State :=
  let t := takeReference e s
  match t.detector.assessment with
  | .blind => handBlind e t
  | .calm => if s.detector.closedByChange then t else handCalm e t
  | .disturbed => handDisturbed e t
  | .deenergized => handDeenergized e t

/-! ## DEENERGIZED and BLIND (R50, R52, R149) -/

/-- The register's part of an entry to DEENERGIZED: own STANDING records COVERED, own RELEASED ones removed (R149). -/
def registerDeenergized (s : State) : State :=
  removeRecords (fun r => r.own && r.status = .released) (coverRecords (fun r => r.own) s)

/-- A SUCCESS TRIPPED from an upstream sender taken by the Detector (R50, R149). -/
def enterDeenergized (sender position : Nat) (s : State) : State :=
  if s.detector.assessment = .deenergized then s.setDetector { s.detector with restore := 0 }
  else
    registerDeenergized
      (record (s.setDetector { s.detector with
          assessment := .deenergized, blindRun := 0, settle := 0, forced := 0, restore := 0 })
        .deenergizedEnter (.station sender) none (.value position))

/-- The assessment state at an applied jump (R52): BLIND, a disturbance closed with detail BLIND and the peer snapshots
cleared if DISTURBED or DEENERGIZED was left. -/
def returnToBlind (s : State) : State :=
  let ended : Bool := s.detector.assessment = .disturbed || s.detector.assessment = .deenergized
  let t := if ended then record s .disturbanceClose .absent none (.named .blind) else s
  { t with
    detector := { t.detector with
      assessment := .blind, snapshot := none, reference := none, blindRun := 0, settle := 0, restore := 0, forced := 0,
      closedByChange := false }
    peers := if ended then clearPeerSnapshots t.peers else t.peers }

end Sys2Proof.Machine
end

