-- ==== Sys2Proof/Machine/Linkage.lean ====
section
/-! DEFINITION. The Trip Linkage (Chapter 9): candidates, evaluation, trip records, TRIPPED offers and the trip list. -/

namespace Sys2Proof.Machine

/-! ## Candidates (R156 to R158) -/

/-- A candidate: its keys, effective span, kind, map agreement, and the standing age of a single record. -/
structure Candidate where
  key : ClaimKey
  partner : Option ClaimKey
  span : Span
  agrees : Bool
  age : Nat
deriving DecidableEq, Repr

/-- Whether the record of a key has its map agreement flag set. -/
def keyAgrees (rs : List ClaimRecord) (key : ClaimKey) : Bool := rs.any (fun r => r.key = key && r.agrees)

/-- The candidate of a pair: it agrees when either record does (R153, R156). -/
def pairCandidate (rs : List ClaimRecord) (p : ClaimPair) : Candidate :=
  ⟨p.upKey, some p.downKey, p.span, keyAgrees rs p.upKey || keyAgrees rs p.downKey, 0⟩

/-- The candidate of a single record. -/
def singleCandidate (r : ClaimRecord) : Candidate := ⟨r.key, none, r.span, r.agrees, r.standingAge⟩

/-- The candidates in candidate order: pairs, then STANDING records (R156). -/
def candidates (g : Register) : List Candidate :=
  g.pairs.map (pairCandidate g.records) ++ (g.records.filter ClaimRecord.standing).map singleCandidate

/-- A span is answered by a SUCCESS item of the trip list (R156). -/
def answered (trips : List TripItem) (x : Span) : Bool :=
  trips.any (fun t => t.content.result = .success && x.within t.content.zone)

/-- A kind is among an entry's accepted kinds (R156). -/
def acceptsKind (e : LinkageEntry) : ClaimKind → Bool
  | .openConductor => e.acceptsOpen
  | .ground => e.acceptsGround

/-- The requirement in force, or none while a HOLD entry is degraded (R158). -/
def requirementInForce (e : LinkageEntry) (impaired : Bool) : Option Requirement :=
  if impaired then
    match e.degraded with
    | .same => some e.requirement
    | .either => some .either
    | .hold => none
  else some e.requirement

/-- A candidate meets everything an entry asks but for the requirement (R156, R158). -/
def inScope (e : LinkageEntry) (trips : List TripItem) (c : Candidate) : Bool :=
  c.span.within e.zone && acceptsKind e c.key.kind && !answered trips c.span && (!e.mapCheck || c.agrees)

/-- A candidate meets a requirement (R157). -/
def meetsRequirement (e : LinkageEntry) (r : Option Requirement) (c : Candidate) : Bool :=
  match r with
  | none => false
  | some .both => c.partner.isSome
  | some .either => true
  | some .delayed => c.partner.isSome || e.delay ≤ c.age

/-- A candidate satisfies an entry (R156 to R158). -/
def satisfies (s : State) (e : LinkageEntry) (c : Candidate) : Bool :=
  inScope e s.linkage.trips c && meetsRequirement e (requirementInForce e s.fault.impaired) c

/-- The chosen candidate of an entry: the first in candidate order that satisfies it (R156). -/
def chosenCandidate (s : State) (e : LinkageEntry) : Option Candidate :=
  (candidates s.register).find? (satisfies s e)

/-- A delay runs for an entry on a single record (R157). -/
def delayRuns (s : State) (e : LinkageEntry) (spent : Bool) (r : ClaimRecord) : Bool :=
  !spent && r.standing && inScope e s.linkage.trips (singleCandidate r) &&
    requirementInForce e s.fault.impaired = some .delayed && r.standingAge < e.delay

/-! ## The runtime of entries and outputs -/

/-- The runtime state of an entry. -/
def runtime (l : Linkage) (k : Nat) : EntryRuntime := l.entries.getD k Init.entryRuntime

/-- The runtime state of an entry changed. -/
def modifyRuntime (k : Nat) (f : EntryRuntime → EntryRuntime) (s : State) : State :=
  { s with linkage := { s.linkage with entries := modifyAt f k s.linkage.entries } }

/-- The trip record of an output. -/
def Linkage.trip (l : Linkage) : Output → TripRecord
  | .trip0 => l.trip0
  | .trip1 => l.trip1

/-- The trip record of an output replaced. -/
def setTrip (o : Output) (r : TripRecord) (s : State) : State :=
  match o with
  | .trip0 => { s with linkage := { s.linkage with trip0 := r } }
  | .trip1 => { s with linkage := { s.linkage with trip1 := r } }

/-- The level of the open-confirm input of an output. -/
def Linkage.opened (l : Linkage) : Output → Bool
  | .trip0 => l.open0
  | .trip1 => l.open1

/-- An output is among an entry's outputs. -/
def LinkageEntry.drives (e : LinkageEntry) : Output → Bool
  | .trip0 => e.trip0
  | .trip1 => e.trip1

/-! ## The trip list (R167) -/

/-- A TRIPPED matches an item: same sender, output and result. -/
def tripMatches (sender : Nat) (c : TrippedContent) (t : TripItem) : Bool :=
  t.sender = sender && t.content.output = c.output && t.content.result = c.result

/-- A TRIPPED matches some item of the list. -/
def tripKnown (trips : List TripItem) (sender : Nat) (c : TrippedContent) : Bool := trips.any (tripMatches sender c)

/-- A TRIPPED that matches no item joins the list; the oldest of 9 leaves it. -/
def tripListTake (sender : Nat) (c : TrippedContent) (trips : List TripItem) : List TripItem :=
  if tripKnown trips sender c then trips
  else
    let longer := trips ++ [⟨sender, c⟩]
    if Config.tripListSize < longer.length then longer.tail else longer

/-- The trip list of a state brought up to date. -/
def takeIntoTripList (sender : Nat) (c : TrippedContent) (s : State) : State :=
  { s with linkage := { s.linkage with trips := tripListTake sender c s.linkage.trips } }

/-! ## Backup timers (R161, R162) -/

/-- The BACKUP_TRIP event (R161). -/
def recordBackupTrip (k : Nat) (c : TimerCandidate) (s : State) : State :=
  record s .backupTrip .absent (some c.span) (.value k)

/-- The candidate of a timer. -/
def BackupTimer.candidate : BackupTimer → Option TimerCandidate
  | .off => none
  | .running _ c => some c
  | .expired c => some c

/-- One entry's timer acted on by a TRIPPED (R162). DESIGN CHOICE (log 46): the candidate's effective span is that of the entry's
latest evaluation. -/
def timerByTripped (c : TrippedContent) (k : Nat) (s : State) : State :=
  match (runtime s.linkage k).timer with
  | .off => s
  | .running _ cand =>
    if cand.span.within c.zone then
      match c.result with
      | .success => modifyRuntime k (fun r => { r with timer := .off }) s
      | .failed => recordBackupTrip k cand (modifyRuntime k (fun r => { r with timer := .expired cand }) s)
    else s
  | .expired cand =>
    if cand.span.within c.zone && c.result = .success then modifyRuntime k (fun r => { r with timer := .off }) s else s

/-- The timers acted on by a TRIPPED (R162). DESIGN CHOICE (log 46): in index order. -/
def timersByTripped (c : TrippedContent) (s : State) : State :=
  (List.range 8).foldl (fun s k => timerByTripped c k s) s

/-! ## Covering by a zone (R148) -/

/-- The register's part of a TRIPPED: on SUCCESS every STANDING record within the zone becomes COVERED, and the Detector
is told of own ones (R47, R148). -/
def coverZone (c : TrippedContent) (s : State) : State :=
  match c.result with
  | .failed => s
  | .success =>
    let t := coverRecords (fun r => r.span.within c.zone) s
    if s.register.records.any (fun r => r.own && r.standing && r.span.within c.zone) then testCloseOnChange t else t

/-! ## Trip records (R163 to R166) -/

/-- A TRIPPED series offered: queued, placed in the trip list, acting on the timers and the register, and followed by
the evaluation `ev` (R166). -/
def offerTripped (ev : State → State) (c : TrippedContent) (s : State) : State :=
  ev (coverZone c (timersByTripped c (takeIntoTripList s.port.image.stationId c (offerSeries (.tripped c) s))))

/-- What the TRIPPED of a trip record says (R166). -/
def trippedOf (result : TripResult) (o : Output) (r : TripRecord) : TrippedContent :=
  ⟨result, o, r.zone.getD ⟨0, 0⟩, r.span.getD ⟨0, 0⟩⟩

/-- An ASSERTED record becomes CONFIRMED (R164). -/
def confirmTrip (ev : State → State) (o : Output) (s : State) : State :=
  let r := s.linkage.trip o
  let t := setTrip o { r with state := .confirmed, driven := false } s
  let t := record t .tripConfirmed (.output o) r.span (.value r.timer)
  offerTripped ev (trippedOf .success o r) t

/-- An ASSERTED record becomes FAILED (R165). -/
def failTrip (ev : State → State) (o : Output) (s : State) : State :=
  let r := s.linkage.trip o
  let t := setTrip o { r with state := .failed, driven := false } s
  let t := record t .tripFailed (.output o) r.span (match r.entry with | some k => .value k | none => .absent)
  offerTripped ev (trippedOf .failed o r) t

/-- An IDLE output of a satisfied entry becomes ASSERTED and its line is driven (R160, R163). -/
def assertOutput (k : Nat) (e : LinkageEntry) (x : Span) (o : Output) (s : State) : State :=
  if e.drives o && (s.linkage.trip o).state = .idle then
    record (setTrip o ⟨.asserted, some k, 0, some e.zone, some x, true⟩ s) .tripIssued (.output o) (some x) (.value k)
  else s

/-- An output that entry `k` has just asserted is confirmed at once by a standing open-confirm level (R163, R164). -/
def confirmAtOnce (ev : State → State) (k : Nat) (before : TripState) (o : Output) (s : State) : State :=
  let r := s.linkage.trip o
  if before = .idle && r.state = .asserted && r.entry = some k && s.linkage.opened o then confirmTrip ev o s else s

/-- A satisfied entry acts by the level of PEN (R160). DESIGN CHOICE (log 41): of two IDLE outputs TRIP0 is asserted and its
TRIP_ISSUED recorded before TRIP1's, and an open already confirmed is acted on after every output of the entry is asserted and the
entry SPENT, TRIP0 before TRIP1. -/
def actPrimary (ev : State → State) (k : Nat) (e : LinkageEntry) (x : Span) (s : State) : State :=
  if s.linkage.pen then
    let before0 := s.linkage.trip0.state
    let before1 := s.linkage.trip1.state
    let t := assertOutput k e x .trip1 (assertOutput k e x .trip0 s)
    let t := modifyRuntime k (fun r => { r with spent := true }) t
    confirmAtOnce ev k before1 .trip1 (confirmAtOnce ev k before0 .trip0 t)
  else if (runtime s.linkage k).wouldTrip then s
  else
    modifyRuntime k (fun r => { r with wouldTrip := true }) (record s .wouldTrip .absent (some x) (.value k))

/-! ## Evaluation (R159 to R161) -/

/-- The timer's own form of a candidate. -/
def Candidate.forTimer (c : Candidate) : TimerCandidate := ⟨c.key, c.partner, c.span⟩

/-- The candidate that still satisfies an entry under a timer's keys, whatever its span has become (R161). -/
def sameCandidate (s : State) (e : LinkageEntry) (t : TimerCandidate) : Option Candidate :=
  (candidates s.register).find? (fun c => c.key = t.key && c.partner = t.partner && satisfies s e c)

/-- The candidate a RUNNING or EXPIRED timer holds after an evaluation: its own while that still satisfies, else the
chosen one, else none (R161). -/
def timerCandidate (s : State) (e : LinkageEntry) (t : TimerCandidate) : Option TimerCandidate :=
  ((sameCandidate s e t).or (chosenCandidate s e)).map Candidate.forTimer

/-- The backup timer after an evaluation (R161). -/
def nextTimer (s : State) (e : LinkageEntry) : BackupTimer → BackupTimer
  | .off => match chosenCandidate s e with
    | some c => .running 0 c.forTimer
    | none => .off
  | .running count t => match timerCandidate s e t with
    | some c => .running count c
    | none => .off
  | .expired t => match timerCandidate s e t with
    | some c => .expired c
    | none => .off

/-- One entry taken by an evaluation (R159 to R161). -/
def evaluateEntry (ev : State → State) (k : Nat) (e : LinkageEntry) (s : State) : State :=
  if (runtime s.linkage k).spent then s
  else
    match e.role with
    | .primary => match chosenCandidate s e with
      | some c => actPrimary ev k e c.span s
      | none => s
    | .backup =>
      let timer := nextTimer s e (runtime s.linkage k).timer
      let t := modifyRuntime k (fun r => { r with timer := timer }) s
      match timer with
      | .expired c => actPrimary ev k e c.span t
      | _ => t

/-- The entries from index `k` on, taken in index order (R159). -/
def evaluateEntries (ev : State → State) : Nat → List LinkageEntry → State → State
  | _, [], s => s
  | k, e :: es, s => evaluateEntries ev (k + 1) es (evaluateEntry ev k e s)

/-- An evaluation of the linkage table in at most `rounds` nested rounds (R159, log 22). -/
def evaluateRounds : Nat → State → State
  | 0, s => s
  | rounds + 1, s => evaluateEntries (evaluateRounds rounds) 0 s.port.image.entries s

/-- The Trip Linkage evaluates its table, in RUN only (R159). -/
def evaluateTrips (s : State) : State := if s.run = .run then evaluateRounds Config.evaluationRounds s else s

/-- An operation on the register, reported to the Trip Linkage if it changed the register (R137, R159). -/
def reporting (f : State → State) (s : State) : State :=
  let t := f s
  if t.register = s.register then t else evaluateTrips t

/-! ## Timers at boundaries (R161, R163) -/

/-- The confirm timer of an ASSERTED record raised at a cycle boundary (R163). -/
def raiseConfirm (r : TripRecord) : TripRecord := if r.state = .asserted then { r with timer := r.timer + 1 } else r

/-- Both confirm timers raised (R163). -/
def raiseConfirms (s : State) : State :=
  { s with linkage := { s.linkage with trip0 := raiseConfirm s.linkage.trip0, trip1 := raiseConfirm s.linkage.trip1 } }

/-- A RUNNING timer's count raised at a boundary that begins an own epoch in RUN (R161). -/
def raiseTimer (r : EntryRuntime) : EntryRuntime :=
  match r.timer with
  | .running count c => { r with timer := .running (count + 1) c }
  | _ => r

/-- All RUNNING timers raised (R161). -/
def raiseTimers (s : State) : State :=
  if s.run = .run then { s with linkage := { s.linkage with entries := s.linkage.entries.map raiseTimer } } else s

/-- The candidate of a RUNNING timer whose count has reached b (R161). -/
def backupDue (s : State) (k : Nat) (e : LinkageEntry) : Option TimerCandidate :=
  match e.role, (runtime s.linkage k).timer with
  | .backup, .running count c => if e.backupEpochs ≤ count then some c else none
  | _, _ => none

/-- A backup timer that has reached b becomes EXPIRED, and its entry acts as a PRIMARY entry (R161). -/
def expireBackup (k : Nat) (e : LinkageEntry) (s : State) : State :=
  if s.run = .run then
    match backupDue s k e with
    | some c =>
      let t := recordBackupTrip k c (modifyRuntime k (fun r => { r with timer := .expired c }) s)
      if (runtime t.linkage k).spent then t else actPrimary (evaluateRounds Config.evaluationRounds) k e c.span t
    | none => s
  else s

/-- Every backup timer that has reached its b expires, in index order (R161). -/
def expireBackups : Nat → List LinkageEntry → State → State
  | _, [], s => s
  | k, e :: es, s => expireBackups (k + 1) es (expireBackup k e s)

/-- The confirm timer of an ASSERTED record has reached the confirm timeout (R165). -/
def failDue (s : State) (o : Output) : Bool :=
  (s.linkage.trip o).state = .asserted && s.port.image.confirmTimeout ≤ (s.linkage.trip o).timer

/-- A trip whose confirm timer has reached the timeout fails (R165). -/
def failIfDue (o : Output) (s : State) : State := if failDue s o then failTrip evaluateTrips o s else s

end Sys2Proof.Machine
end

