-- ==== Sys2Proof/Machine/Peers.lean ====
section
/-! DEFINITION. The fault unit's judgements (Chapter 10), the Peer Table (Chapter 6), and the timing source that follows
from it (R81). -/

namespace Sys2Proof.Machine

/-! ## Fault unit (R171 to R176) -/

/-- The fault unit of a state replaced. -/
def State.setFault (s : State) (f : FaultUnit) : State := { s with fault := f }

/-- IMPAIRED judged anew; a change is handed to the Trip Linkage, which evaluates (R176). -/
def judgeImpaired (s : State) : State :=
  let now : Bool := s.fault.jammed || s.fault.xcvrFault || s.fault.silent
  if now = s.fault.impaired then s else evaluateTrips (s.setFault { s.fault with impaired := now })

/-- The condition of SILENT (R175). -/
def silentNow (f : FaultUnit) : Bool := f.silence = Config.silentEpochs && f.livePeers

/-- SILENT judged anew (R175, R176). -/
def judgeSilent (s : State) : State :=
  if silentNow s.fault = s.fault.silent then s
  else if silentNow s.fault then
    judgeImpaired (record (s.setFault { s.fault with silent := true }) .linkImpaired .absent none (.named .silent))
  else
    judgeImpaired (record (s.setFault { s.fault with silent := false }) .linkRestored .absent none (.named .silent))

/-- A valid frame reaches the fault unit (R175). -/
def frameHeard (s : State) : State := judgeSilent (s.setFault { s.fault with silence := 0 })

/-- JAMMED set: a queued REPORT is missed, LINK_IMPAIRED recorded (R171, R172). -/
def setJammed (s : State) : State :=
  let t := missReport (fun _ => true) (s.setFault { s.fault with jammed := true })
  judgeImpaired (record t .linkImpaired .absent none (.named .jammed))

/-- JAMMED cleared (R171). -/
def clearJammed (s : State) : State :=
  judgeImpaired
    (record (s.setFault { s.fault with jammed := false, busyEpochs := 0, busyUnbroken := false })
      .linkRestored .absent none (.named .jammed))

/-- The busy epoch count has reached the limit of JAMMED (R171). -/
def jamDue (s : State) : Bool := !s.fault.jammed && Config.jamEpochs ≤ s.fault.busyEpochs

/-- The channel-busy line judged at a boundary that begins an own epoch (R171). -/
def epochBusy (s : State) : State :=
  if s.fault.jammed then (if s.busyPin then s else clearJammed s)
  else
    let count := if s.fault.busyUnbroken then raise Config.jamEpochs s.fault.busyEpochs else 0
    let t := s.setFault { s.fault with busyEpochs := count, busyUnbroken := s.busyPin }
    if jamDue t then setJammed t else t

/-- The silence count raised at a boundary that begins an own epoch (R175). -/
def epochSilence (s : State) : State :=
  judgeSilent (s.setFault { s.fault with silence := raise Config.silentEpochs s.fault.silence })

/-! ## The table (R95, R96, R110) -/

/-- The entries of a state replaced. -/
def State.setEntries (s : State) (es : List PeerEntry) : State := { s with peers := { s.peers with entries := es } }

/-- The entry of a slot. -/
def peerAt (s : State) (k : Nat) : PeerEntry := s.peers.entries.getD k Init.freePeer

/-- The entry of a slot changed. -/
def modifyPeer (k : Nat) (f : PeerEntry → PeerEntry) (s : State) : State :=
  s.setEntries (modifyAt f k s.peers.entries)

/-- An entry is in use. -/
def PeerEntry.used (e : PeerEntry) : Bool := e.state ≠ .free

/-- The slot that holds a station id (R96). -/
def slotOf (es : List PeerEntry) (id : Nat) : Option Nat := findIndex (fun e => e.used && e.id = id) es

/-- A position is the own position, or that of an entry held under another id (R97, R99). -/
def positionTaken (s : State) (id position : Nat) : Bool :=
  position = s.port.image.position || s.peers.entries.any (fun e => e.used && e.id ≠ id && e.position = position)

/-- An entry is ACTIVE or STALE (R96). -/
def PeerEntry.live (e : PeerEntry) : Bool := e.state = .active || e.state = .stale

/-! ## Timing source (R81) -/

/-- An entry meets the first three conditions of a timing source (R81). -/
def sourceEligible (own : Nat) (e : PeerEntry) : Bool := e.state = .active && !e.mismatched && e.position < own

/-- The better of two optional sources: the higher position (R81). -/
def higherPeer (best : Option PeerEntry) (e : PeerEntry) : Option PeerEntry :=
  match best with
  | some b => if b.position < e.position then some e else best
  | none => some e

/-- The timing source the table gives (R81). -/
def timingSource (own : Nat) (es : List PeerEntry) : Option Nat :=
  ((es.filter (sourceEligible own)).foldl higherPeer none).map PeerEntry.id

/-- The timing source judged anew: on a change the source error becomes none and the deferred jump is cleared (R81). -/
def judgeSource (s : State) : State :=
  let source := timingSource s.port.image.position s.peers.entries
  if source = s.timeline.source then s
  else { s with timeline := { s.timeline with source := source, sourceError := none, deferred := false } }

/-- What every change of the table brings: the source judged anew (R81), live peers reported and SILENT judged (R96,
R175). -/
def tableChanged (s : State) : State :=
  let t := judgeSource s
  judgeSilent (t.setFault { t.fault with livePeers := t.peers.entries.any PeerEntry.live })

/-! ## Adjacency (R111, R112, R128) -/

/-- A cell in WATCH returns to CLEAR on a change of adjacency (R128). -/
def Cell.unwatch (c : Cell) : Cell :=
  if c.state = .watch then { c with state := .clear, condition := 0, unknowns := 0 } else c

/-- The WATCH cells of a side return to CLEAR (R128). -/
def unwatchSide (side : Side) (a : Assessor) : Assessor :=
  match side with
  | .down => { a with openDown := a.openDown.map Cell.unwatch, groundDown := a.groundDown.unwatch }
  | .up => { a with openUp := a.openUp.map Cell.unwatch, groundUp := a.groundUp.unwatch }

/-- The adjacent slot of a side. -/
def PeerTable.adjacent (t : PeerTable) : Side → Option Nat
  | .up => t.adjacentUp
  | .down => t.adjacentDown

/-- The adjacency of a side replaced, a change being acted on by the Assessor (R111, R112, R128). -/
def setAdjacent (side : Side) (slot : Option Nat) (s : State) : State :=
  if s.peers.adjacent side = slot then s
  else
    let table := match side with
      | .up => { s.peers with adjacentUp := slot }
      | .down => { s.peers with adjacentDown := slot }
    { s with peers := table, assessor := unwatchSide side s.assessor }

/-- The adjacency becomes none on any side whose adjacent entry is that of a slot (R112). -/
def dropAdjacent (k : Nat) (s : State) : State :=
  let t := if s.peers.adjacentUp = some k then setAdjacent .up none s else s
  if t.peers.adjacentDown = some k then setAdjacent .down none t else t

/-- An entry lies on a side (R110). -/
def onSide (own : Nat) (side : Side) (e : PeerEntry) : Bool :=
  e.used && (match side with | .up => e.position < own | .down => own < e.position)

/-- The slots of a table that meet a test, from slot `k` on. -/
def slotsFrom (p : PeerEntry → Bool) : Nat → List PeerEntry → List (Nat × PeerEntry)
  | _, [] => []
  | k, e :: es => if p e then (k, e) :: slotsFrom p (k + 1) es else slotsFrom p (k + 1) es

/-- The nearer of two slots to a position. -/
def nearer (own : Nat) (best : Option (Nat × PeerEntry)) (x : Nat × PeerEntry) : Option (Nat × PeerEntry) :=
  match best with
  | some b => if absDiff x.2.position own < absDiff b.2.position own then some x else best
  | none => some x

/-- The nearest slot that meets a test (R110). -/
def nearestSlot (own : Nat) (p : PeerEntry → Bool) (es : List PeerEntry) : Option Nat :=
  ((slotsFrom p 0 es).foldl (nearer own) none).map Prod.fst

/-- The adjacent peer of a side: the nearest pinned entry, else the nearest ACTIVE, ALIGNED and not MISMATCHED (R111). -/
def evaluateSide (own : Nat) (side : Side) (es : List PeerEntry) : Option Nat :=
  (nearestSlot own (fun e => onSide own side e && 0 < e.pinned) es).or
    (nearestSlot own (fun e => onSide own side e && e.state = .active && e.aligned && !e.mismatched) es)

/-- The adjacency evaluated at a window close (R111). -/
def evaluateAdjacency (s : State) : State :=
  let own := s.port.image.position
  let up := evaluateSide own .up s.peers.entries
  let down := evaluateSide own .down s.peers.entries
  setAdjacent .down down (setAdjacent .up up s)

/-! ## Conflicts, freeing, admission (R97 to R99) -/

/-- An id joins the conflict list; the one that joined first leaves a full list (R97). -/
def conflictAdd (id : Nat) (l : List Nat) : List Nat :=
  if l.contains id then l
  else if l.length < Config.conflictListSize then l ++ [id] else l.tail ++ [id]

/-- The conflict list of a state replaced. -/
def setConflicts (s : State) (l : List Nat) : State := { s with peers := { s.peers with conflicts := l } }

/-- The POSITION_CONFLICT event (R97, R99). -/
def recordConflict (id position : Nat) (s : State) : State :=
  record s .positionConflict (.station id) none (.value position)

/-- The entry of a slot becomes FREE with its fields cleared; it leaves the adjacency at once (R99, R104, R112). -/
def freeSlot (k : Nat) (s : State) : State := dropAdjacent k (modifyPeer k (fun _ => Init.freePeer) s)

/-- The farther of two slots from a position, the higher position at equal distance (R98). -/
def farther (own : Nat) (best : Option (Nat × PeerEntry)) (x : Nat × PeerEntry) : Option (Nat × PeerEntry) :=
  match best with
  | some b =>
    let dx := absDiff x.2.position own
    let db := absDiff b.2.position own
    if db < dx || (db = dx && b.2.position < x.2.position) then some x else best
  | none => some x

/-- The farthest unpinned slot that meets a test (R98). -/
def farthestSlot (own : Nat) (p : PeerEntry → Bool) (es : List PeerEntry) : Option (Nat × PeerEntry) :=
  (slotsFrom (fun e => p e && e.pinned = 0) 0 es).foldl (farther own) none

/-- The slot chosen for a newcomer at a position (R98). -/
def chooseSlot (own position : Nat) (es : List PeerEntry) : Option Nat :=
  (findIndex (fun e => e.state = .free) es).or <|
  ((farthestSlot own (fun e => e.state = .lost) es).map Prod.fst).or <|
  ((farthestSlot own (fun e => e.state = .stale) es).map Prod.fst).or <|
  match farthestSlot own (fun e => e.state = .active || e.state = .heard) es with
  | some (k, e) => if absDiff position own < absDiff e.position own then some k else none
  | none => none

/-- The entry of a newcomer (R97). -/
def newcomer (id position : Nat) : PeerEntry := { Init.freePeer with state := .heard, id := id, position := position }

/-- The entry of a slot evicted for a newcomer, with PEER_LOST if it was not LOST (R98, R112). A FREE slot is only
taken. -/
def evict (k : Nat) (s : State) : State :=
  let e := peerAt s k
  if e.state = .free then s
  else
    let t := dropAdjacent k s
    if e.state = .lost then t else record t .peerLost (.station e.id) none (.named .evicted)

/-- The admission of a newcomer: refused for conflict, refused for room, or admitted to a slot, which is returned
(R97). -/
def admitPeer (id position : Nat) (s : State) : State × Option Nat :=
  if positionTaken s id position then
    if s.peers.conflicts.contains id then (s, none)
    else (setConflicts (recordConflict id position s) (conflictAdd id s.peers.conflicts), none)
  else
    match chooseSlot s.port.image.position position s.peers.entries with
    | none => ({ s with peers := { s.peers with refusals := raise16 s.peers.refusals } }, none)
    | some k =>
      let t := modifyPeer k (fun _ => newcomer id position) (evict k s)
      (tableChanged (setConflicts t (t.peers.conflicts.filter (· ≠ id))), some k)

/-- A known peer reports a new position: held if pinned, freed on conflict, or reset at the new position (R99). The slot
is returned if the frame goes on to act on it. DESIGN CHOICE (log 48): an entry reset at a free position keeps its MISMATCHED flag,
and its last header flags, until the frame itself judges and sets them; so a flag that stays set records no second
CONFIG_MISMATCH. -/
def moved (k id position : Nat) (s : State) : State × Option Nat :=
  let e := peerAt s k
  if 0 < e.pinned then (recordConflict id position s, none)
  else if positionTaken s id position then
    let t := recordConflict id position (freeSlot k s)
    (tableChanged (setConflicts t (conflictAdd id t.peers.conflicts)), none)
  else
    let reset (e : PeerEntry) : PeerEntry := { newcomer id position with mismatched := e.mismatched, flags := e.flags }
    (tableChanged (dropAdjacent k (modifyPeer k reset s)), some k)

/-- The MISMATCHED flag judged by a frame that acts on an entry (R100). -/
def judgeMismatch (k : Nat) (h : Header) (s : State) : State :=
  let e := peerAt s k
  let mismatched : Bool := h.n ≠ s.port.image.n
  let t := modifyPeer k (fun e => { e with mismatched := mismatched }) s
  if mismatched && !e.mismatched then record t .configMismatch (.station e.id) none (.value h.n) else t

/-- A valid frame finds its entry: by its id, under R99 if its position differs, or by admission. The slot is returned
if the frame acts on an entry (R96 to R100). -/
def findEntry (h : Header) (s : State) : State × Option Nat :=
  let found := match slotOf s.peers.entries h.sender with
    | some k => if (peerAt s k).position = h.position then (s, some k) else moved k h.sender h.position s
    | none => admitPeer h.sender h.position s
  match found with
  | (t, some k) => (judgeMismatch k h t, some k)
  | (t, none) => (t, none)

/-! ## Acting by kind (R101 to R105, R107) -/

/-- The peer record a REPORT carries (R61, section 6.1). -/
def peerRecord (h : Header) (p : ReportPayload) : PeerRecord where
  epoch := h.epoch - 1
  means := p.means
  irregularity := p.irregularity
  validCycles := p.validCycles
  ref := p.ref
  mode := p.mode
  slewed := p.slewed
  holdover := h.holdover
  unlocked := h.unlocked

/-- A record offered to a ring (R105). DESIGN CHOICE (log 35): a REPORT both INVALID and of another N is taken as INVALID. -/
def ringOffer (ownN : Nat) (h : Header) (p : ReportPayload) (ring : List PeerRecord) : List PeerRecord :=
  let others := ring.filter (fun r => r.epoch ≠ h.epoch - 1)
  if h.invalid then others
  else if h.n ≠ ownN then ring
  else (peerRecord h p :: others).take Config.peerRingSize

/-- A REPORT's effect on its entry but for the state (R101, R105). -/
def reportOnEntry (ownN : Nat) (h : Header) (p : ReportPayload) (e : PeerEntry) : PeerEntry :=
  { e with reportSilence := 0, frameSilence := 0, flags := h.flags, ring := ringOffer ownN h p e.ring }

/-- A REPORT counted for probation (R102). -/
def countProbation (e : PeerEntry) : PeerEntry :=
  if e.tally = 0 then { e with tally := 1, age := 0 }
  else if Config.probationReports ≤ e.tally + 1 then { e with state := .active, tally := 0, age := 0 }
  else { e with tally := e.tally + 1 }

/-- A REPORT's effect on the state of its entry (R101, R102). -/
def reportOnState (e : PeerEntry) : PeerEntry :=
  match e.state with
  | .heard => countProbation e
  | .stale => { e with state := .active }
  | .lost => { e with state := .active }
  | _ => e

/-- A REPORT acts on the entry of a slot, with PEER_ACTIVE if it becomes ACTIVE (R101, R102, R105). -/
def reportActs (k : Nat) (h : Header) (p : ReportPayload) (s : State) : State :=
  let before := (peerAt s k).state
  let t := modifyPeer k (fun e => reportOnState (reportOnEntry s.port.image.n h p e)) s
  if before ≠ .active && (peerAt t k).state = .active then
    record t .peerActive (.station (peerAt t k).id) none (.peerState before)
  else t

/-- A REPORT taken by the table (R96, R101). -/
def tableReport (h : Header) (p : ReportPayload) (s : State) : State :=
  match findEntry h s with
  | (t, some k) => tableChanged (reportActs k h p t)
  | (t, none) => tableChanged t

/-- A frame of another kind acts on the entry of a slot (R103). -/
def otherActs (k : Nat) (h : Header) (s : State) : State :=
  modifyPeer k (fun e => { e with frameSilence := 0, flags := h.flags }) s

/-- A CLAIM, RELEASE or TRIPPED taken by the table (R96, R103). -/
def tableOther (h : Header) (s : State) : State :=
  match findEntry h s with
  | (t, some k) => tableChanged (otherActs k h t)
  | (t, none) => tableChanged t

/-- An ALERT taken by the table: the peer snapshot set, then the test for SYMPATHY (R103, R107, R113). DESIGN CHOICE (log 36):
an ALERT that does not act on its sender's pinned entry (R99) makes no test. -/
def tableAlert (h : Header) (c : AlertContent) (s : State) : State :=
  match findEntry h s with
  | (t, some k) =>
    let t := tableChanged (modifyPeer k (fun e => { e with snapshot := some c }) (otherActs k h t))
    if t.peers.adjacentUp = some k || t.peers.adjacentDown = some k then
      requestDisturbance .sympathy (.station h.sender) t
    else t
  | (t, none) => tableChanged t

/-- The sender's mark set by the Timeline Unit (R83). -/
def setMark (id : Nat) (aligned : Bool) (s : State) : State :=
  match slotOf s.peers.entries id with
  | some k => modifyPeer k (fun e => { e with aligned := aligned }) s
  | none => s

/-- Every entry UNALIGNED, at an applied jump (R86). -/
def unalignAll (t : PeerTable) : PeerTable := { t with entries := t.entries.map (fun e => { e with aligned := false }) }

/-! ## Ageing at boundaries that begin an own epoch (R102, R104) -/

/-- The silences of an entry raised (R104). -/
def raiseSilences (e : PeerEntry) : PeerEntry :=
  if e.used then { e with reportSilence := raise 255 e.reportSilence, frameSilence := raise 255 e.frameSilence } else e

/-- The probation window of a HEARD entry has passed (R102). -/
def probationPassed (e : PeerEntry) : Bool :=
  e.state = .heard && 0 < e.tally && e.tally < Config.probationReports && Config.probationWindow ≤ e.age

/-- The age of an open probation window raised (R102). -/
def raiseAge (e : PeerEntry) : PeerEntry :=
  if e.state = .heard && 0 < e.tally then { e with age := e.age + 1 } else e

/-- A passed probation window closed (R102). -/
def closeProbation (e : PeerEntry) : PeerEntry := if probationPassed e then { e with tally := 0, age := 0 } else e

/-- An ACTIVE entry falls STALE (R104). -/
def staleDue (e : PeerEntry) : Bool := e.state = .active && Config.staleSilence ≤ e.reportSilence

/-- A STALE entry falls LOST (R104). -/
def lostDue (e : PeerEntry) : Bool := e.state = .stale && Config.lostSilence ≤ e.reportSilence

/-- An unpinned HEARD or LOST entry is given back (R104). -/
def freeDue (e : PeerEntry) : Bool :=
  e.pinned = 0 && ((e.state = .heard && Config.heardExpiry ≤ e.frameSilence) ||
    (e.state = .lost && Config.lostExpiry ≤ e.frameSilence))

/-- An entry becomes LOST, with PEER_LOST (R104). -/
def loseSlot (k : Nat) (s : State) : State :=
  record (modifyPeer k (fun e => { e with state := .lost }) s) .peerLost (.station (peerAt s k).id) none (.named .silent)

/-- The entry of a slot moved by its silences, once (R104). -/
def moveSlot (k : Nat) (s : State) : State :=
  let e := peerAt s k
  if staleDue e then modifyPeer k (fun e => { e with state := .stale }) s
  else if lostDue e then loseSlot k s
  else if freeDue e then freeSlot k s
  else s

/-- The table at a boundary that begins an own epoch (R102, R104). DESIGN CHOICE (log 44): the entries move, and record their
events, in slot order. -/
def agePeers (s : State) : State :=
  let aged := s.peers.entries.map (fun e => closeProbation (raiseAge (raiseSilences e)))
  tableChanged ((List.range 16).foldl (fun s k => moveSlot k s) (s.setEntries aged))

end Sys2Proof.Machine
end

