-- ==== Sys2Proof/Machine/Timing.lean ====
section
/-! DEFINITION. The Timeline Unit (Chapter 5): the comparison of a REPORT, the marks, jumps, slews, deferral and the
LISTEN join. -/

namespace Sys2Proof.Machine

/-- The timeline of a state replaced. -/
def State.setTimeline (s : State) (t : Timeline) : State := { s with timeline := t }

/-- D of a REPORT: the header epoch less the latched own epoch (R82). -/
def epochError (h : Header) (latch : Stamp) : Int := epochDiff h.epoch latch.epoch

/-- E of a REPORT: D times 32N plus the header stamp position less the latched one (R82). -/
def timelineError (n : Nat) (h : Header) (latch : Stamp) : Int :=
  epochError h latch * (32 * n : Nat) + h.stamp - latch.position

/-- The mark a REPORT gives its sender (R83). -/
def alignedBy (n : Nat) (h : Header) (latch : Stamp) : Bool :=
  h.n = n && (epochError h latch).natAbs ≤ 1 && (timelineError n h latch).natAbs ≤ Config.alignTolerance.toNat

/-- The three cases of a source's error (R84). -/
inductive ErrorCase where
  | jump
  | slew
  | steady
deriving DecidableEq, Repr

/-- The case of D and E (R84). -/
def errorCase (n : Nat) (d e : Int) : ErrorCase :=
  if 1 < d.natAbs || 32 * n ≤ e.natAbs then .jump
  else if Config.alignTolerance.toNat < e.natAbs then .slew
  else .steady

/-- The target of a jump from a REPORT's header (R85). -/
def jumpTarget (h : Header) : JumpTarget := ⟨h.epoch, h.stamp / 32⟩

/-- A jump requested of the Cycle Tracker, with the Timeline Unit's jump pending set (R16, R85). -/
def requestJump (h : Header) (s : State) : State :=
  { s with
    tracker := { s.tracker with jump := some (jumpTarget h) }
    timeline := { s.timeline with jumpPending := some ⟨jumpTarget h, h.sender⟩ } }

/-- The jump case of a source's REPORT: requested in BLIND and CALM, deferred in DISTURBED and DEENERGIZED (R85, R89). -/
def sourceJump (h : Header) (s : State) : State :=
  if s.detector.assessment = .blind || s.detector.assessment = .calm then
    let t := requestJump h s
    t.setTimeline { t.timeline with deferred := false }
  else if s.timeline.deferred then s
  else
    record (s.setTimeline { s.timeline with deferred := true })
      .jumpDeferred (.station h.sender) none (.value h.epoch.toNat)

/-- The slew case of a source's REPORT (R87). -/
def sourceSlew (e : Int) (s : State) : State :=
  let t := s.setTimeline { s.timeline with deferred := false }
  if t.timeline.slewGuard || t.timeline.jumpPending.isSome then t
  else
    { t with
      timeline := { t.timeline with slewGuard := true }
      tracker := { t.tracker with slew := if 0 < e then .shorten else .lengthen } }

/-- A REPORT judged from the timing source in RUN (R84). In the slew and no-action cases with a jump pending it requests
nothing, and the pending jump stands. -/
def sourceReport (h : Header) (latch : Stamp) (s : State) : State :=
  let n := s.port.image.n
  let d := epochError h latch
  let e := timelineError n h latch
  let t := s.setTimeline { s.timeline with sourceError := some ⟨d, e⟩ }
  match errorCase n d e with
  | .jump => sourceJump h t
  | .slew => sourceSlew e t
  | .steady => t.setTimeline { t.timeline with deferred := false }

/-- The LISTEN join (R91). -/
def listenJoin (h : Header) (s : State) : State :=
  if s.timeline.join = .opened && h.n = s.port.image.n && h.position < s.port.image.position then
    let t := requestJump h s
    t.setTimeline { t.timeline with join := .pending }
  else s

/-- A REPORT taken by the Timeline Unit after the Peer Table: the sender's mark, then the join in LISTEN, or the source's
move in RUN (R82 to R84, R91, R93). DESIGN CHOICE (log 34): a pinned timing source is known by its id and its entry's position,
wherever its header now places it. -/
def timelineReport (h : Header) (latch : Stamp) (s : State) : State :=
  let n := s.port.image.n
  let t := setMark h.sender (alignedBy n h latch) s
  match t.run with
  | .config => t
  | .listen => listenJoin h t
  | .run => if h.n = n && t.timeline.source = some h.sender then sourceReport h latch t else t

/-- The Timeline Unit at an applied jump (R86): TIMELINE_JUMP with the sender of the REPORT that gave the target. -/
def timelineJump (target : JumpTarget) (s : State) : State :=
  let subject := match s.timeline.jumpPending with
    | some p => EventSubject.station p.sender
    | none => EventSubject.absent
  let t := { s with
    timeline := { s.timeline with jumpPending := none, slewGuard := false, deferred := false, sourceError := none }
    peers := unalignAll s.peers }
  record t .timelineJump subject none (.value target.epoch.toNat)

end Sys2Proof.Machine
end

