-- ==== Sys2Proof/Machine/Claims.lean ====
section
/-! DEFINITION. The Claim Register's operations (Chapter 8): own records raised, changed, released and refreshed, heard
records taken, aged and removed. Those that a caller makes as one event report to the Trip Linkage through
`reporting`. -/

namespace Sys2Proof.Machine

/-- What a record's series says. -/
def ClaimRecord.content (r : ClaimRecord) : ClaimContent := ⟨r.span, r.key.kind, r.mask, r.key.fin⟩

/-- An event about a record: its key as subject, its span as span positions (R154). -/
def recordClaim (kind : EventKind) (r : ClaimRecord) (detail : Detail) (s : State) : State :=
  record s kind (.claim r.key) (some r.span) detail

/-- A record newly STANDING in an own epoch (R139, R145). DESIGN CHOICE (log 50): the frame age of an own record and the refresh age of
a heard one, which section 8.1 gives no meaning, are 0. -/
def standingRecord (epoch : EpochNum) (key : ClaimKey) (position : Nat) (c : ClaimContent) (own : Bool) : ClaimRecord where
  key := key
  position := position
  span := c.span
  mask := c.mask
  status := .standing
  own := own
  raiseEpoch := epoch
  refreshEpoch := epoch
  standingAge := 0
  refreshAge := 0
  frameAge := 0
  corroborated := false
  agrees := false

/-- A record placed at the end of register order, the flags and the pair list judged (R137, R152, R153). -/
def placeRecord (r : ClaimRecord) (s : State) : State :=
  rejudgePairs (judgeAgreement (s.setRecords (appendRecord r s.register.records)))

/-! ## Own records (R139 to R142) -/

/-- A raise under a key the register does not hold, or over a RELEASED own record (R139, R142). Its `epoch` is the one whose
window close made the assessment. DESIGN CHOICE (log 21): a re-raise too records its CORROBORATED events before CLAIM_RAISED, in
the order of R139's steps. -/
def raiseOwn (epoch : EpochNum) (c : ClaimContent) (s : State) : State :=
  let key := ownKey s c.kind c.fin
  let isNew := (findRecord s.register.records key).isNone
  let r := standingRecord epoch key s.port.image.position c true
  let t := recordClaim .claimRaised r (.mask c.mask) (placeRecord r s)
  let t := offerSeries (.claim c false) t
  if isNew then requestDisturbance .claim (.claim key) t else t

/-- A CLAIM series offered with REFRESH for an own record, its refresh age and epoch set (R140). -/
def refreshSeries (epoch : EpochNum) (r : ClaimRecord) (s : State) : State :=
  offerSeries (.claim r.content true)
    (s.setRecords (modifyRecord r.key (fun x => { x with refreshAge := 0, refreshEpoch := epoch }) s.register.records))

/-- A mask change of an own STANDING record (R140). DEDUCED (log 32): its own epoch current is, as at a raise, the epoch whose
window close made the assessment. -/
def changeMask (epoch : EpochNum) (key : ClaimKey) (mask : PerPhase Bool) (s : State) : State :=
  match findRecord s.register.records key with
  | some r =>
    let t := s.setRecords (modifyRecord key (fun x => { x with mask := mask }) s.register.records)
    rejudgePairs (judgeAgreement (refreshSeries epoch { r with mask := mask } t))
  | none => s

/-- A release of an own STANDING record (R131, R141): the RELEASE series, the event, the pair list, the unpin, and the
Detector told. -/
def releaseOwn (key : ClaimKey) (s : State) : State :=
  match findRecord s.register.records key with
  | some r =>
    let t := s.setRecords (modifyRecord key (fun x => { x with status := .released }) s.register.records)
    let t := recordClaim .claimReleased r (.named .own) (offerSeries (.release r.content) t)
    testCloseOnChange (unpin (farEnd key.fin r.span) (rejudgePairs t))
  | none => s

/-- The RELEASE series of an own record has closed: a RELEASED record is removed, and the Detector told (R47, R141). -/
def releaseClosed (kind : ClaimKind) (fin : SpanEnd) (s : State) : State :=
  testCloseOnChange (removeRecords (fun r => r.key = ownKey s kind fin && r.own && r.status = .released) s)

/-- An own STANDING record has reached its refresh age (R140). -/
def refreshDue (r : ClaimRecord) : Bool := r.own && r.standing && Config.refreshEpochs ≤ r.refreshAge

/-- The refreshes of a list of records (R140). DESIGN CHOICE (log 40): in register order. -/
def refreshAll : List ClaimRecord → State → State
  | [], s => s
  | r :: rs, s => refreshAll rs (if refreshDue r then refreshSeries s.tracker.epoch r s else s)

/-! ## Heard records (R144 to R146) -/

/-- A CLAIM or RELEASE frame agrees with its own header, and an OPEN claim names a phase (R144). -/
def claimAdmissible (h : Header) (c : ClaimContent) : Bool :=
  (match c.fin with | .u => c.span.up = h.position | .d => c.span.down = h.position) &&
    !(c.kind = .openConductor && !c.mask.some)

/-- The key of a heard claim. -/
def heardKey (h : Header) (c : ClaimContent) : ClaimKey := ⟨h.sender, c.kind, c.fin⟩

/-- A backup timer that is RUNNING or EXPIRED refers to a key (R145). -/
def timerRefers (l : Linkage) (key : ClaimKey) : Bool :=
  l.entries.any (fun e => match e.timer.candidate with
    | some c => c.key = key || c.partner = some key
    | none => false)

/-- Some entry's delay runs on a record (R145, R157, log 20). -/
def anyDelayRuns (s : State) (r : ClaimRecord) : Bool :=
  (s.port.image.entries.zip s.linkage.entries).any (fun p => delayRuns s p.1 p.2.spent r)

/-- The heard record that gives way to a new claim: the earliest RELEASED one, else the earliest STANDING one that is
neither corroborated nor referred to by the Trip Linkage (R145). -/
def claimVictim (s : State) : Option ClaimRecord :=
  (s.register.records.find? (fun r => !r.own && r.status = .released)).or
    (s.register.records.find? (fun r => !r.own && r.standing && !r.corroborated && !timerRefers s.linkage r.key &&
      !anyDelayRuns s r))

/-- The heard records are at their limit (R137). -/
def heardFull (rs : List ClaimRecord) : Bool := Config.heardPlaces ≤ (rs.filter (fun r => !r.own)).length

/-- A heard record gives way, with CLAIM_EXPIRED if it was STANDING (R145). -/
def evictClaim (r : ClaimRecord) (s : State) : State :=
  let t := removeRecords (fun x => x.key = r.key) s
  if r.standing then recordClaim .claimExpired r (.named .evicted) t else t

/-- A heard claim entered STANDING: CLAIM_HEARD is recorded, then the flags and the pair list are judged, then the Detector is
asked (R145). -/
def enterHeard (h : Header) (c : ClaimContent) (s : State) : State :=
  let r := standingRecord s.tracker.epoch (heardKey h c) h.position c false
  let t := recordClaim .claimHeard r (.mask c.mask) s
  requestDisturbance .claim (.claim r.key) (placeRecord r t)

/-- A CLAIM under a key the register does not hold (R145). -/
def admitClaim (h : Header) (c : ClaimContent) (s : State) : State :=
  if heardFull s.register.records then
    match claimVictim s with
    | some r => enterHeard h c (evictClaim r s)
    | none => record s .claimOverflow (.claim (heardKey h c)) (some c.span) .absent
  else enterHeard h c s

/-- A CLAIM under the key of a STANDING record: its content taken, and the record raised afresh if REFRESH is clear and
the content differs (R144). -/
def renewClaim (h : Header) (c : ClaimContent) (refresh : Bool) (r : ClaimRecord) (s : State) : State :=
  let taken := { r with
    position := h.position, span := c.span, mask := c.mask, frameAge := 0, refreshEpoch := s.tracker.epoch }
  let differs : Bool := c.span ≠ r.span || c.mask ≠ r.mask
  if !differs then s.setRecords (modifyRecord r.key (fun _ => taken) s.register.records)
  else if refresh then
    rejudgePairs (judgeAgreement (s.setRecords (modifyRecord r.key (fun _ => taken) s.register.records)))
  else placeRecord { taken with raiseEpoch := s.tracker.epoch, standingAge := 0 } s

/-- A CLAIM under the key of a RELEASED record: it returns to STANDING (R144). DESIGN CHOICE (log 21): CLAIM_HEARD is recorded
before the CORROBORATED events of the return. -/
def returnClaim (h : Header) (c : ClaimContent) (s : State) : State :=
  let r := standingRecord s.tracker.epoch (heardKey h c) h.position c false
  placeRecord r (recordClaim .claimHeard r (.mask c.mask) s)

/-- A valid CLAIM frame taken by the register (R144). -/
def takeClaim (h : Header) (c : ClaimContent) (refresh : Bool) (s : State) : State :=
  if claimAdmissible h c then
    match findRecord s.register.records (heardKey h c) with
    | none => admitClaim h c s
    | some r =>
      match r.status with
      | .standing => renewClaim h c refresh r s
      | .released => returnClaim h c s
      | .covered => s
  else s

/-- A valid RELEASE frame taken by the register (R146). -/
def takeRelease (h : Header) (c : ClaimContent) (s : State) : State :=
  if claimAdmissible h c then
    match findRecord s.register.records (heardKey h c) with
    | some r =>
      if r.standing then
        let t := s.setRecords (modifyRecord r.key (fun x => { x with status := .released }) s.register.records)
        rejudgePairs (recordClaim .claimReleased r (.named .heard) t)
      else s
    | none => s
  else s

/-! ## Ageing at boundaries that begin an own epoch (R140, R147) -/

/-- The ages of a record raised (R140, R147). DESIGN CHOICE (log 50): the frame age of an own record and the refresh age of a heard
one stand. -/
def ageRecord (r : ClaimRecord) : ClaimRecord :=
  { r with
    standingAge := if r.standing then raise 255 r.standingAge else r.standingAge
    refreshAge := if r.own && r.standing then r.refreshAge + 1 else r.refreshAge
    frameAge := if r.own then r.frameAge else r.frameAge + 1 }

/-- A heard record has reached its expiry (R147). -/
def expiryDue (r : ClaimRecord) : Bool := !r.own && Config.claimExpiry ≤ r.frameAge

/-- The heard record of a key removed if it has expired, with CLAIM_EXPIRED if it was STANDING (R147). -/
def expireClaim (key : ClaimKey) (s : State) : State :=
  match findRecord s.register.records key with
  | some r =>
    if expiryDue r then
      removeRecords (fun x => x.key = key) (if r.standing then recordClaim .claimExpired r (.named .silent) s else s)
    else s
  | none => s

/-- The expired records of a list of keys removed, each a change of its own (R147, R159). DESIGN CHOICE (log 40): in register
order. -/
def expireEach : List ClaimKey → State → State
  | [], s => s
  | key :: keys, s => expireEach keys (reporting (expireClaim key) s)

/-- The refreshes that have fallen due (R140). -/
def refreshDueRecords (s : State) : State := refreshAll s.register.records s

/-- The register at a boundary that begins an own epoch: ages raised, refreshes made, expired heard records removed, and the Trip
Linkage told of each (R137, R140, R147, R159). DEDUCED (log 39): in this order, so that a record that reaches its d satisfies at
this boundary (R157) though it expires there. -/
def ageRegister (s : State) : State :=
  let t := reporting (fun s => s.setRecords (s.register.records.map ageRecord)) s
  let t := reporting refreshDueRecords t
  expireEach (t.register.records.map ClaimRecord.key) t

/-- A TRIPPED frame taken by the Trip Linkage: the trip list, the timers in RUN, and an evaluation (R162, R167). -/
def linkageTripped (sender : Nat) (c : TrippedContent) (s : State) : State :=
  let known := tripKnown s.linkage.trips sender c
  let t := takeIntoTripList sender c s
  let t := if known then t else record t .trippedHeard (.station sender) (some c.span) (.trip c.result c.output)
  if t.run = .run then evaluateTrips (timersByTripped c t) else t

end Sys2Proof.Machine
end

