-- ==== Sys2Proof/Machine/Assess.lean ====
section
/-! DEFINITION. The Continuity Assessor (Chapter 7): pairing, the map and its boundaries, the verdict cells, the own
claim records they drive, and the close of a report window that brings an assessment. -/

namespace Sys2Proof.Machine

/-- The assessor of a state replaced. -/
def State.setAssessor (s : State) (a : Assessor) : State := { s with assessor := a }

/-! ## Pairing and the map (R118, R119) -/

/-- A peer's record of epoch `e`, if it is paired (R118). -/
def pairedRecord (e : EpochNum) (p : PeerEntry) : Option PeerRecord :=
  if p.state = .active && p.aligned && !p.mismatched then p.ring.find? (fun r => r.epoch = e) else none

/-- The class of a phase voltage (R119). -/
def classify (image : Image) (v : Nat) : PhaseClass :=
  if image.vlive ≤ v then .energized else if image.vdead ≤ v then .partly else .collapsed

/-- The own map entry (R119). -/
def ownMapEntry (image : Image) (r : EpochRecord) : MapEntry where
  id := image.stationId
  position := image.position
  own := true
  means := r.means
  irregularity := r.irregularity
  validCycles := r.validCycles
  classes := r.means.v.map (classify image)

/-- A paired peer's map entry (R119). -/
def peerMapEntry (image : Image) (p : PeerEntry) (r : PeerRecord) : MapEntry where
  id := p.id
  position := p.position
  own := false
  means := r.means
  irregularity := r.irregularity
  validCycles := r.validCycles
  classes := r.means.v.map (classify image)

/-- A map entry put in its place by position. -/
def insertByPosition (m : MapEntry) : List MapEntry → List MapEntry
  | [] => [m]
  | x :: xs => if x.position ≤ m.position then x :: insertByPosition m xs else m :: x :: xs

/-- The map entries of the paired peers of a table, in slot order. -/
def pairedEntries (image : Image) (e : EpochNum) (es : List PeerEntry) : List MapEntry :=
  es.filterMap (fun p => (pairedRecord e p).map (peerMapEntry image p))

/-- The continuity map of an epoch (R119). -/
def buildMap (image : Image) (r : EpochRecord) (es : List PeerEntry) : ContinuityMap where
  epoch := r.epoch
  entries := (ownMapEntry image r :: pairedEntries image r.epoch es).foldr insertByPosition []

/-! ## Boundaries (R120 to R122) -/

/-- The first pair of consecutive entries that meets a test, as its positions (R120, R121). -/
def firstPair (p : MapEntry → MapEntry → Bool) : List MapEntry → Option Span
  | a :: b :: rest => if p a b then some ⟨a.position, b.position⟩ else firstPair p (b :: rest)
  | _ => none

/-- The located boundary of a phase (R120). -/
def phaseBoundaryOf (φ : Phase) (m : ContinuityMap) : Option Span :=
  firstPair (fun a b => a.classes.get φ = .energized && b.classes.get φ ≠ .energized) m.entries

/-- The residual boundary (R121). -/
def residualBoundaryOf (image : Image) (m : ContinuityMap) : Option Span :=
  firstPair (fun a b => image.rground ≤ a.means.r && b.means.r * 256 < a.means.r * image.rsplit) m.entries

/-- The LOCATED event of a boundary that appears or changes outside CALM (R122). -/
def recordLocated (n : Nat) (held found : Option Span) (s : State) : State :=
  if found.isSome && found ≠ held && s.detector.assessment ≠ .calm then
    record s .located .absent found (.value n)
  else s

/-- Stage 2 of an assessment: the map built, the boundaries replaced, their events recorded in the order 1, 2, 3,
residual, and the map agreement flags judged (R116, R119 to R122, R153). DESIGN CHOICE (log 37): the evaluation that a changed
flag brings is made here, before stage 3 reads the state and the snapshots. -/
def takeMap (r : EpochRecord) (s : State) : State :=
  let m := buildMap s.port.image r s.peers.entries
  let held := s.assessor
  let b1 := phaseBoundaryOf .one m
  let b2 := phaseBoundaryOf .two m
  let b3 := phaseBoundaryOf .three m
  let b0 := residualBoundaryOf s.port.image m
  let t := s.setAssessor { held with
    lastEpoch := some r.epoch, map := some m, phaseBoundary := ⟨b1, b2, b3⟩, residualBoundary := b0 }
  let t := recordLocated 1 held.phaseBoundary.p1 b1 t
  let t := recordLocated 2 held.phaseBoundary.p2 b2 t
  let t := recordLocated 3 held.phaseBoundary.p3 b3 t
  let t := recordLocated 0 held.residualBoundary b0 t
  reporting judgeAgreement t

/-! ## Verdicts (R123 to R125) -/

/-- The evidence of a side: its adjacent peer's paired record and peer snapshot (R123). -/
structure Evidence where
  peer : PeerRecord
  announced : Option AlertContent
deriving DecidableEq, Repr

/-- The evidence of a side for epoch `e`, if its adjacent peer is paired (R123). -/
def sideEvidence (e : EpochNum) (side : Side) (t : PeerTable) : Option Evidence :=
  match t.adjacent side with
  | some k =>
    let p := t.entries.getD k Init.freePeer
    (pairedRecord e p).map (fun r => ⟨r, p.snapshot⟩)
  | none => none

/-- OPEN DOWN φ (R124). -/
def openDownHolds (image : Image) (φ : Phase) (o : EpochRecord) (snap : Option EpochRecord) (x : Evidence) : Bool :=
  match snap with
  | some sn =>
    image.vlive ≤ o.means.v.get φ && x.peer.means.v.get φ < image.vlive &&
      (image.idrop : Int) ≤ (sn.means.i.get φ : Int) - o.means.i.get φ
  | none => false

/-- OPEN UP φ (R124). -/
def openUpHolds (image : Image) (φ : Phase) (o : EpochRecord) (snap : Option EpochRecord) (x : Evidence) : Bool :=
  match snap with
  | some sn =>
    o.means.v.get φ < image.vlive && image.vlive ≤ sn.means.v.get φ &&
      o.means.v.get φ * 256 < sn.means.v.get φ * image.vloss && image.vlive ≤ x.peer.means.v.get φ
  | none => false

/-- GROUND DOWN (R125). -/
def groundDownHolds (image : Image) (o : EpochRecord) (snap : Option EpochRecord) (x : Evidence) : Bool :=
  match snap with
  | some sn =>
    image.rground ≤ o.means.r && (image.rstep : Int) ≤ (o.means.r : Int) - sn.means.r &&
      image.irregMin ≤ o.irregularity && x.peer.means.r * 256 < o.means.r * image.rsplit
  | none => false

/-- The rise GROUND UP asks against the peer snapshot, where one is held (R125). -/
def announcedRise (image : Image) (x : Evidence) : Bool :=
  match x.announced with
  | some c => (image.rstep : Int) ≤ (x.peer.means.r : Int) - c.values.r
  | none => true

/-- GROUND UP (R125). -/
def groundUpHolds (image : Image) (o : EpochRecord) (x : Evidence) : Bool :=
  image.rground ≤ x.peer.means.r && image.irregMin ≤ x.peer.irregularity &&
    o.means.r * 256 < x.peer.means.r * image.rsplit && announcedRise image x

/-- The verdict of a judged cell: UNKNOWN without evidence, else TRUE or FALSE by its condition (R123). -/
def verdictOf (evidence : Option Evidence) (holds : Evidence → Bool) : Verdict :=
  match evidence with
  | some x => if holds x then .isTrue else .isFalse
  | none => .unknown

/-! ## The moves of a cell (R126) -/

/-- A cell that reaches K true epochs is HELD, else it is in WATCH. -/
def Cell.count (k : Nat) (c : Cell) : Cell :=
  if k ≤ c.condition + 1 then { c with condition := k, state := .held }
  else { c with condition := c.condition + 1, state := .watch }

/-- A TRUE verdict taken by a cell (R126). -/
def Cell.onTrue (k : Nat) (c : Cell) : Cell :=
  let c := { c with unknowns := 0, verdict := .isTrue }
  match c.state with
  | .clear => { c with condition := 1, state := .watch }
  | .watch => c.count k
  | .held => c
  | .fading => { c with falses := 0, state := .held }

/-- A FALSE verdict taken by a cell (R126). -/
def Cell.onFalse (k : Nat) (c : Cell) : Cell :=
  let c := { c with unknowns := 0, verdict := .isFalse }
  match c.state with
  | .clear => c
  | .watch => { c with condition := 0, state := .clear }
  | .held => { c with falses := 1, state := .fading }
  | .fading =>
    if k ≤ c.falses + 1 then { c with falses := 0, condition := 0, state := .clear }
    else { c with falses := c.falses + 1 }

/-- An UNKNOWN verdict taken by a cell (R126). -/
def Cell.onUnknown (c : Cell) : Cell :=
  let c := { c with verdict := .unknown }
  match c.state with
  | .clear => c
  | .watch =>
    let run := raise 255 c.unknowns
    if Config.watchUnknowns ≤ run then { c with unknowns := run, condition := 0, state := .clear }
    else { c with unknowns := run }
  | .held => { c with unknowns := raise 255 c.unknowns }
  | .fading => c

/-- A cell moved by its verdict; one that is not judged keeps its state and counters (R123, R126). -/
def Cell.move (k : Nat) (v : Verdict) (c : Cell) : Cell :=
  match v with
  | .isTrue => c.onTrue k
  | .isFalse => c.onFalse k
  | .unknown => c.onUnknown
  | .notJudged => { c with verdict := .notJudged }

/-- The own record of a kind and end is COVERED, so that the cells behind it are not judged (R133). -/
def ownCovered (s : State) (kind : ClaimKind) (fin : SpanEnd) : Bool :=
  s.register.records.any (fun r => r.key = ownKey s kind fin && r.own && r.status = .covered)

/-- The verdict of a cell of a kind and end, with the cases in which it is not judged (R123). -/
def cellVerdict (s : State) (kind : ClaimKind) (fin : SpanEnd) (evidence : Option Evidence)
    (holds : Evidence → Bool) : Verdict :=
  if s.detector.assessment = .blind || s.detector.assessment = .deenergized || ownCovered s kind fin then .notJudged
  else verdictOf evidence holds

/-- Stage 3 of an assessment: the eight cells moved together (R123 to R127). -/
def moveCells (o : EpochRecord) (s : State) : State :=
  let image := s.port.image
  let snap := s.detector.snapshot
  let down := sideEvidence o.epoch .down s.peers
  let up := sideEvidence o.epoch .up s.peers
  let openDown (φ : Phase) (c : Cell) : Cell :=
    c.move image.k (cellVerdict s .openConductor .u down (openDownHolds image φ o snap))
  let openUp (φ : Phase) (c : Cell) : Cell :=
    c.move image.k (cellVerdict s .openConductor .d up (openUpHolds image φ o snap))
  let a := s.assessor
  s.setAssessor { a with
    openDown := ⟨openDown .one a.openDown.p1, openDown .two a.openDown.p2, openDown .three a.openDown.p3⟩
    openUp := ⟨openUp .one a.openUp.p1, openUp .two a.openUp.p2, openUp .three a.openUp.p3⟩
    groundDown := a.groundDown.move image.k (cellVerdict s .ground .u down (groundDownHolds image o snap))
    groundUp := a.groundUp.move image.k (cellVerdict s .ground .d up (groundUpHolds image o)) }

/-! ## Own claim records (R129 to R132) -/

/-- A cell counts as held for the mirror: HELD or FADING (R129). -/
def Cell.mirrored (c : Cell) : Bool := c.state = .held || c.state = .fading

/-- The side whose cells drive the own record of an end. -/
def sideOf : SpanEnd → Side
  | .u => .down
  | .d => .up

/-- The wanted mask of an OPEN record (R129). -/
def wantedMask (a : Assessor) : SpanEnd → PerPhase Bool
  | .u => a.openDown.map Cell.mirrored
  | .d => a.openUp.map Cell.mirrored

/-- Whether an own record is wanted, with its mask (R129). -/
def wanted (a : Assessor) (kind : ClaimKind) (fin : SpanEnd) : Option (PerPhase Bool) :=
  match kind, fin with
  | .openConductor, fin => if (wantedMask a fin).some then some (wantedMask a fin) else none
  | .ground, .u => if a.groundDown.mirrored then some (Init.allPhases false) else none
  | .ground, .d => if a.groundUp.mirrored then some (Init.allPhases false) else none

/-- The span a raise names (R130). -/
def raiseSpan (own adjacent : Nat) : SpanEnd → Span
  | .u => ⟨own, adjacent⟩
  | .d => ⟨adjacent, own⟩

/-- A raise: the peer pinned, and the record entered (R130, R132). -/
def raiseClaim (epoch : EpochNum) (kind : ClaimKind) (fin : SpanEnd) (mask : PerPhase Bool) (s : State) : State :=
  match s.peers.adjacent (sideOf fin) with
  | some k =>
    let position := (peerAt s k).position
    reporting (raiseOwn epoch ⟨raiseSpan s.port.image.position position fin, kind, mask, fin⟩) (pin position s)
  | none => s

/-- The at most one hand-off for an own record, by its wanted and its held form (R129). -/
def handOff (epoch : EpochNum) (kind : ClaimKind) (fin : SpanEnd) (s : State) : State :=
  let key := ownKey s kind fin
  match wanted s.assessor kind fin, findRecord s.register.records key with
  | some mask, none => raiseClaim epoch kind fin mask s
  | some mask, some r =>
    match r.status with
    | .released => raiseClaim epoch kind fin mask s
    | .standing => if mask = r.mask then s else reporting (changeMask epoch key mask) s
    | .covered => s
  | none, some r => if r.standing then reporting (releaseOwn key) s else s
  | none, none => s

/-- Stage 4 of an assessment: the four own records in order (R129). -/
def mirrorClaims (epoch : EpochNum) (s : State) : State :=
  handOff epoch .ground .d (handOff epoch .ground .u (handOff epoch .openConductor .d (handOff epoch .openConductor .u s)))

/-! ## The assessment (R116, R117) -/

/-- The assessment that the close of epoch `x`'s window makes, of the epoch before it, and its hand-off to the Trip Linkage
(R116, R139). Stage 3 reads the state and the snapshots as stage 2 leaves them (log 37). -/
def assess (x : EpochNum) (s : State) : State :=
  match validRecord s.engine.ring (x - 1) with
  | some r => evaluateTrips (mirrorClaims x (moveCells r (takeMap r s)))
  | none => evaluateTrips s

/-- A verdict forgotten (R117). -/
def Cell.unjudged (c : Cell) : Cell := { c with verdict := .notJudged }

/-- The Assessor at an applied jump: map and boundaries gone, verdicts NOT JUDGED, cells kept (R117). -/
def assessorJump (a : Assessor) : Assessor :=
  { a with
    map := none
    phaseBoundary := Init.allPhases none
    residualBoundary := none
    openDown := a.openDown.map Cell.unjudged
    openUp := a.openUp.map Cell.unjudged
    groundDown := a.groundDown.unjudged
    groundUp := a.groundUp.unjudged }

end Sys2Proof.Machine
end

