-- ==== Sys2Proof/Machine/Access.lean ====
section
/-! DEFINITION. Posture, eligibility, channel access, hand-over and completion (sections 4.2, 4.5 and 4.7, and the fault
unit's part in them), and the re-judging of all of it that ends a command. -/

namespace Sys2Proof.Machine

/-- The link of a state replaced. -/
def State.setLink (s : State) (l : Link) : State := { s with link := l }

/-! ## Posture and receiver-enable (R57, R67, R68) -/

/-- The posture the station should hold (R67). -/
def vigilantNow (s : State) : Bool :=
  s.detector.assessment ≠ .calm || !s.register.records.isEmpty || 0 < s.link.hold

/-- The posture re-judged (R67). -/
def judgePosture (s : State) : State := s.setLink { s.link with vigilant := vigilantNow s }

/-- The receiver-enable line as the table of R57 gives it. -/
def receiverNow (s : State) : Bool :=
  match s.run with
  | .config => false
  | .listen => !s.link.sending
  | .run => !s.link.sending && (s.link.vigilant || s.link.windowOpen || s.link.receiving)

/-- The receiver-enable line re-judged (R57). -/
def judgeReceiver (s : State) : State := s.setLink { s.link with receiverEnable := receiverNow s }

/-- The vigilance hold set (R68). -/
def setHold (s : State) : State := s.setLink { s.link with hold := Config.holdEpochs }

/-! ## Eligibility (R75, R172, R174) -/

/-- The fault unit bars an entry (R172, R174). -/
def barred (f : FaultUnit) (e : QueueEntry) : Bool := f.jammed || (f.xcvrFault && e.cls ≠ 2)

/-- An entry may go by its kind, the windows and the posture (R75). -/
def timely (s : State) (e : QueueEntry) : Bool :=
  match e.item with
  | .report _ => s.link.windowOpen && e.bound = s.tracker.epoch
  | .alert _ => s.link.vigilant || s.link.windowOpen
  | _ => (s.link.vigilant || s.link.windowOpen) && e.due && e.mark = .noFrame

/-- An entry is eligible (R75). -/
def eligible (s : State) (e : QueueEntry) : Bool := s.run = .run && timely s e && !barred s.fault e

/-- The first eligible entry in queue order (R76). -/
def firstEligible (s : State) : Option QueueEntry := s.link.queue.find? (eligible s)

/-! ## Backoff draws (R77) -/

/-- One step of the LFSR: its new bit 1 is the exclusive-or of the old bits 16, 14, 13 and 11 (R77). -/
def lfsrStep (x : BitVec 16) : BitVec 16 :=
  let bit := xor (xor (x.getLsbD 15) (x.getLsbD 13)) (xor (x.getLsbD 12) (x.getLsbD 10))
  (x <<< 1) ||| (BitVec.ofBool bit).zeroExtend 16

/-- The backoff of a class from a value of the LFSR (R77). -/
def backoffSlots (cls : Nat) (x : BitVec 16) : Nat :=
  match cls with
  | 0 => x.toNat % 4
  | 1 => 4 + x.toNat % 8
  | _ => 12 + x.toNat % 64

/-! ## Hand-over (R55, R60, R68) -/

/-- What a hand-over leaves of the entry in the queue: a single frame leaves, a series is marked CURRENT (R55). -/
def handedQueue (e : QueueEntry) (q : List QueueEntry) : List QueueEntry :=
  if e.isSeries then queueModify e.subject (fun x => { x with mark := .current }) q else queueRemove e.subject q

/-- The frame of an entry handed to the transceiver, stamped at this instant (R55). DEDUCED (log 26): the VIGILANT flag
shows the posture as it stood before the hold that this hand-over sets. -/
def handOver (e : QueueEntry) (s : State) : State :=
  s.setLink { s.link with
    queue := handedQueue e s.link.queue
    access := .idle
    candidate := none
    backoff := 0
    sending := true
    inFlight := some ⟨e.subject, putFrame (stampedFrame s e.item)⟩
    completionTimer := 0
    receiving := false
    latch := none
    receptionTimer := 0
    hold := if e.cls = 2 then s.link.hold else Config.holdEpochs }

/-! ## Access (R76, R78) -/

/-- Access given up: IDLE with no candidate. -/
def idleAccess (s : State) : State := s.setLink { s.link with access := .idle, candidate := none, backoff := 0 }

/-- The candidate waits in DEFER (R76, R78). -/
def deferAccess (e : QueueEntry) (s : State) : State :=
  s.setLink { s.link with access := .defer, candidate := some e.subject, backoff := 0 }

/-- A backoff drawn for a candidate on an idle channel; a draw of 0 hands over at once (R77, R78). -/
def drawBackoff (e : QueueEntry) (s : State) : State :=
  let x := lfsrStep s.link.lfsr
  let b := backoffSlots e.cls x
  let t := s.setLink { s.link with lfsr := x, access := .backoff, candidate := some e.subject, backoff := b }
  if b = 0 then handOver e t else t

/-- The candidate chosen afresh: the first eligible entry, deferring on a busy channel (R76). -/
def chooseCandidate (s : State) : State :=
  match firstEligible s with
  | none => idleAccess s
  | some e => if s.busyPin then deferAccess e s else drawBackoff e s

/-- The queue entry of the candidate. -/
def candidateEntry (s : State) : Option QueueEntry := s.link.candidate.bind (queueFind s.link.queue)

/-- The backoff stands: the candidate is eligible and no more urgent entry is (R78). -/
def backoffStands (s : State) : Bool :=
  match candidateEntry s with
  | some c => eligible s c && !s.link.queue.any (fun e => eligible s e && e.cls < c.cls)
  | none => false

/-- A backoff that no longer stands is abandoned (R78). -/
def abandonBackoff (s : State) : State :=
  if s.link.access = .backoff && !backoffStands s then idleAccess s else s

/-- The report window of epoch `x` shut: the REPORT bound to it missed, and a backoff whose candidate can no longer go
abandoned at that instant, whatever opens or is offered after it (R66, R70, R78). -/
def shutWindow (x : EpochNum) (s : State) : State :=
  abandonBackoff (judgePosture (missReport (fun e => e.bound = x) (s.setLink { s.link with windowOpen := false })))

/-- The close of the report window of epoch `x` other than at a jump: the window shut, the adjacency evaluated, and the
assessment made (R66, R70, R111, R116). -/
def closeWindow (x : EpochNum) (s : State) : State := assess x (evaluateAdjacency (shutWindow x s))

/-- Access judged at the end of a command (R76, R78, log 8). DESIGN CHOICE (log 43): the candidate that waits in DEFER is chosen
afresh here, also where its backoff has just ended on a busy channel. -/
def judgeAccess (s : State) : State :=
  if s.run ≠ .run || s.link.sending then s
  else if s.link.access = .backoff && backoffStands s then s
  else chooseCandidate s

/-- The end of a backoff: hand-over on an idle channel, DEFER on a busy one (R78). -/
def endBackoff (s : State) : State :=
  match candidateEntry s with
  | some e => if s.busyPin then deferAccess e s else handOver e s
  | none => idleAccess s

/-- The backoff has run out (R78). -/
def backoffDue (s : State) : Bool := s.link.access = .backoff && s.link.backoff = 0

/-- Everything that is re-judged at the end of a command in LISTEN and RUN: posture, access, the posture again for the
hold that a hand-over sets, and the receiver-enable line (R57, R67, R76). -/
def settle (s : State) : State :=
  if s.run = .config then s else judgeReceiver (judgePosture (judgeAccess (judgePosture s)))

/-! ## Completion (R56, R72, R141, R173) -/

/-- A series entry at the completion of a frame of its subject (R72). -/
def advanceSeries (e : QueueEntry) : QueueEntry :=
  match e.mark with
  | .current => { e with remaining := e.remaining - 1, due := false, mark := .noFrame }
  | .superseded => { e with mark := .noFrame }
  | .noFrame => e

/-- The owner of a closed series told: the Claim Register removes a RELEASED own record (R72, R141). -/
def tellOwner (x : QueueSubject) (s : State) : State :=
  match x with
  | .claim kind fin => reporting (releaseClosed kind fin) s
  | _ => s

/-- The series of a completed frame advanced, and closed if its count is spent (R72). A single frame has left the
queue, and a frame whose entry has left finds none (R56). -/
def completeSeries (x : QueueSubject) (s : State) : State :=
  match queueFind s.link.queue x with
  | some e =>
    if e.mark = .noFrame then s
    else if (advanceSeries e).remaining = 0 then tellOwner x (s.setQueue (queueRemove x s.link.queue))
    else s.setQueue (queueModify x advanceSeries s.link.queue)
  | none => s

/-- The handshake returned to READY. -/
def readyAgain (s : State) : State :=
  s.setLink { s.link with sending := false, inFlight := none, completionTimer := 0 }

/-- The frame in flight completes (R56). -/
def completeFrame (s : State) : State :=
  match s.link.inFlight with
  | some f => completeSeries f.subject (readyAgain s)
  | none => readyAgain s

/-- A completion by the timer counted by the fault unit (R173). -/
def countTimeout (s : State) : State :=
  let t := s.setFault { s.fault with timeouts := raise Config.faultTimeouts s.fault.timeouts }
  if t.fault.timeouts = Config.faultTimeouts && !t.fault.xcvrFault then
    judgeImpaired
      (record (t.setFault { t.fault with xcvrFault := true }) .linkImpaired .absent none (.named .xcvrFault))
  else t

/-- A TX_DONE taken by the fault unit (R173). -/
def clearTimeouts (s : State) : State :=
  let t := s.setFault { s.fault with timeouts := 0 }
  if t.fault.xcvrFault then
    judgeImpaired
      (record (t.setFault { t.fault with xcvrFault := false }) .linkRestored .absent none (.named .xcvrFault))
  else t

/-- The completion timer has run out (R56). -/
def completionDue (s : State) : Bool := s.link.sending && Config.linkTimeout ≤ s.link.completionTimer

/-- The frame in flight completed by the timer, if it has run out (R56, R173). DESIGN CHOICE (log 49): the owner of a series that the
completion closes is told before the fault unit counts the completion. -/
def completeIfDue (s : State) : State := if completionDue s then countTimeout (completeFrame s) else s

/-! ## Reception (R58, R59) -/

/-- Reception ended, its latch discarded. -/
def endReception (s : State) : State :=
  s.setLink { s.link with receiving := false, latch := none, receptionTimer := 0 }

/-- The reception timer has run out (R59). -/
def receptionDue (s : State) : Bool := s.link.receiving && Config.linkTimeout ≤ s.link.receptionTimer

/-- The reception given up, if its timer has run out (R59). -/
def endReceptionIfDue (s : State) : State := if receptionDue s then endReception s else s

/-- The end of a backoff, if it has run out (R78). -/
def endBackoffIfDue (s : State) : State := if backoffDue s then endBackoff s else s

/-! ## Counts at a strobe (R56, R59, R78) -/

/-- The completion timer, the reception timer and the backoff counted at a strobe. -/
def countStrobe (l : Link) : Link :=
  { l with
    completionTimer := if l.sending then l.completionTimer + 1 else l.completionTimer
    receptionTimer := if l.receiving then l.receptionTimer + 1 else l.receptionTimer
    backoff := if l.access = .backoff then l.backoff - 1 else l.backoff }

/-- A strobe counted, with whatever it brings to its end (R56, R59, R78, log 3). -/
def strobeTimers (s : State) : State :=
  endBackoffIfDue (endReceptionIfDue (completeIfDue (s.setLink (countStrobe s.link))))

end Sys2Proof.Machine
end

