-- ==== Sys2Proof/Machine/Boundary.lean ====
section
/-! DEFINITION. A cycle boundary and all it brings (R5, R14, R16 and the rules of every chapter that act at a boundary),
taken whole and in one order (logs 3, 6, 9 and 42). -/

namespace Sys2Proof.Machine

/-- The tracker of a state replaced. -/
def State.setTracker (s : State) (k : Tracker) : State := { s with tracker := k }

/-- The engine of a state replaced. -/
def State.setEngine (s : State) (e : Engine) : State := { s with engine := e }

/-- The events of the tracker recorded in order. -/
def recordTracker : List TrackerEvent → State → State
  | [], s => s
  | (kind, φ) :: es, s => recordTracker es (record s kind .absent none (.phase φ))

/-! ## The cycle that ends -/

/-- The tracker as its next boundary falls: the windows that closed before it counted, the epoch counter advanced, the
boundary made the anchor (R5, R8, R14, R16). -/
def trackerFalls (image : Image) (k : Tracker) : Tracker := advanceEpoch image (fall k)

/-- The tracker with the windows that closed before its next boundary counted (R8). -/
def windowsClosed (k : Tracker) : Tracker :=
  match k.next with
  | some b => closeWindows b k
  | none => k

/-- The ended cycle: strobe 31's set settled, the cycle closed, and its validity and voltages handed to the tracker (R9,
R18, R21, R23, R24). -/
def endCycle (s : State) : State :=
  let t := patchStrobe s
  let valid := cycleValid t.sampling
  let v := (magnitudes t.engine.acc).v
  { t with engine := closeCycle valid t.engine, tracker := updateHealth valid v t.tracker }

/-- The miss counters and the evaluations of the boundary (R2, R4, R10 to R13). -/
def evaluateTracker (s : State) : State :=
  let r := evaluateReference s.port.image (countMisses s.tracker)
  recordTracker r.2 (s.setTracker r.1)

/-- The cycle that begins: its state set opened and strobe 0 issued (R17, R19, R25). -/
def beginCycle (s : State) : State :=
  { s with
    engine := { s.engine with cycleModes := openModes s.tracker.mode }
    sampling := openCycle s.tracker s.sampling }

/-! ## What every boundary that begins an own epoch brings -/

/-- The vigilance hold falls (R68). -/
def fallHold (s : State) : State := s.setLink { s.link with hold := s.link.hold - 1 }

/-- The part enters RUN, and the Trip Linkage evaluates (R91, R92, R159). -/
def enterRun (s : State) : State :=
  evaluateTrips { s with run := .run, timeline := { s.timeline with join := .done } }

/-- The LISTEN count has reached 20 in LISTEN (R92). -/
def listenDue (s : State) : Bool := s.run = .listen && Config.listenEpochs ≤ s.timeline.listenCount

/-- The LISTEN count raised at a boundary that ends an epoch in LISTEN (R92). -/
def countListen (s : State) : State :=
  if s.run = .listen then
    let t := s.setTimeline { s.timeline with listenCount := raise Config.listenEpochs s.timeline.listenCount }
    if listenDue t then enterRun t else t
  else s

/-- The ages of peers and claims raised, with all that they bring (R102, R104, R140, R147). -/
def ageTables (s : State) : State := ageRegister (agePeers s)

/-! ## The report window -/

/-- The report window of the epoch entered opens (R66, R72). -/
def openWindow (s : State) : State := seriesDue (s.setLink { s.link with windowOpen := true })

/-! ## The record of the ended epoch (R27, R33, R35) -/

/-- A formed record: into the ring, to the Detector, and in RUN into the transmit queue for the window that opens now
(R33, R35). -/
def takeRecord (r : EpochRecord) (s : State) : State :=
  let t := reporting (handRecord r) (s.setEngine { s.engine with ring := ringInsert r s.engine.ring })
  if t.run = .run then offerReport r t.tracker.epoch t else t

/-- The ended epoch's record formed unless the epoch carries the discard mark, and the new epoch's accumulation begun
(R26, R27, R32). -/
def endAccumulation (ended : EpochNum) (slewed : Bool) (ref : Phase) (mode : TrackerMode) (s : State) : State :=
  let begun := s.setEngine (beginEpoch false s.engine)
  if s.engine.discard then begun
  else takeRecord (formRecord s.port.image.n ended slewed ref mode s.engine) begun

/-- JAMMED would be set by the count of this boundary (R171). -/
def jamComing (s : State) : Bool :=
  !s.fault.jammed && s.fault.busyUnbroken && Config.jamEpochs ≤ s.fault.busyEpochs + 1

/-- JAMMED would change at this boundary (R171). -/
def jamChanging (s : State) : Bool := jamComing s || (s.fault.jammed && !s.busyPin)

/-- SILENT would change with the silence count of this boundary (R175). DESIGN CHOICE (log 6): SILENT cleared because the ageing of
the peers has left no live one is no part of this race; that clearing stands with the ageing, before JAMMED is judged. -/
def silentChanging (s : State) : Bool :=
  silentNow { s.fault with silence := raise Config.silentEpochs s.fault.silence } ≠ s.fault.silent

/-! ## The three kinds of boundary -/

/-- A boundary within an epoch: the report window closes at cycle index W (R66). -/
def boundaryContinues (s : State) : State :=
  if s.link.windowOpen && s.tracker.cycleIndex = s.port.image.w then closeWindow s.tracker.epoch s else s

/-- The record of the ended epoch and the close of its still open window, in one of the two orders (R116, log 7). -/
def recordAndClose (ended : EpochNum) (record : State → State) (s : State) : State :=
  if s.link.windowOpen then eitherOrder true Config.assessmentBeforeRecord (closeWindow ended) record s else record s

/-- The busy line judged and the record taken, in one of the two orders where JAMMED is about to be set (R171, R172,
log 7). -/
def busyAndRecord (record : State → State) (s : State) : State :=
  eitherOrder (jamComing s) Config.jamBeforeReport epochBusy record s

/-- The silence count raised and the rest of the boundary's judgements made, in one of the two orders where JAMMED and SILENT
both change (R171, R175, R176, log 7). -/
def silenceAnd (busy : State → State) (s : State) : State :=
  eitherOrder (jamChanging s && silentChanging s) Config.silentBeforeJam epochSilence busy s

/-- A boundary that ends an epoch (R14, R26, R27, R66, R68, R71, R88, R92, R104, R147, R171, R175). -/
def boundaryEnds (ended : EpochNum) (slewed : Bool) (ref : Phase) (mode : TrackerMode) (s : State) : State :=
  let t := if slewed then s.setTimeline { s.timeline with slewGuard := false } else s
  let t := ageTables (expireAlert (fallHold (countListen t)))
  openWindow (silenceAnd (busyAndRecord (recordAndClose ended (endAccumulation ended slewed ref mode))) t)

/-- The join's jump has been applied: the part enters RUN (R91). -/
def completeJoin (s : State) : State := if s.run = .listen && s.timeline.join = .pending then enterRun s else s

/-- The close of an OPEN window at an applied jump: the adjacency is evaluated, and no assessment made (R66, R111, R117).
DEDUCED (log 33): R111 evaluates at each close, and R117 takes only the assessment from this one. -/
def leaveWindow (s : State) : State :=
  if s.link.windowOpen then evaluateAdjacency (s.setLink { s.link with windowOpen := false }) else s

/-- The report window at an applied jump: closed, and opened again if the target index is below W (R66). -/
def jumpWindow (target : JumpTarget) (s : State) : State :=
  if target.cycle < s.port.image.w then openWindow (leaveWindow s) else leaveWindow s

/-- The transmit queue at an applied jump: the REPORT missed, the ALERT bound anew (R70, R71). -/
def jumpQueue (target : JumpTarget) (s : State) : State := rebindAlert target.epoch (missReport (fun _ => true) s)

/-- A boundary at which a jump is applied (R16, R32, R52, R66, R68, R70, R71, R86, R91, R104, R117, R147, R171, R175). DESIGN CHOICE
(log 42): the order of the blocks and of their events, where the rules name none. -/
def boundaryJumps (target : JumpTarget) (s : State) : State :=
  let t := s.setEngine (engineJump target.cycle s.engine)
  let t := jumpWindow target (jumpQueue target t)
  let t := returnToBlind (timelineJump target t)
  let t := reporting judgeAgreement (t.setAssessor (assessorJump t.assessor))
  let t := completeJoin t
  silenceAnd epochBusy (ageTables (fallHold t))

/-- Whether a boundary begins an own epoch. -/
def BoundaryKind.begins : BoundaryKind → Bool
  | .continues => false
  | .epochEnds _ _ => true
  | .jumps _ => true

/-- The timers of the Trip Linkage at a boundary, raised before anything at the boundary can start one (R161, R163,
R165). DESIGN CHOICE (log 41): backup expiries by index, then TRIP0's confirm failure, then TRIP1's. -/
def linkageTimers (kind : BoundaryKind) (s : State) : State :=
  let t := raiseConfirms s
  let t := if kind.begins then expireBackups 0 t.port.image.entries (raiseTimers t) else t
  failIfDue .trip1 (failIfDue .trip0 t)

/-- Everything a cycle boundary brings, but for the last re-judging (R5, log 6). DESIGN CHOICE (log 9): JAMMED and SILENT, which the
boundary's epoch judges, change before an XCVR_FAULT that a completion at its strobe 0 sets; R176 lets either be taken first. -/
def boundaryBody (s : State) : State :=
  let s := advanceToSome s s.tracker.next
  let before := windowsClosed s.tracker
  let kind := boundaryKind before
  let t := endCycle (s.setTracker (trackerFalls s.port.image before))
  let t := evaluateTracker (linkageTimers kind t)
  let t := match kind with
    | .continues => boundaryContinues t
    | .epochEnds ended slewed => boundaryEnds ended slewed before.ref before.mode t
    | .jumps target => boundaryJumps target t
  strobeTimers (abandonBackoff (judgePosture (beginCycle t)))

/-- The strobe that falls with the tick `next`, or any strobe of a cycle, is due at the boundary plus k intervals (R17). -/
def strobeDue (s : State) : Option Tick :=
  match s.tracker.anchor, s.sampling.strobe with
  | some anchor, some k => if k + 1 < Config.strobes then some (tickAdd anchor ((k + 1) * s.sampling.interval : Nat)) else none
  | _, _ => none

/-- A strobe after the first of its cycle: the strobe before it patched if it has no set, the new one issued, and the
counts of a strobe made (R17, R18). -/
def nextStrobe (s : State) : State :=
  match s.sampling.strobe with
  | some k =>
    if k + 1 < Config.strobes then
      let t := patchStrobe (advanceToSome s (strobeDue s))
      strobeTimers { t with sampling := issueStrobe (k + 1) t.sampling }
    else s
  | none => s

end Sys2Proof.Machine
end

