-- ==== Sys2Proof/Machine/Receive.lean ====
section
/-! DEFINITION. Delivered frames (R58, R59, R64, R65): the latch, the filter, and the blocks that take a valid frame of
each kind. -/

namespace Sys2Proof.Machine

/-- The latch a delivered frame is taken with: that of its reception, or the own timeline at the delivery (R58, R59). -/
def deliveryLatch (s : State) : Stamp :=
  if s.link.receiving then s.link.latch.getD (ownStamp s) else ownStamp s

/-- A drop counted (R64). -/
def countDrop (cause : DropCause) (s : State) : State :=
  s.setLink { s.link with drops := s.link.drops.count cause }

/-- A delivered frame: the reception ends, a frame that fails a check is dropped and counted, and a valid frame of the
expected kind is acted on with its latch. A valid frame of another kind is none of this row's, and leaves the state as
it stands (log 17). -/
def deliver (kind : Nat) (act : Header → Payload → Stamp → State → State) (frame : List Byte) (s : State) : State :=
  match receiveFilter s.port.image frame with
  | .dropped cause => countDrop cause (endReception s)
  | .valid f => if f.payload.kind = kind then act f.header f.payload (deliveryLatch s) (endReception s) else s

/-- A REPORT taken: fault unit, Peer Table, Timeline Unit (R65, R175). -/
def takeReport (h : Header) (p : Payload) (latch : Stamp) (s : State) : State :=
  match p with
  | .report r => timelineReport h latch (tableReport h r (frameHeard s))
  | _ => s

/-- An ALERT taken: fault unit, vigilance hold, Peer Table (R65, R68, R107, R113). -/
def takeAlert (h : Header) (p : Payload) (_latch : Stamp) (s : State) : State :=
  match p with
  | .alert c => tableAlert h c (setHold (frameHeard s))
  | _ => s

/-- A CLAIM taken: fault unit, vigilance hold, Peer Table, Claim Register (R65, R68, R144). -/
def takeClaimFrame (h : Header) (p : Payload) (_latch : Stamp) (s : State) : State :=
  match p with
  | .claim c refresh => reporting (takeClaim h c refresh) (tableOther h (setHold (frameHeard s)))
  | _ => s

/-- A RELEASE taken: fault unit, vigilance hold, Peer Table, Claim Register (R65, R68, R146). -/
def takeReleaseFrame (h : Header) (p : Payload) (_latch : Stamp) (s : State) : State :=
  match p with
  | .release c _ => reporting (takeRelease h c) (tableOther h (setHold (frameHeard s)))
  | _ => s

/-- A TRIPPED taken by the Detector: a SUCCESS from upstream de-energizes (R50). -/
def detectorTripped (h : Header) (c : TrippedContent) (s : State) : State :=
  if c.result = .success && h.position < s.port.image.position then
    reporting (enterDeenergized h.sender h.position) s
  else s

/-- The Detector, the Claim Register and the Trip Linkage take a TRIPPED in one of the six orders (R149, R162, log 7). -/
def trippedBlocks (order : Nat) (h : Header) (c : TrippedContent) (s : State) : State :=
  let d := detectorTripped h c
  let r := reporting (coverZone c)
  let l := linkageTripped h.sender c
  match order % 6 with
  | 0 => l (r (d s))
  | 1 => r (l (d s))
  | 2 => l (d (r s))
  | 3 => d (l (r s))
  | 4 => r (d (l s))
  | _ => d (r (l s))

/-- A TRIPPED taken: fault unit, vigilance hold, Peer Table, then the other three blocks (R65, R68, R167). -/
def takeTripped (h : Header) (p : Payload) (_latch : Stamp) (s : State) : State :=
  match p with
  | .tripped c =>
    let n := nextChoice (tableOther h (setHold (frameHeard s)))
    trippedBlocks (Config.trippedOrder n.1) h c n.2
  | _ => s

/-- A frame that fails a check: dropped, counted, and nothing else (R64). -/
def takeNone (_h : Header) (_p : Payload) (_latch : Stamp) (s : State) : State := s

end Sys2Proof.Machine
end

