-- ==== Sys2Proof/Machine/Port.lean ====
section
/-! DEFINITION. The station port (Chapter 11): transactions, replies, the commands' effects, START's validation, and the
resets of the whole part. -/

namespace Sys2Proof.Machine

/-- The port of a state replaced. -/
def State.setPort (s : State) (p : Port) : State := { s with port := p }

/-! ## Transactions (R178, R179) -/

/-- The reply of status BUSY alone (R179). -/
def busyReply : Reply := ⟨.busy, .nothing⟩

/-- What the transaction that ends now has shifted out: BUSY while START validates, else the reply buffer (R178,
R179). -/
def shiftedNow (p : Port) : Reply := if p.busy then busyReply else p.reply

/-- A transaction whose command is taken: the buffer's reply has been shifted out, the command acts, and its reply is
made. In BUSY the command is not taken, and while the reset pin is held the transaction is ignored (R178, R179, R185). DESIGN
CHOICE (log 47): a transaction is judged whole at its end. -/
def transact (act : State → Reply × State) (s : State) : State :=
  if s.resetHeld then s
  else
    let t := s.setPort { s.port with shifted := some (shiftedNow s.port) }
    if t.port.busy then t
    else
      let r := act t
      r.2.setPort { r.2.port with reply := r.1 }

/-- A reply made with no other effect. -/
def readOnly (reply : State → Reply) (s : State) : Reply × State := (reply s, s)

/-! ## Read commands (R180) -/

/-- The Timeline Unit's items (R94). -/
def timelineStatus (t : Timeline) : TimelineStatus where
  source := t.source
  sourceError := t.sourceError
  jumpTarget := t.jumpPending.map PendingJump.target
  join := t.join
  listenCount := t.listenCount
  slewGuard := t.slewGuard
  deferred := t.deferred

/-- A trip record's items (R169). -/
def tripStatus (r : TripRecord) : TripStatus where
  state := r.state
  entry := r.entry
  timer := r.timer
  zone := r.zone
  span := r.span

/-- A backup timer's items (R169). -/
def timerStatus : BackupTimer → TimerStatus
  | .off => .off
  | .running count c => .running count c.key c.partner
  | .expired c => .expired c.key c.partner

/-- The marks and timers of the image's linkage entries (R169). -/
def entryStatuses (s : State) : List EntryStatus :=
  (s.linkage.entries.take s.port.image.entries.length).map (fun e => ⟨e.spent, e.wouldTrip, timerStatus e.timer⟩)

/-- The fault unit's items (R177). -/
def faultStatus (f : FaultUnit) : FaultStatus where
  impaired := f.impaired
  jammed := f.jammed
  xcvrFault := f.xcvrFault
  silent := f.silent
  busyEpochs := f.busyEpochs
  timeouts := f.timeouts
  silence := f.silence

/-- The status groups (R94, R114, R169, R177, R180). -/
def statusGroups (s : State) : StatusReply where
  run := s.run
  busy := s.port.busy
  eventCount := s.port.events.length
  assessment := s.detector.assessment
  vigilant := s.link.vigilant
  mode := s.tracker.mode
  ref := s.tracker.ref
  stalled := s.sampling.stalled
  timeline := timelineStatus s.timeline
  drops := s.link.drops
  reportsMissed := s.link.reportsMissed
  alertsExpired := s.link.alertsExpired
  refusals := s.peers.refusals
  trip0 := tripStatus s.linkage.trip0
  trip1 := tripStatus s.linkage.trip1
  entries := entryStatuses s
  trips := s.linkage.trips
  pen := s.linkage.pen
  open0 := s.linkage.open0
  open1 := s.linkage.open1
  fault := faultStatus s.fault

/-- The reply of GET_STATUS (R180). -/
def statusReply (s : State) : Reply := ⟨.ok, .status (statusGroups s)⟩

/-- The reply of GET_RECORD k (R180). -/
def recordReply (k : Byte) (s : State) : Reply :=
  if 15 < k.toNat then ⟨.badIndex, .nothing⟩
  else
    match s.engine.ring[k.toNat]? with
    | some r => ⟨.ok, .record r⟩
    | none => ⟨.empty, .nothing⟩

/-- The entry of a slot is an adjacent peer (R114). -/
def isAdjacent (t : PeerTable) (k : Nat) : Bool := t.adjacentUp = some k || t.adjacentDown = some k

/-- The reply of GET_PEER k (R114). -/
def peerReply (k : Byte) (s : State) : Reply :=
  if 15 < k.toNat then ⟨.badIndex, .nothing⟩
  else
    let e := peerAt s k.toNat
    if e.state = .free then ⟨.ok, .freePeer⟩ else ⟨.ok, .peer e (isAdjacent s.peers k.toNat)⟩

/-- The reply of GET_CLAIMS (R154). -/
def claimsReply (s : State) : Reply := ⟨.ok, .claims s.register.records s.register.pairs⟩

/-- The id of the adjacent peer of a side. -/
def adjacentId (s : State) (side : Side) : Option Nat := (s.peers.adjacent side).map (fun k => (peerAt s k).id)

/-- The reply of GET_MAP (R136). -/
def mapReply (s : State) : Reply := ⟨.ok, .map ⟨s.assessor, adjacentId s .up, adjacentId s .down⟩⟩

/-! ## Commands that act (R181, R182, R187) -/

/-- POP_EVENT: the oldest record removed and returned, or EMPTY (R187). -/
def popEvent (s : State) : Reply × State :=
  match s.port.events with
  | [] => (⟨.empty, .nothing⟩, s)
  | e :: es => (⟨.ok, .event e⟩, s.setPort { s.port with events := es, attention := !es.isEmpty })

/-- LOAD_CONFIG: the image replaced in CONFIG, its changed items named (R181). -/
def loadConfig (image : RawImage) (s : State) : Reply × State :=
  if s.run = .config then
    (⟨.ok, .clamped (changedItems image)⟩, s.setPort { s.port with image := storeImage image })
  else (⟨.badState, .nothing⟩, s)

/-- START: in CONFIG the command state becomes BUSY and validation begins (R182). -/
def startValidation (s : State) : Reply × State :=
  if s.run = .config then
    (busyReply, s.setPort { s.port with busy := true, validationStart := s.timebase })
  else (⟨.badState, .nothing⟩, s)

/-- The START instant: each block takes up its state from the locked image, strobe 0 is issued, the report window opens
(R17, R20, R36, R54, R155, R182). -/
def startInstant (s : State) : State :=
  let k := startTracker s.port.image s.timebase
  { s with
    run := .listen
    tracker := k
    sampling := openCycle k Init.sampling
    engine := { beginEpoch false Init.engine with cycleModes := openModes .seeking }
    link := { Init.link with lfsr := BitVec.ofNat 16 s.port.image.stationId, windowOpen := true }
    linkage := { s.linkage with pen := s.penPin, open0 := s.openPin0, open1 := s.openPin1 }
    port := { s.port with busy := false, reply := ⟨.ok, .runState .listen⟩ } }

/-- The end of START's validation: the first failed check, or the START instant (R182). -/
def endValidation (s : State) : State :=
  if s.port.busy && s.run = .config then
    match failedCheck s.port.image with
    | some (code, entry) =>
      s.setPort { s.port with busy := false, reply := ⟨.configInvalid, .check code entry⟩ }
    | none => settle (startInstant s)
  else s

/-! ## Resets (R184, R185) -/

/-- Every block in its reset state around an image, with the levels the inputs present; the timebase, the reset pin and
the model's own fields stand (R20, R36, R37, R54, R80, R95, R115, R138, R155, R170, R184). -/
def resetBlocks (image : Image) (s : State) : State :=
  { s with
    run := .config
    tracker := Init.tracker image
    sampling := Init.sampling
    engine := Init.engine
    detector := Init.detector
    link := Init.link
    timeline := Init.timeline
    peers := Init.peers
    assessor := Init.assessor
    register := Init.register
    linkage := Init.linkage s.penPin s.openPin0 s.openPin1
    fault := Init.fault
    port := Init.port image }

/-- A retained reset: the image kept as it stands (R185). -/
def retainedReset (s : State) : State := resetBlocks s.port.image s

/-- A power-on reset: the image cleared, and the timebase at 0 (R184, log 4). -/
def powerOnReset (s : State) : State := resetBlocks Init.clearedImage { s with timebase := 0 }

/-- The RESET command, taken in both command states (R179, R185). -/
def commandReset (s : State) : State :=
  if s.resetHeld then s
  else
    let t := retainedReset s
    t.setPort { t.port with shifted := some (shiftedNow s.port) }

end Sys2Proof.Machine
end

