-- ==== Sys2Proof/Machine/Resets.lean ====
section
/-! DEFINITION. The meanings of the four resets (R184, R185). -/

namespace Sys2Proof.Machine

/-- The outcome of every command: a next state. -/
abbrev Outcome := Host.Outcome State Fault Refusal

/-- POWER_ON_RESET (R184). DESIGN CHOICE (log 19): a reset pin held through it goes on holding the part. -/
def execPowerOnReset (s : State) : Outcome := .next (powerOnReset s)

/-- RESET_PIN, the deassertion of the reset pin: a retained reset, with the input levels of this instant (R155, R185). -/
def execResetPin (s : State) : Outcome := .next (retainedReset { s with resetHeld := false })

/-- RESET_PIN_ASSERTED: every block reset, and the part held (R185, log 23). -/
def execResetPinAsserted (s : State) : Outcome := .next (retainedReset { s with resetHeld := true })

/-- RESET, the command (R179, R185). -/
def execReset (s : State) : Outcome := .next (commandReset s)

end Sys2Proof.Machine
end

