-- ==== Sys2Proof/Machine/PortCommands.lean ====
section
/-! DEFINITION. The meanings of the station port's commands but RESET (R178 to R182, R187). -/

namespace Sys2Proof.Machine

/-- GET_STATUS (R180). -/
def execGetStatus (s : State) : Outcome := .next (transact (readOnly statusReply) s)

/-- POP_EVENT (R187). -/
def execPopEvent (s : State) : Outcome := .next (transact popEvent s)

/-- LOAD_CONFIG (R181). -/
def execLoadConfig (image : RawImage) (s : State) : Outcome := .next (transact (loadConfig image) s)

/-- START (R182). -/
def execStart (s : State) : Outcome := .next (transact startValidation s)

/-- START_VALIDATION_END (R182). -/
def execStartValidationEnd (s : State) : Outcome := .next (if s.resetHeld then s else endValidation s)

/-- GET_RECORD k (R180). -/
def execGetRecord (k : Byte) (s : State) : Outcome := .next (transact (readOnly (recordReply k)) s)

/-- GET_PEER k (R114). -/
def execGetPeer (k : Byte) (s : State) : Outcome := .next (transact (readOnly (peerReply k)) s)

/-- GET_CLAIMS (R154). -/
def execGetClaims (s : State) : Outcome := .next (transact (readOnly claimsReply) s)

/-- GET_MAP (R136). -/
def execGetMap (s : State) : Outcome := .next (transact (readOnly mapReply) s)

/-- BAD_COMMAND: a transaction whose bytes form no command takes nothing but sets the reply (R178). -/
def execBadCommand (s : State) : Outcome := .next (transact (readOnly (fun _ => ⟨.badCommand, .nothing⟩)) s)

end Sys2Proof.Machine
end

