-- ==== Sys2Proof/Machine/TrackerEvents.lean ====
section
/-! DEFINITION. The meanings of the Cycle Tracker's and the sample port's events (Chapter 1). -/

namespace Sys2Proof.Machine

/-- The part is in LISTEN or RUN and not held in reset: its blocks run (R183, R185). -/
def State.working (s : State) : Bool := !s.resetHeld && s.run ≠ .config

/-- An event of a working part, followed by the re-judging that ends every command; in CONFIG, and while the reset pin is
held, it is ignored (R183, R185). -/
def whileWorking (f : State → State) (s : State) : State := if s.working then settle (f s) else s

/-- The edge taken by the tracker, the state it is in joining the cycle's state set (R1, R25). -/
def takeEdge (φ : Phase) (at_ : Tick) (s : State) : State :=
  let t := advanceTo s at_
  let r := edge t.port.image φ at_ t.tracker
  recordTracker r.2
    { t with tracker := r.1, engine := { t.engine with cycleModes := addMode r.1.mode t.engine.cycleModes } }

/-- CROSSING_EDGE (R1). -/
def execCrossingEdge (φ : Phase) (at_ : Tick) (s : State) : Outcome := .next (whileWorking (takeEdge φ at_) s)

/-- The acceptance window whose end comes next passes without its crossing (R8). -/
def missReference (s : State) : State :=
  match windowPassing s.tracker with
  | some t =>
    let u := advanceTo s t
    u.setTracker (closeWindows t u.tracker)
  | none => s

/-- REFERENCE_MISS (R8). -/
def execReferenceMiss (s : State) : Outcome := .next (whileWorking missReference s)

/-- CYCLE_BOUNDARY (R5). -/
def execCycleBoundary (s : State) : Outcome := .next (whileWorking boundaryBody s)

/-- SAMPLE_STROBE (R17). -/
def execSampleStrobe (s : State) : Outcome := .next (whileWorking nextStrobe s)

/-- The missing run has reached 32 and the port is not yet in STALL (R19). -/
def stallDue (p : Sampling) : Bool := Config.stallRun ≤ p.missingRun && !p.stalled

/-- SAMPLE_STALL (R19). -/
def execSampleStall (s : State) : Outcome :=
  .next (whileWorking (fun s => if stallDue s.sampling then enterStall s else s) s)

/-- SAMPLE_SET_ARRIVAL (R18). -/
def execSampleSetArrival (set : SampleSet) (s : State) : Outcome := .next (whileWorking (takeSampleSet set) s)

end Sys2Proof.Machine
end

