-- ==== Sys2Proof/Machine/DetectorEvents.lean ====
section
/-! DEFINITION. The meanings of the ends that the Detector's and the Timeline Unit's counts come to (Chapters 3 and 5).
Each is also reached inside the boundary that brings it about; here it acts where its condition stands (log 3). -/

namespace Sys2Proof.Machine

/-- LISTEN_TIMEOUT (R92). -/
def execListenTimeout (s : State) : Outcome :=
  .next (whileWorking (fun s => if listenDue s then enterRun s else s) s)

/-- DISTURBANCE_CLOSE (R46). -/
def execDisturbanceClose (s : State) : Outcome := .next (whileWorking (reporting testClose) s)

/-- DISTURBANCE_TIMEOUT (R48). -/
def execDisturbanceTimeout (s : State) : Outcome :=
  .next (whileWorking (reporting (fun s => if forceDue s then forceClose s else s)) s)

/-- BLIND_EXIT (R41). -/
def execBlindExit (s : State) : Outcome :=
  .next (whileWorking (reporting (fun s => if blindExitDue s then leaveBlind s else s)) s)

/-- DEENERGIZED_RESTORED (R51). -/
def execDeenergizedRestored (s : State) : Outcome :=
  .next (whileWorking (reporting (fun s => if restoreDue s then restoreLine s else s)) s)

end Sys2Proof.Machine
end

