-- ==== Sys2Proof/Machine/LinkEvents.lean ====
section
/-! DEFINITION. The meanings of the Span Link Controller's events (Chapter 4). -/

namespace Sys2Proof.Machine

/-- ALERT_EXPIRED (R71). -/
def execAlertExpired (s : State) : Outcome := .next (whileWorking expireAlert s)

/-- VIGILANCE_HOLD_EXPIRED: with the hold at 0 the posture is re-judged (R68). -/
def execVigilanceHoldExpired (s : State) : Outcome :=
  .next (whileWorking (fun s => if s.link.hold = 0 then judgePosture s else s) s)

/-- A TX_DONE taken: the frame in flight completes, if there is one, and the timeout count returns to 0 (R56, R173). DESIGN CHOICE
(log 49): the owner of a series that the completion closes is told first, and the fault unit takes the TX_DONE after it. -/
def takeTxDone (s : State) : State := clearTimeouts (if s.link.sending then completeFrame s else s)

/-- TX_DONE (R56). -/
def execTxDone (s : State) : Outcome := .next (whileWorking takeTxDone s)

/-- TX_COMPLETION_TIMEOUT (R56). -/
def execTxCompletionTimeout (s : State) : Outcome := .next (whileWorking completeIfDue s)

/-- BACKOFF_END (R78). -/
def execBackoffEnd (s : State) : Outcome := .next (whileWorking endBackoffIfDue s)

/-- The channel-busy line watched: a deassertion clears the busy unbroken mark (R171). -/
def watchBusy (level : Bool) (s : State) : State :=
  if level then s else s.setFault { s.fault with busyUnbroken := false }

/-- CHANNEL_BUSY_CHANGE: the level is the input's at all times, and is watched in LISTEN and RUN (R54, R76, R171). -/
def execChannelBusyChange (level : Bool) (s : State) : Outcome :=
  .next (whileWorking (watchBusy level) { s with busyPin := level })

/-- An RX_START taken with the receiver-enable line asserted latches the own timeline (R58). -/
def takeRxStart (s : State) : State :=
  if s.link.receiverEnable then
    s.setLink { s.link with receiving := true, latch := some (ownStamp s), receptionTimer := 0 }
  else s

/-- RX_START (R58). -/
def execRxStart (s : State) : Outcome := .next (whileWorking takeRxStart s)

/-- RECEPTION_TIMEOUT (R59). -/
def execReceptionTimeout (s : State) : Outcome := .next (whileWorking endReceptionIfDue s)

/-- REPORT_RECEIVED (R65). -/
def execReportReceived (frame : List Byte) (s : State) : Outcome :=
  .next (whileWorking (deliver 1 takeReport frame) s)

/-- ALERT_RECEIVED (R107). -/
def execAlertReceived (frame : List Byte) (s : State) : Outcome :=
  .next (whileWorking (deliver 2 takeAlert frame) s)

/-- CLAIM_RECEIVED (R144). -/
def execClaimReceived (frame : List Byte) (s : State) : Outcome :=
  .next (whileWorking (deliver 3 takeClaimFrame frame) s)

/-- RELEASE_RECEIVED (R146). -/
def execReleaseReceived (frame : List Byte) (s : State) : Outcome :=
  .next (whileWorking (deliver 4 takeReleaseFrame frame) s)

/-- TRIPPED_RECEIVED (R167). -/
def execTrippedReceived (frame : List Byte) (s : State) : Outcome :=
  .next (whileWorking (deliver 5 takeTripped frame) s)

/-- RECEIVED_FRAME_DROPPED (R64): no valid frame is this row's. -/
def execReceivedFrameDropped (frame : List Byte) (s : State) : Outcome :=
  .next (whileWorking (deliver 0 takeNone frame) s)

end Sys2Proof.Machine
end

