-- ==== Sys2Proof/Machine/PeerEvents.lean ====
section
/-! DEFINITION. The meanings of the Peer Table's and the fault unit's ends of counts (Chapters 6 and 10), each acting
where its condition stands (log 3). -/

namespace Sys2Proof.Machine

/-- PROBATION_WINDOW_PASSED (R102). -/
def execProbationWindowPassed (slot : Fin 16) (s : State) : Outcome :=
  .next (whileWorking (modifyPeer slot closeProbation) s)

/-- PEER_STALE (R104). -/
def execPeerStale (slot : Fin 16) (s : State) : Outcome :=
  .next (whileWorking (fun s =>
    if staleDue (peerAt s slot) then tableChanged (modifyPeer slot (fun e => { e with state := .stale }) s) else s) s)

/-- PEER_LOST (R104). -/
def execPeerLost (slot : Fin 16) (s : State) : Outcome :=
  .next (whileWorking (fun s => if lostDue (peerAt s slot) then tableChanged (loseSlot slot s) else s) s)

/-- PEER_FREED (R104). -/
def execPeerFreed (slot : Fin 16) (s : State) : Outcome :=
  .next (whileWorking (fun s => if freeDue (peerAt s slot) then tableChanged (freeSlot slot s) else s) s)

/-- JAMMED_SET (R171). -/
def execJammedSet (s : State) : Outcome := .next (whileWorking (fun s => if jamDue s then setJammed s else s) s)

/-- SILENT_SET (R175). -/
def execSilentSet (s : State) : Outcome := .next (whileWorking judgeSilent s)

end Sys2Proof.Machine
end

