-- ==== Sys2Proof/Machine/ClaimEvents.lean ====
section
/-! DEFINITION. The meanings of the Claim Register's ends of counts (Chapter 8), each acting where its condition stands
(log 3). -/

namespace Sys2Proof.Machine

/-- The own record of a key refreshed, if its refresh age has come (R140). -/
def refreshIfDue (key : ClaimKey) (s : State) : State :=
  match findRecord s.register.records key with
  | some r => if refreshDue r then refreshSeries s.tracker.epoch r s else s
  | none => s

/-- CLAIM_REFRESH (R140). -/
def execClaimRefresh (kind : ClaimKind) (fin : SpanEnd) (s : State) : Outcome :=
  .next (whileWorking (reporting (refreshIfDue (ownKey s kind fin))) s)

/-- CLAIM_EXPIRED (R147). -/
def execClaimExpired (key : ClaimKey) (s : State) : Outcome :=
  .next (whileWorking (reporting (expireClaim key)) s)

end Sys2Proof.Machine
end

