-- ==== Sys2Proof/Machine/TripEvents.lean ====
section
/-! DEFINITION. The meanings of the Trip Linkage's events (Chapter 9). -/

namespace Sys2Proof.Machine

/-- A delay of an entry has ended: a single record has reached the age the entry asks (R157). -/
def delayEnded (s : State) (k : Nat) : Bool :=
  match s.port.image.entries[k]? with
  | some e =>
    !(runtime s.linkage k).spent && requirementInForce e s.fault.impaired = some .delayed &&
      s.register.records.any (fun r => r.standing && inScope e s.linkage.trips (singleCandidate r) &&
        e.delay ≤ r.standingAge)
  | none => false

/-- DELAY_END: the Linkage evaluates (R157, R159). -/
def execDelayEnd (entry : Fin 8) (s : State) : Outcome :=
  .next (whileWorking (fun s => if delayEnded s entry then evaluateTrips s else s) s)

/-- BACKUP_TRIP (R161). -/
def execBackupTrip (entry : Fin 8) (s : State) : Outcome :=
  .next (whileWorking (fun s =>
    match s.port.image.entries[entry.val]? with
    | some e => expireBackup entry e s
    | none => s) s)

/-- The level of PEN held by the Linkage (R155). -/
def holdPen (level : Bool) (s : State) : State :=
  { s with penPin := level, linkage := { s.linkage with pen := level } }

/-- A change of PEN: the level is held, and in RUN a change brings an evaluation (R155, R159). -/
def takePen (level : Bool) (s : State) : State :=
  if s.linkage.pen = level then holdPen level s else evaluateTrips (holdPen level s)

/-- PEN_CHANGE: while the reset pin is held only the input's level is followed (R155, R159, R185). -/
def execPenChange (level : Bool) (s : State) : Outcome :=
  .next (if s.resetHeld then { s with penPin := level } else settle (takePen level s))

/-- The level of an open-confirm input, as the input itself has it. -/
def setOpenPin (o : Output) (level : Bool) (s : State) : State :=
  match o with
  | .trip0 => { s with openPin0 := level }
  | .trip1 => { s with openPin1 := level }

/-- The level of an open-confirm input held by the Linkage (R155). -/
def holdOpen (o : Output) (level : Bool) (s : State) : State :=
  match o with
  | .trip0 => { s with linkage := { s.linkage with open0 := level } }
  | .trip1 => { s with linkage := { s.linkage with open1 := level } }

/-- An open-confirm level taken: in RUN an assertion confirms an ASSERTED record (R164). -/
def takeOpen (o : Output) (level : Bool) (s : State) : State :=
  let t := holdOpen o level s
  if level && t.run = .run && (t.linkage.trip o).state = .asserted then confirmTrip evaluateTrips o t else t

/-- OPEN_CONFIRM_CHANGE: while the reset pin is held only the input's level is followed (R155, R164, R185). -/
def execOpenConfirmChange (o : Output) (level : Bool) (s : State) : Outcome :=
  .next (if s.resetHeld then setOpenPin o level s else settle (takeOpen o level (setOpenPin o level s)))

/-- TRIP_FAILED (R165). -/
def execTripFailed (o : Output) (s : State) : Outcome := .next (whileWorking (failIfDue o) s)

end Sys2Proof.Machine
end

