-- ==== Sys2Proof/Machine/Tick.lean ====
section
/-! DEFINITION. What the part does of itself when no command waits: a tick passes, or a command of the part's own clock
falls due and joins the queue (DESIGN CHOICE, log 2). -/

namespace Sys2Proof.Machine

/-- The timebase has reached an instant that exists. -/
def reached (s : State) (t : Option Tick) : Bool :=
  match t with
  | some t => 0 ≤ tickDiff s.timebase t
  | none => false

/-- The next strobe of the cycle falls before the next boundary (R17). -/
def strobeFirst (s : State) : Bool :=
  match strobeDue s, s.tracker.next with
  | some a, some b => tickDiff a b < 0
  | some _, none => true
  | none, _ => false

/-- The time-driven command that has fallen due: the end of START's validation after 64 ticks, the passing of an
acceptance window, a strobe, or the boundary (R5, R8, R17, R182). -/
def dueCommand (s : State) : Option Instr :=
  if s.resetHeld then none
  else if s.port.busy then
    if Config.validationTicks ≤ tickDiff s.timebase s.port.validationStart then some .startValidationEnd else none
  else if s.run = .config then none
  else if reached s (windowPassing s.tracker) then some .referenceMiss
  else if strobeFirst s && reached s (strobeDue s) then some .sampleStrobe
  else if reached s s.tracker.next then some .cycleBoundary
  else none

/-- One step with no command waiting (log 2). -/
def idle (s : State) : State :=
  match dueCommand s with
  | some c => { s with pending := [c] }
  | none => { s with timebase := s.timebase + 1 }

/-- The command a word spells, put at the front of the queue: the table gives no row any bits, so none does. -/
def placeWord (c : Option Instr) (s : State) : State :=
  match c with
  | some c => { s with pending := c :: s.pending }
  | none => s

end Sys2Proof.Machine
end

