-- ==== Sys2Proof/Machine/Dispatch.lean ====
section
/-! DEFINITION. The meaning of every command: one arm for each row of the table. -/

namespace Sys2Proof.Machine

/-- The effect of a command on everything but the queue of commands. -/
def exec (i : Instr) (s : State) : Host.Outcome State Fault Refusal :=
  match i with
  | .powerOnReset => Sys2Proof.Machine.execPowerOnReset s
  | .resetPin => Sys2Proof.Machine.execResetPin s
  | .getStatus => Sys2Proof.Machine.execGetStatus s
  | .popEvent => Sys2Proof.Machine.execPopEvent s
  | .loadConfig image => Sys2Proof.Machine.execLoadConfig image s
  | .start => Sys2Proof.Machine.execStart s
  | .startValidationEnd => Sys2Proof.Machine.execStartValidationEnd s
  | .getRecord k => Sys2Proof.Machine.execGetRecord k s
  | .getPeer k => Sys2Proof.Machine.execGetPeer k s
  | .getClaims => Sys2Proof.Machine.execGetClaims s
  | .getMap => Sys2Proof.Machine.execGetMap s
  | .reset => Sys2Proof.Machine.execReset s
  | .badCommand => Sys2Proof.Machine.execBadCommand s
  | .crossingEdge phase at_ => Sys2Proof.Machine.execCrossingEdge phase at_ s
  | .referenceMiss => Sys2Proof.Machine.execReferenceMiss s
  | .cycleBoundary => Sys2Proof.Machine.execCycleBoundary s
  | .listenTimeout => Sys2Proof.Machine.execListenTimeout s
  | .disturbanceClose => Sys2Proof.Machine.execDisturbanceClose s
  | .disturbanceTimeout => Sys2Proof.Machine.execDisturbanceTimeout s
  | .blindExit => Sys2Proof.Machine.execBlindExit s
  | .deenergizedRestored => Sys2Proof.Machine.execDeenergizedRestored s
  | .alertExpired => Sys2Proof.Machine.execAlertExpired s
  | .vigilanceHoldExpired => Sys2Proof.Machine.execVigilanceHoldExpired s
  | .probationWindowPassed slot => Sys2Proof.Machine.execProbationWindowPassed slot s
  | .peerStale slot => Sys2Proof.Machine.execPeerStale slot s
  | .peerLost slot => Sys2Proof.Machine.execPeerLost slot s
  | .peerFreed slot => Sys2Proof.Machine.execPeerFreed slot s
  | .claimRefresh kind fin => Sys2Proof.Machine.execClaimRefresh kind fin s
  | .claimExpired key => Sys2Proof.Machine.execClaimExpired key s
  | .delayEnd entry => Sys2Proof.Machine.execDelayEnd entry s
  | .backupTrip entry => Sys2Proof.Machine.execBackupTrip entry s
  | .jammedSet => Sys2Proof.Machine.execJammedSet s
  | .silentSet => Sys2Proof.Machine.execSilentSet s
  | .sampleStrobe => Sys2Proof.Machine.execSampleStrobe s
  | .sampleStall => Sys2Proof.Machine.execSampleStall s
  | .sampleSetArrival set => Sys2Proof.Machine.execSampleSetArrival set s
  | .txDone => Sys2Proof.Machine.execTxDone s
  | .txCompletionTimeout => Sys2Proof.Machine.execTxCompletionTimeout s
  | .backoffEnd => Sys2Proof.Machine.execBackoffEnd s
  | .channelBusyChange level => Sys2Proof.Machine.execChannelBusyChange level s
  | .rxStart => Sys2Proof.Machine.execRxStart s
  | .receptionTimeout => Sys2Proof.Machine.execReceptionTimeout s
  | .reportReceived frame => Sys2Proof.Machine.execReportReceived frame s
  | .alertReceived frame => Sys2Proof.Machine.execAlertReceived frame s
  | .claimReceived frame => Sys2Proof.Machine.execClaimReceived frame s
  | .releaseReceived frame => Sys2Proof.Machine.execReleaseReceived frame s
  | .trippedReceived frame => Sys2Proof.Machine.execTrippedReceived frame s
  | .penChange level => Sys2Proof.Machine.execPenChange level s
  | .openConfirmChange output level => Sys2Proof.Machine.execOpenConfirmChange output level s
  | .tripFailed output => Sys2Proof.Machine.execTripFailed output s
  | .resetPinAsserted => Sys2Proof.Machine.execResetPinAsserted s
  | .receivedFrameDropped frame => Sys2Proof.Machine.execReceivedFrameDropped frame s

end Sys2Proof.Machine
end

