-- ==== Sys2Proof/Machine/Step.lean ====
section
/-! DEFINITION. One step of the part: the command at the front of the queue is taken, or, with none waiting, the part's
own clock runs. -/

namespace Sys2Proof.Machine

/-- One step: `exec` of the front command with the queue's rest, or `idle` on an empty queue (log 2). -/
def step (s : State) : Host.Outcome State Fault Refusal :=
  match s.pending with
  | [] => .next (idle s)
  | c :: rest => exec c { s with pending := rest }

/-- `s` with the command that a word spells in front of its queue; no word spells one. -/
def State.withFetchWord (s : State) (nbits w : Nat) : State := placeWord (Sys2Proof.decodeTableWord nbits w) s

end Sys2Proof.Machine
end

