-- ==== Sys2Proof/Safety.lean ====
section
/-! DEFINITION. What counts as a part in order: the facts about the state that the spec promises at every instant, in the
terms the statements use. -/

namespace Sys2Proof.Machine

/-- The Event Queue holds at most 32 records, and the attention line shows whether it holds any (R186, R187). -/
def EventsOk (p : Port) : Prop := p.events.length ≤ Config.eventQueueSize ∧ p.attention = !p.events.isEmpty

/-- An output line is driven exactly while its trip record is ASSERTED, and the record is ASSERTED only in RUN (R163). -/
def TripOk (now : RunState) (r : TripRecord) : Prop :=
  (r.driven = true ↔ r.state = .asserted) ∧ (r.state = .asserted → now = .run)

/-- Both outputs are in order (R163). -/
def OutputsOk (s : State) : Prop := TripOk s.run s.linkage.trip0 ∧ TripOk s.run s.linkage.trip1

/-- The transmit queue holds at most one entry for each subject, in order of class (R69). -/
def QueueOk (q : List QueueEntry) : Prop :=
  (q.map QueueEntry.subject).Nodup ∧ (q.map QueueEntry.cls).Pairwise (· ≤ ·)

/-- The tables keep their sizes: history ring, peer rings, conflict list, trip list, and the fixed numbers of slots and of
linkage entries (R33, R95, R97, R105, R155, R167). -/
def TablesOk (s : State) : Prop :=
  s.engine.ring.length ≤ Config.ringSize ∧ (s.engine.ring.map EpochRecord.epoch).Nodup ∧
  s.peers.entries.length = 16 ∧ (∀ e ∈ s.peers.entries, e.ring.length ≤ Config.peerRingSize) ∧
  s.peers.conflicts.length ≤ Config.conflictListSize ∧
  s.linkage.entries.length = 8 ∧ s.linkage.trips.length ≤ Config.tripListSize

/-- The Claim Register: no two records of one key, at most 8 heard ones, own ones exactly under the station's id, and none
in CONFIG (R137, R138). -/
def RegisterOk (s : State) : Prop :=
  (s.register.records.map ClaimRecord.key).Nodup ∧
  (s.register.records.filter (fun r => !r.own)).length ≤ Config.heardPlaces ∧
  (∀ r ∈ s.register.records, r.own = true ↔ r.key.claimant = s.port.image.stationId) ∧
  (s.run = .config → s.register.records = [])

/-- The period estimate lies in 15,000 to 22,500 ticks (section 1.1). -/
def PeriodOk (k : Tracker) : Prop := Config.periodMin ≤ k.period ∧ (k.period : Int) ≤ Config.periodMax

/-- In LISTEN and RUN the posture and the receiver-enable line are as their rules give them (R57, R67). -/
def PostureOk (s : State) : Prop :=
  s.run ≠ .config → s.link.vigilant = vigilantNow s ∧ s.link.receiverEnable = receiverNow s

/-- No evaluation can act: the part is not in RUN, or the image holds no linkage entry (R159). -/
def NoTripTable (s : State) : Prop := s.run ≠ .run ∨ s.port.image.entries = []

/-- A part in order. -/
def Safe (s : State) : Prop :=
  EventsOk s.port ∧ OutputsOk s ∧ QueueOk s.link.queue ∧ TablesOk s ∧ RegisterOk s ∧ PeriodOk s.tracker ∧ PostureOk s

/-! ## Terms of the statements -/

/-- The anchor of section 1.1: the boundary against which the current reference crossing is judged. It is the fallen boundary
while that one's window awaits its crossing, and the next boundary from then on (log 10). -/
def currentAnchor (k : Tracker) : Option Tick := if k.windowNow = .awaiting then k.anchor else k.next

/-- A command of the station port. -/
def isPortCommand (c : Instr) : Prop :=
  match c with
  | .getStatus | .popEvent | .loadConfig _ | .start | .startValidationEnd | .getRecord _ | .getPeer _ | .getClaims
  | .getMap | .reset | .badCommand => True
  | _ => False

/-- A reset of the whole part. -/
def isReset (c : Instr) : Prop := c = .powerOnReset ∨ c = .resetPin ∨ c = .resetPinAsserted ∨ c = .reset

/-- A transaction outside a held reset and outside START's validation shifts out the reply made before it. -/
def afterTransaction (s : State) (r : Reply) : State :=
  { s with port := { s.port with shifted := some s.port.reply, reply := r } }

/-- Seven magnitudes in the ranges of the layout table (section 4.3). -/
def meansPlaced (m : Means) : Prop :=
  m.i.p1 ≤ 8192 ∧ m.i.p2 ≤ 8192 ∧ m.i.p3 ≤ 8192 ∧ m.v.p1 ≤ 8192 ∧ m.v.p2 ≤ 8192 ∧ m.v.p3 ≤ 8192 ∧ m.r ≤ 24576

/-- A claim's content in the ranges of the layout table (section 4.3, R64). -/
def claimPlaced (c : ClaimContent) : Prop :=
  c.span.up < c.span.down ∧ c.span.down ≤ 4095 ∧ (c.kind = .ground → c.mask = ⟨false, false, false⟩)

/-- A payload in the ranges of the layout table (section 4.3, R64). -/
def payloadPlaced : Payload → Prop
  | .report p => meansPlaced p.means ∧ p.irregularity ≤ 65535 ∧ p.validCycles ≤ 17
  | .alert c => meansPlaced c.values
  | .claim c _ => claimPlaced c
  | .release c _ => claimPlaced c
  | .tripped c => c.zone.lo ≤ c.zone.hi ∧ c.zone.hi ≤ 4095 ∧ c.span.up < c.span.down ∧ c.span.down ≤ 4095

/-- A header in the ranges of the layout table (section 4.3, R64). -/
def headerPlaced (h : Header) : Prop :=
  h.segment ≤ 255 ∧ 1 ≤ h.sender ∧ h.sender ≤ 65534 ∧ h.position ≤ 4095 ∧ 4 ≤ h.n ∧ h.n ≤ 16 ∧ h.stamp < 32 * h.n

/-- The checks of START's validation in turn, over numbers as an image holds them: each code with what it finds wrong, the
earlier checks having passed; check 6 and 7 with the first entry at fault. -/
def firstFailure (m : Image) : Option (Nat × Option Nat) → Prop
  | some (1, none) => m.stationId = 0 ∨ m.stationId = 65535
  | some (2, none) => ¬ firstFailureUpTo1 m ∧ (m.segment = 0 ∨ m.segment = 255)
  | some (3, none) => ¬ firstFailureUpTo1 m ∧ ¬ (m.segment = 0 ∨ m.segment = 255) ∧ ¬ (4 ≤ m.n ∧ m.n ≤ 16)
  | some (4, none) => passes3 m ∧ ¬ (1 ≤ m.w ∧ m.w ≤ m.n - 1)
  | some (5, none) => passes3 m ∧ 1 ≤ m.w ∧ m.w ≤ m.n - 1 ∧ m.vlive ≤ m.vdead
  | some (6, some k) => passes5 m ∧ (∃ e, m.entries[k]? = some e ∧ e.zone.hi < e.zone.lo) ∧
      ∀ j < k, ∀ e, m.entries[j]? = some e → e.zone.lo ≤ e.zone.hi
  | some (7, some k) => passes5 m ∧ (∀ e ∈ m.entries, e.zone.lo ≤ e.zone.hi) ∧
      (∃ e, m.entries[k]? = some e ∧ e.trip0 = false ∧ e.trip1 = false) ∧
      ∀ j < k, ∀ e, m.entries[j]? = some e → e.trip0 = true ∨ e.trip1 = true
  | none => passes5 m ∧ ∀ e ∈ m.entries, e.zone.lo ≤ e.zone.hi ∧ (e.trip0 = true ∨ e.trip1 = true)
  | _ => False
where
  firstFailureUpTo1 (m : Image) : Prop := m.stationId = 0 ∨ m.stationId = 65535
  passes3 (m : Image) : Prop :=
    ¬ firstFailureUpTo1 m ∧ ¬ (m.segment = 0 ∨ m.segment = 255) ∧ 4 ≤ m.n ∧ m.n ≤ 16
  passes5 (m : Image) : Prop := passes3 m ∧ 1 ≤ m.w ∧ m.w ≤ m.n - 1 ∧ m.vdead < m.vlive

/-! ### Terms of the link -/

/-- The choice of `s` has drawn a backoff of 0 and handed its candidate over at once (R55, R68, R76 to R78): a due series on an idle
channel, the LFSR stepped to a multiple of 4, the series marked, the receiver off and any reception discarded, the hold set; every
other item of the link stands. -/
def HandedOverAtOnce (s t : State) : Prop :=
  s.run = .run ∧ s.link.sending = false ∧ s.busyPin = false ∧ (lfsrStep s.link.lfsr).toNat % 4 = 0 ∧
  ∃ e ∈ s.link.queue, e.cls = 0 ∧ e.due = true ∧ e.mark = .noFrame ∧
    t.link.inFlight.map InFlight.subject = some e.subject ∧
    t.link = { s.link with
      queue := s.link.queue.map (fun x => if x.subject = e.subject then { x with mark := .current } else x)
      inFlight := t.link.inFlight, sending := true, completionTimer := 0, lfsr := lfsrStep s.link.lfsr
      access := .idle, candidate := none, backoff := 0
      receiving := false, latch := none, receptionTimer := 0, receiverEnable := false
      vigilant := true, hold := Config.holdEpochs }

/-- The link of `t` is `l`, as a command's own effect leaves it, but for what the link then does of itself (R57, R67, R76 to R78):
posture and receiver follow their rules; access is chosen anew where the part runs, sends nothing and has no backoff that stands, with
at most one draw; and only that choice may hand a series over. -/
def LinkSettled (l : Link) (t : State) : Prop :=
  let before : State := { t with link := l }
  let judged : State := { t with link := { l with vigilant := vigilantNow before } }
  PostureOk t ∧
  (t.run ≠ .run ∨ l.sending = true ∨ (l.access = .backoff ∧ backoffStands judged = true) →
    t.link = { l with vigilant := t.link.vigilant, receiverEnable := t.link.receiverEnable }) ∧
  (t.link.sending = l.sending →
    t.link = { l with
      vigilant := t.link.vigilant, receiverEnable := t.link.receiverEnable
      access := t.link.access, candidate := t.link.candidate, backoff := t.link.backoff, lfsr := t.link.lfsr } ∧
    (t.link.lfsr = l.lfsr ∨ t.link.lfsr = lfsrStep l.lfsr)) ∧
  (t.link.sending ≠ l.sending → HandedOverAtOnce before t)

/-- The frame in flight of `s` has completed in `t` (R56, R72): the handshake is READY with no frame in flight, unless in RUN the
choice that begins again at the completion has drawn a backoff of 0 and handed over at once (R76, R78). -/
def FrameCompleted (s t : State) : Prop :=
  t.link.completionTimer = 0 ∧ (t.link.sending = false → t.link.inFlight = none) ∧
    (t.link.sending = true → s.run = .run ∧ t.link.lfsr = lfsrStep s.link.lfsr)

/-- The completed frame's own series has advanced (R72): CURRENT spends one of the count and the due mark, SUPERSEDED neither, the
mark returning to NONE in either case until the series is handed over again; at the last of the count the entry has left the
queue, and with a RELEASE series the RELEASED record. -/
def SeriesAdvanced (s t : State) : Prop :=
  ∀ (f : InFlight) (e : QueueEntry), s.link.inFlight = some f → queueFind s.link.queue f.subject = some e →
    e.isSeries = true →
    (e.mark = .current → 1 < e.remaining → queueFind t.link.queue f.subject =
      some { e with remaining := e.remaining - 1, due := false, mark := .noFrame }) ∧
    (e.mark = .current → e.remaining ≤ 1 → queueFind t.link.queue f.subject = none ∧
      ∀ kind fin, f.subject = .claim kind fin → ∀ r ∈ t.register.records,
        ¬ (r.key = ownKey s kind fin ∧ r.own = true ∧ r.status = .released)) ∧
    (e.mark = .superseded → 0 < e.remaining → queueFind t.link.queue f.subject =
      some { e with mark := if t.link.inFlight.map InFlight.subject = some f.subject then .current else .noFrame })

/-- The link once the frame in flight has completed and no series has closed (R56, R72): READY, and the entry of the frame's subject
with its mark NONE, one of its count and its due mark spent where the mark was CURRENT. -/
def linkCompleted (s : State) : Link :=
  { s.link with
    sending := false, inFlight := none, completionTimer := 0
    queue := s.link.queue.map (fun e =>
      if s.link.inFlight.map InFlight.subject = some e.subject then
        match e.mark with
        | .current => { e with remaining := e.remaining - 1, due := false, mark := .noFrame }
        | .superseded => { e with mark := .noFrame }
        | .noFrame => e
      else e) }

/-- No series closes at the completion of the frame in flight (R72). -/
def NoSeriesCloses (s : State) : Prop :=
  ∀ (f : InFlight) (e : QueueEntry), s.link.inFlight = some f → queueFind s.link.queue f.subject = some e →
    (e.mark = .current → 1 < e.remaining) ∧ (e.mark = .superseded → 0 < e.remaining)

/-- Some magnitude of the seven at an offset lies outside the layout table's range. -/
def MeansOutOfRange (b : List Byte) (k : Nat) : Prop :=
  (∃ j : Fin 6, 8192 < get16 b (k + 2 * j.val)) ∨ 24576 < get16 b (k + 12)

/-- A frame of the right length has a field outside its range (R64, check 4), said of its bytes. -/
def Malformed (b : List Byte) : Prop :=
  (get16 b 2 = 0 ∨ get16 b 2 = 65535 ∨ 4095 < get16 b 4 ∨ get8 b 10 < 4 ∨ 16 < get8 b 10 ∨ 32 * get8 b 10 ≤ get16 b 8) ∨
  (get8 b 0 = 1 ∧ (MeansOutOfRange b 12 ∨ 17 < get8 b 28 ∨ get8 b 29 / 64 = 0 ∨ get8 b 29 / 16 % 4 = 3)) ∨
  (get8 b 0 = 2 ∧ MeansOutOfRange b 14) ∨
  ((get8 b 0 = 3 ∨ get8 b 0 = 4) ∧
    (get8 b 16 = 0 ∨ 2 < get8 b 16 ∨ get8 b 18 = 0 ∨ 2 < get8 b 18 ∨ get16 b 14 ≤ get16 b 12 ∨
      (get8 b 16 = 2 ∧ get8 b 17 % 8 ≠ 0))) ∨
  (get8 b 0 = 5 ∧
    (get8 b 12 = 0 ∨ 2 < get8 b 12 ∨ 1 < get8 b 13 ∨ get16 b 16 < get16 b 14 ∨ get16 b 20 ≤ get16 b 18))

/-! ### Terms of the image -/

/-- The loaded entry at an index; one that the operand leaves out is of zeros (log 16). -/
def loadedEntry (r : RawImage) (k : Nat) : RawEntry := r.entries.getD k zeroEntry

/-- A stored linkage entry is the loaded one with its clamped items in range and its codes read (section 11.2). -/
def EntryStored (x : RawEntry) (e : LinkageEntry) : Prop :=
  e.zone = ⟨min x.zlo 4095, min x.zhi 4095⟩ ∧ e.acceptsOpen = x.kinds.testBit 0 ∧ e.acceptsGround = x.kinds.testBit 1 ∧
  e.requirement = (if x.requirement = 0 then .both else if x.requirement = 1 then .either else .delayed) ∧
  e.delay = max 1 (min x.delay 30) ∧ e.mapCheck = decide (x.mapCheck ≠ 0) ∧
  e.trip0 = x.outputs.testBit 0 ∧ e.trip1 = x.outputs.testBit 1 ∧
  e.role = (if x.role = 0 then .primary else .backup) ∧ e.backupEpochs = max 1 (min x.backup 30) ∧
  e.degraded = (if x.degraded = 0 then .same else if x.degraded = 1 then .either else .hold)

/-- A number lies outside a range. -/
def Outside (lo hi n : Nat) : Prop := n < lo ∨ hi < n

/-- Storing changes an item of the image itself (R181). -/
def ItemChanged (r : RawImage) : ImageItem → Prop
  | .position => 4095 < r.position
  | .frequency => r.frequency ≠ 50 ∧ r.frequency ≠ 60
  | .preferredPhase => Outside 1 3 r.preferredPhase
  | .vlive => Outside 1 8191 r.vlive
  | .vdead => Outside 1 8191 r.vdead
  | .vrefFloor => Outside 1 8191 r.vrefFloor
  | .istep => Outside 1 8191 r.istep
  | .idrop => Outside 1 8191 r.idrop
  | .irregMin => Outside 1 8191 r.irregMin
  | .rground => Outside 1 24575 r.rground
  | .rstep => Outside 1 24575 r.rstep
  | .vloss => Outside 1 255 r.vloss
  | .rsplit => Outside 1 255 r.rsplit
  | .k => Outside 2 8 r.k
  | .repeats => 3 < r.repeats
  | .settleCount => Outside 4 32 r.settleCount
  | .confirmTimeout => Outside 3 60 r.confirmTimeout
  | .entryCount => 8 < r.entryCount
  | .zlo | .zhi | .kinds | .requirement | .delay | .mapCheck | .outputs | .role | .backup | .degraded => False

/-- Storing changes an item of a linkage entry (R181). -/
def EntryItemChanged (x : RawEntry) : ImageItem → Prop
  | .zlo => 4095 < x.zlo
  | .zhi => 4095 < x.zhi
  | .kinds => 3 < x.kinds
  | .requirement => 2 < x.requirement
  | .delay => Outside 1 30 x.delay
  | .mapCheck => 1 < x.mapCheck
  | .outputs => 3 < x.outputs
  | .role => 1 < x.role
  | .backup => Outside 1 30 x.backup
  | .degraded => 2 < x.degraded
  | .position | .frequency | .preferredPhase | .vlive | .vdead | .vrefFloor | .istep | .idrop | .irregMin | .rground | .rstep
  | .vloss | .rsplit | .k | .repeats | .settleCount | .confirmTimeout | .entryCount => False

/-- Storing changes the item that a reply names (R181). -/
def NamedItemChanged (r : RawImage) (i : ClampedItem) : Prop :=
  match i.entry with
  | none => ItemChanged r i.item
  | some k => k < min r.entryCount 8 ∧ EntryItemChanged (loadedEntry r k) i.item

/-! ### Terms of the tracker and the engine -/

/-- P after a reference crossing captured in LOCKED (R7): moved by an eighth of the measured period's difference where the last
capture was accepted and the period is in window, and left where not. -/
def PeriodFollows (k : Tracker) (at_ : Tick) (period : Nat) : Prop :=
  ((∀ c, k.lastRef = some c → c.accepted = false) → period = k.period) ∧
  (∀ c, k.lastRef = some c → c.accepted = true →
    let m := tickDiff at_ c.tick
    (15000 ≤ m ∧ m ≤ 22500 ∧ (m - k.period).natAbs ≤ k.period / 64 →
      (period : Int) = ((k.period : Int) + (m - k.period).tdiv 8).toNat) ∧
    (¬ (15000 ≤ m ∧ m ≤ 22500 ∧ (m - k.period).natAbs ≤ k.period / 64) → period = k.period))

/-- The place of a phase in priority order: the preferred phase, then the other two ascending (R4). -/
def rank (preferred φ : Phase) : Nat :=
  if φ = preferred then 0 else if preferred.number < φ.number then φ.number - 1 else φ.number

/-- How far a phase lies after the current one in priority order, which wraps from its last phase to its first (R4). -/
def placesAfter (preferred current φ : Phase) : Nat := (rank preferred φ + 3 - rank preferred current) % 3

/-- A phase's miss counter once a boundary has counted: that of a reference with a learned offset stands, since its windows count
it, and any other rises where its phase was not crossed since the last boundary (R2, R4, R8, R11). -/
def missesAtBoundary (k : Tracker) (φ : Phase) : Nat :=
  if φ = k.ref ∧ k.mode = .locked ∧ k.offset ≠ none then k.miss.get φ
  else if k.crossed.get φ = false then min 3 (k.miss.get φ + 1)
  else if φ = k.ref ∧ k.mode = .seeking then 0
  else k.miss.get φ

/-- The sum of one value over the valid cycles of an epoch (R26). -/
def cycleSum (f : Means → Nat) (cs : List ClosedCycle) : Nat := ((cs.filter (·.valid)).map (fun c => f c.magnitudes)).sum

/-- The number of valid cycles (R26). -/
def validCycles (cs : List ClosedCycle) : Nat := (cs.filter (·.valid)).length

/-- The steps of the irregularity: over every pair of consecutive valid cycles, the difference of their residual magnitudes
(R28). -/
def irregularitySteps : List ClosedCycle → Nat
  | a :: b :: rest =>
    (if a.valid = true ∧ b.valid = true then max a.magnitudes.r b.magnitudes.r - min a.magnitudes.r b.magnitudes.r else 0) +
      irregularitySteps (b :: rest)
  | _ => 0

/-- The engine's sums are those of the cycles closed in the epoch so far (R26, R28). -/
def EpochOk (e : Engine) : Prop :=
  (∀ φ, e.sums.i.get φ = cycleSum (fun m => m.i.get φ) e.closed ∧ e.sums.v.get φ = cycleSum (fun m => m.v.get φ) e.closed) ∧
  e.sums.r = cycleSum (fun m => m.r) e.closed ∧ e.validCount = validCycles e.closed ∧
  e.irregularity = min 65535 (irregularitySteps e.closed) ∧
  e.previous = e.closed.getLast?.map (fun c => ⟨c.magnitudes.r, c.valid⟩)

/-! ### Terms of the Detector -/

/-- What R38 takes as the reference for record e of a ring: the newest of e-3 to e-8 that the ring holds and that is not INVALID. -/
def IsReference (ring : List EpochRecord) (e : EpochNum) (reference : Option EpochRecord) : Prop :=
  let barred := fun b : Nat => ∀ y, ringFind ring (e - BitVec.ofNat 16 b) = some y → y.invalid = true
  (∀ x, reference = some x → x.invalid = false ∧ ∃ b : Fin 9, 3 ≤ b.val ∧
    ringFind ring (e - BitVec.ofNat 16 b.val) = some x ∧ ∀ c : Fin 9, 3 ≤ c.val → c.val < b.val → barred c.val) ∧
  (reference = none → ∀ c : Fin 9, 3 ≤ c.val → barred c.val)

/-- A mask holds exactly the conditions of R39 that record e meets against a comparison record. -/
def TriggersAre (image : Image) (e c : EpochRecord) (m : CauseMask) : Prop :=
  (m.a = true ↔ ∃ φ, image.istep ≤ max (e.means.i.get φ) (c.means.i.get φ) - min (e.means.i.get φ) (c.means.i.get φ)) ∧
  (m.b = true ↔ ∃ φ, image.vrefFloor ≤ c.means.v.get φ ∧ e.means.v.get φ * 256 < c.means.v.get φ * image.vloss) ∧
  (m.c = true ↔ (image.rstep : Int) ≤ (e.means.r : Int) - c.means.r)

/-- Record e is quiet (R46). -/
def Quiet (image : Image) (ring : List EpochRecord) (e : EpochRecord) : Prop :=
  e.invalid = false ∧ ∃ prev, ringFind ring (e.epoch - 1) = some prev ∧ prev.invalid = false ∧
    TriggersAre image e prev ⟨false, false, false⟩

/-- The Detector in CALM with its snapshot ABSENT and its settle, restore and forced-close counters at 0 (R49, R51). -/
def calmed (d : Detector) (reference : Option EpochRecord) : Detector :=
  { d with assessment := .calm, snapshot := none, reference := reference, settle := 0, restore := 0, forced := 0 }

/-! ### Terms of the Peer Table -/

/-- The slot holds the entry to be evicted among those of a sort: unpinned, the farthest from the own position, at equal distance
the one of higher position (R98). -/
def Evictable (own : Nat) (sort : PeerEntry → Prop) (es : List PeerEntry) (k : Nat) : Prop :=
  let far := fun e : PeerEntry => max own e.position - min own e.position
  ∃ e, es[k]? = some e ∧ sort e ∧ e.pinned = 0 ∧
    ∀ x ∈ es, sort x → x.pinned = 0 → far x < far e ∨ (far x = far e ∧ x.position ≤ e.position)

/-- A position is the own one or that of an entry held under another id (R97, R99). -/
def PositionTaken (s : State) (id position : Nat) : Prop :=
  position = s.port.image.position ∨ ∃ e ∈ s.peers.entries, e.state ≠ .free ∧ e.id ≠ id ∧ e.position = position

/-- What the first REPORT of a HEARD entry leaves of a new or reset entry, its mark aside (R97, R99 to R102, R105). -/
def firstReportEntry (ownN : Nat) (h : Header) (p : ReportPayload) : PeerEntry :=
  { Init.freePeer with
    state := .heard, id := h.sender, position := h.position, mismatched := decide (h.n ≠ ownN), tally := 1, flags := h.flags
    ring := if h.invalid = false ∧ h.n = ownN then [peerRecord h p] else [] }

/-! ### Terms of the Continuity Assessor -/

/-- A span is that of the first pair of consecutive entries that meets a test, as their positions; none where no pair does (R120,
R121). -/
def IsFirstPair (test : MapEntry → MapEntry → Prop) (l : List MapEntry) (found : Option Span) : Prop :=
  (∀ x, found = some x → ∃ k a b, l[k]? = some a ∧ l[k + 1]? = some b ∧ test a b ∧ x = ⟨a.position, b.position⟩ ∧
    ∀ j a' b', j < k → l[j]? = some a' → l[j + 1]? = some b' → ¬ test a' b') ∧
  (found = none → ∀ j a' b', l[j]? = some a' → l[j + 1]? = some b' → ¬ test a' b')

/-- The verdict of a cell in an assessment (R123): NOT JUDGED in BLIND and DEENERGIZED and behind a COVERED own record, UNKNOWN
without evidence, else by its condition. -/
def VerdictIs (a : Assessment) (covered : Prop) (evidence : Option Evidence) (condition : Evidence → Prop) (v : Verdict) : Prop :=
  (a = .blind ∨ a = .deenergized ∨ covered → v = .notJudged) ∧
  (a = .calm ∨ a = .disturbed → ¬ covered →
    (evidence = none → v = .unknown) ∧
    ∀ x, evidence = some x → (condition x → v = .isTrue) ∧ (¬ condition x → v = .isFalse))

/-- The condition of OPEN DOWN on a phase (R124). -/
def OpenDown (image : Image) (φ : Phase) (o : EpochRecord) (snap : Option EpochRecord) (x : Evidence) : Prop :=
  ∃ s, snap = some s ∧ image.vlive ≤ o.means.v.get φ ∧ x.peer.means.v.get φ < image.vlive ∧
    (image.idrop : Int) ≤ (s.means.i.get φ : Int) - o.means.i.get φ

/-- The condition of OPEN UP on a phase (R124). -/
def OpenUp (image : Image) (φ : Phase) (o : EpochRecord) (snap : Option EpochRecord) (x : Evidence) : Prop :=
  ∃ s, snap = some s ∧ o.means.v.get φ < image.vlive ∧ image.vlive ≤ s.means.v.get φ ∧
    o.means.v.get φ * 256 < s.means.v.get φ * image.vloss ∧ image.vlive ≤ x.peer.means.v.get φ

/-- The condition of GROUND DOWN (R125). -/
def GroundDown (image : Image) (o : EpochRecord) (snap : Option EpochRecord) (x : Evidence) : Prop :=
  ∃ s, snap = some s ∧ image.rground ≤ o.means.r ∧ (image.rstep : Int) ≤ (o.means.r : Int) - s.means.r ∧
    image.irregMin ≤ o.irregularity ∧ x.peer.means.r * 256 < o.means.r * image.rsplit

/-- The condition of GROUND UP (R125). -/
def GroundUp (image : Image) (o : EpochRecord) (x : Evidence) : Prop :=
  image.rground ≤ x.peer.means.r ∧ image.irregMin ≤ x.peer.irregularity ∧
    o.means.r * 256 < x.peer.means.r * image.rsplit ∧
    ∀ c, x.announced = some c → (image.rstep : Int) ≤ (x.peer.means.r : Int) - c.values.r

/-! ### Terms of the Claim Register -/

/-- A U-end and a D-end record corroborate, their claimants not compared (R151, log 38). -/
def Corroborates (u d : ClaimRecord) : Prop :=
  u.key.fin = .u ∧ d.key.fin = .d ∧ u.key.kind = d.key.kind ∧ u.status = .standing ∧ d.status = .standing ∧
    max u.span.up d.span.up < min u.span.down d.span.down ∧
    (u.key.kind = .openConductor → ∃ φ, u.mask.get φ = true ∧ d.mask.get φ = true)

/-- A record agrees with the latest located boundaries (R153). -/
def Agrees (a : Assessor) (r : ClaimRecord) : Prop :=
  let meets := fun b : Span => max b.up r.span.up < min b.down r.span.down
  match r.key.kind with
  | .ground => ∃ b, a.residualBoundary = some b ∧ meets b
  | .openConductor => ∃ φ, r.mask.get φ = true ∧ ∃ b, a.phaseBoundary.get φ = some b ∧ meets b

/-- The pair list, the corroborated marks and the map agreement flags are true to the records and to the map (R151 to R153). -/
def PairsOk (s : State) : Prop :=
  (∀ p, p ∈ s.register.pairs ↔ ∃ u ∈ s.register.records, ∃ d ∈ s.register.records, Corroborates u d ∧
    p = ⟨u.key, d.key, ⟨max u.span.up d.span.up, min u.span.down d.span.down⟩⟩) ∧
  (∀ r ∈ s.register.records, r.corroborated = true ↔ ∃ p ∈ s.register.pairs, p.upKey = r.key ∨ p.downKey = r.key) ∧
  (∀ r ∈ s.register.records, r.agrees = true ↔ Agrees s.assessor r)

/-- The item that a test finds first in the order of a list. -/
def IsFirst {α : Type} [DecidableEq α] (test : α → Prop) (l : List α) (x : α) : Prop :=
  x ∈ l ∧ test x ∧ ∀ y ∈ l.takeWhile (fun y => y ≠ x), ¬ test y

/-- A RUNNING or EXPIRED backup timer refers to a key (R145). -/
def TimerRefers (s : State) (key : ClaimKey) : Prop :=
  ∃ x ∈ s.linkage.entries, ∃ c, x.timer.candidate = some c ∧ (c.key = key ∨ c.partner = some key)

/-- A linkage entry's delay runs on a STANDING record (R156 to R158, log 20). -/
def DelayRuns (s : State) (r : ClaimRecord) : Prop :=
  ∃ p ∈ s.port.image.entries.zip s.linkage.entries,
    p.2.spent = false ∧ r.status = .standing ∧ r.standingAge < p.1.delay ∧
    p.1.requirement = .delayed ∧ (s.fault.impaired = true → p.1.degraded = .same) ∧
    p.1.zone.lo ≤ r.span.up ∧ r.span.down ≤ p.1.zone.hi ∧
    (r.key.kind = .openConductor → p.1.acceptsOpen = true) ∧ (r.key.kind = .ground → p.1.acceptsGround = true) ∧
    (p.1.mapCheck = true → r.agrees = true) ∧
    ∀ i ∈ s.linkage.trips, ¬ (i.content.result = .success ∧
      i.content.zone.lo ≤ r.span.up ∧ r.span.down ≤ i.content.zone.hi)

/-- The heard record that gives way to a new claim (R145): the earliest RELEASED one, failing that the earliest STANDING one that is
not corroborated and that neither a backup timer nor a running delay refers to. -/
def GivesWay (s : State) (r : ClaimRecord) : Prop :=
  let released := fun x : ClaimRecord => x.own = false ∧ x.status = .released
  let loose := fun x : ClaimRecord => x.own = false ∧ x.status = .standing ∧ x.corroborated = false ∧
    ¬ TimerRefers s x.key ∧ ¬ DelayRuns s x
  IsFirst released s.register.records r ∨
    ((∀ x ∈ s.register.records, ¬ released x) ∧ IsFirst loose s.register.records r)

/-- A cell stands behind an own record: HELD or FADING (R129). -/
def Stands (c : Cell) : Prop := c.state = .held ∨ c.state = .fading

/-- The wanted form of an own record: a non-empty mask for OPEN, the empty one for GROUND, or none (R129). -/
def Wanted (a : Assessor) : ClaimKind → SpanEnd → Option (PerPhase Bool) → Prop
  | .openConductor, fin, some m => (∃ φ, m.get φ = true) ∧ ∀ φ, m.get φ = true ↔ Stands ((side fin).get φ)
  | .openConductor, fin, none => ∀ φ, ¬ Stands ((side fin).get φ)
  | .ground, fin, some m => m = ⟨false, false, false⟩ ∧ Stands (ground fin)
  | .ground, fin, none => ¬ Stands (ground fin)
where
  side : SpanEnd → PerPhase Cell
    | .u => a.openDown
    | .d => a.openUp
  ground : SpanEnd → Cell
    | .u => a.groundDown
    | .d => a.groundUp

/-! ### The counts of a boundary -/

/-- A peer's entry is given back by a boundary's ageing (R104). -/
def FreedByAge (e : PeerEntry) : Prop :=
  e.pinned = 0 ∧ ((e.state = .heard ∧ 20 ≤ e.frameSilence + 1) ∨ (e.state = .lost ∧ 64 ≤ e.frameSilence + 1))

/-- What a boundary's ageing makes of a peer's entry in use that is not given back: `x` is `e` with both silences raised, a probation
window raised or passed, and ACTIVE fallen STALE or STALE fallen LOST (R102, R104); its mark, its PINNED count and its snapshot are
left to other rules. -/
def PeerAged (e x : PeerEntry) : Prop :=
  let age := if e.state = .heard ∧ 0 < e.tally then e.age + 1 else e.age
  let passed := e.state = .heard ∧ 0 < e.tally ∧ e.tally < 3 ∧ 6 ≤ age
  x = { e with
    reportSilence := min 255 (e.reportSilence + 1), frameSilence := min 255 (e.frameSilence + 1)
    tally := if passed then 0 else e.tally, age := if passed then 0 else age
    state :=
      if e.state = .active ∧ 5 ≤ e.reportSilence + 1 then .stale
      else if e.state = .stale ∧ 20 ≤ e.reportSilence + 1 then .lost
      else e.state
    aligned := x.aligned, pinned := x.pinned, snapshot := x.snapshot }

/-- What a boundary's ageing makes of a record that stays: `x` is `r` with its ages raised, an own STANDING record at refresh age 8
refreshed in epoch `now` (R140, R147); marks and map agreement are left to other rules. That the refresh age of a heard record and
the frame age of an own one stand is the model's choice (log 50). -/
def RecordAged (now : EpochNum) (r x : ClaimRecord) : Prop :=
  let standing := r.status = .standing
  let refreshed := r.own = true ∧ standing ∧ 8 ≤ r.refreshAge + 1
  x = { r with
    standingAge := if standing then min 255 (r.standingAge + 1) else r.standingAge
    refreshAge := if refreshed then 0 else if r.own = true ∧ standing then r.refreshAge + 1 else r.refreshAge
    refreshEpoch := if refreshed then now else r.refreshEpoch
    frameAge := if r.own = true then r.frameAge else r.frameAge + 1
    corroborated := x.corroborated, agrees := x.agrees }

/-- The counts of a boundary that begins an own epoch: the hold falls, unless a hand-over of the boundary sets it; peers and records
age, and those at their end leave (R68, R102, R104, R140, R147). -/
def EpochCounts (s t : State) : Prop :=
  (t.link.hold = s.link.hold - 1 ∨ (t.link.sending = true ∧ t.link.hold = 20)) ∧
  (∀ (k : Fin 16) (e : PeerEntry), s.peers.entries[k.val]? = some e → e.state ≠ .free →
    (FreedByAge e → t.peers.entries[k.val]? = some Init.freePeer) ∧
    (¬ FreedByAge e → ∃ x, t.peers.entries[k.val]? = some x ∧ PeerAged e x)) ∧
  (RegisterOk s → ∀ r ∈ s.register.records,
    (∀ x ∈ t.register.records, x.key = r.key → RecordAged t.tracker.epoch r x) ∧
    (r.own = false → 12 ≤ r.frameAge + 1 → ∀ x ∈ t.register.records, x.key ≠ r.key) ∧
    (r.status = .standing →
      (r.own = true ∧ s.detector.assessment ≠ .deenergized) ∨ (r.own = false ∧ r.frameAge + 1 < 12) →
      ∃ x ∈ t.register.records, x.key = r.key))

/-- What a boundary that ends an epoch adds: the LISTEN count, the window's opening with every series due, and in RUN the REPORT of
the epoch's record, one still queued counting as missed (R35, R66, R70, R72, R92). -/
def EpochEnds (s t : State) : Prop :=
  (s.run = .listen → s.timeline.listenCount ≤ 20 →
    t.timeline.listenCount = min 20 (s.timeline.listenCount + 1) ∧ (t.run = .run ↔ 19 ≤ s.timeline.listenCount)) ∧
  t.link.windowOpen = true ∧
  (s.register.records = [] → (∀ o, (s.linkage.trip o).state ≠ .asserted) → s.link.sending = false → t.link.sending = false →
    ∀ e ∈ s.link.queue, e.isSeries = true → 0 < e.remaining → { e with due := true } ∈ t.link.queue) ∧
  (s.run = .run → s.engine.discard = false → t.link.sending = false → t.fault.jammed = s.fault.jammed →
    s.link.reportsMissed ≤ 65535 →
    (∃ r older q, t.engine.ring = r :: older ∧ q ∈ t.link.queue ∧ q.item = .report r ∧ q.bound = t.tracker.epoch) ∧
    t.link.reportsMissed =
      if ∃ e ∈ s.link.queue, e.subject = .report then min 65535 (s.link.reportsMissed + 1) else s.link.reportsMissed)

/-! ### Terms of the Trip Linkage -/

/-- The Linkage of `t` as an entry into CALM leaves that of `s` (R168): marks clear, CONFIRMED and FAILED records IDLE, ASSERTED
ones and the backup timers left, the trip list empty. -/
def LinkageCalmed (s t : State) : Prop :=
  (∀ e ∈ t.linkage.entries, e.spent = false ∧ e.wouldTrip = false) ∧
  t.linkage.entries.map EntryRuntime.timer = s.linkage.entries.map EntryRuntime.timer ∧ t.linkage.trips = [] ∧
  ∀ o, ((s.linkage.trip o).state = .confirmed ∨ (s.linkage.trip o).state = .failed →
      t.linkage.trip o = ⟨.idle, none, 0, none, none, false⟩) ∧
    ((s.linkage.trip o).state = .asserted ∨ (s.linkage.trip o).state = .idle → t.linkage.trip o = s.linkage.trip o)

/-- A span lies within a TRIPPED's zone (R148, R162). -/
abbrev InZone (z : Zone) (x : Span) : Prop := z.lo ≤ x.up ∧ x.down ≤ z.hi

/-- What an entry asks of any candidate, whatever its requirement: in zone, of an accepted kind, not answered, and with the map where
the map check is on (R156, R158). -/
def InScope (s : State) (e : LinkageEntry) (kind : ClaimKind) (x : Span) (agrees : Prop) : Prop :=
  InZone e.zone x ∧ (kind = .openConductor → e.acceptsOpen = true) ∧ (kind = .ground → e.acceptsGround = true) ∧
  (∀ i ∈ s.linkage.trips, i.content.result = .success → ¬ InZone i.content.zone x) ∧ (e.mapCheck = true → agrees)

/-- The requirement in force of an entry: the configured one, and under IMPAIRED its degraded action's; none under HOLD (R158). -/
def InForce (s : State) (e : LinkageEntry) (q : Requirement) : Prop :=
  (s.fault.impaired = false ∨ e.degraded = .same → e.requirement = q) ∧
  (s.fault.impaired = true → e.degraded = .either → q = .either) ∧ ¬ (s.fault.impaired = true ∧ e.degraded = .hold)

/-- A pair satisfies an entry: any requirement in force takes a pair, and either record's agreement is the pair's (R156 to R158). -/
def PairSatisfies (s : State) (e : LinkageEntry) (p : ClaimPair) : Prop :=
  InScope s e p.upKey.kind p.span
    (∃ r ∈ s.register.records, (r.key = p.upKey ∨ r.key = p.downKey) ∧ r.agrees = true) ∧
  (InForce s e .both ∨ InForce s e .either ∨ InForce s e .delayed)

/-- A single record satisfies an entry: STANDING, under EITHER, or under DELAYED(d) at standing age d (R156 to R158). -/
def SingleSatisfies (s : State) (e : LinkageEntry) (r : ClaimRecord) : Prop :=
  r.status = .standing ∧ InScope s e r.key.kind r.span (r.agrees = true) ∧
  (InForce s e .either ∨ (InForce s e .delayed ∧ e.delay ≤ r.standingAge))

/-- The span and the peer's position of a raise: U looks down from the own position, D up (R130). -/
def raisedSpan (own peer : Nat) (fin : SpanEnd) : Span := if fin = .u then ⟨own, peer⟩ else ⟨peer, own⟩

/-- The entries with the PINNED count of the one at a position changed (R109). -/
def pinnedAt (f : Nat → Nat) (position : Nat) (es : List PeerEntry) : List PeerEntry :=
  es.map (fun e => if e.state ≠ .free ∧ e.position = position then { e with pinned := f e.pinned } else e)

end Sys2Proof.Machine
end

