-- ==== Sys2Proof/Certificates/Slice0/Obligations.lean ====
section
/-! DEFINITION. The statements for the provers. -/

open Sys2Proof Sys2Proof.Machine

/-! ## The step and the queue of commands -/

/-- With a command at the front, a step is `exec` of it on the state with the queue's rest; with none waiting, a step is a
tick, or puts the time-driven command that has fallen due into the queue (the model's choice, log 2). -/
def Obligations.StepRunsTheFrontCommand : Prop :=
  (∀ (c : Instr) (rest : List Instr) (s : State), s.pending = c :: rest →
    step s = exec c { s with pending := rest }) ∧
  (∀ s : State, s.pending = [] → dueCommand s = none → step s = .next { s with timebase := s.timebase + 1 }) ∧
  (∀ (c : Instr) (s : State), s.pending = [] → dueCommand s = some c → step s = .next { s with pending := [c] })

/-- Every command answers a next state in every state, and leaves the queue of commands and the reset pin's level, but for
the rows of that pin, as they stand. -/
def Obligations.ExecCompletesAndKeepsTheQueue : Prop :=
  ∀ (c : Instr) (s : State), ∃ t, exec c s = .next t ∧ t.pending = s.pending ∧
    (c ≠ .resetPin → c ≠ .resetPinAsserted → t.resetHeld = s.resetHeld)

/-! ## Facts that hold at every instant -/

/-- The state right after reset is in order. -/
def Obligations.ResetIsSafe : Prop := Safe State.reset

/-- Every step keeps the Event Queue within 32 records and the attention line asserted exactly while it holds one (R186,
R187). -/
def Obligations.EventQueueInvariant : Prop :=
  ∀ s t : State, EventsOk s.port → step s = .next t → EventsOk t.port

/-- Every step keeps each trip output driven exactly while its record is ASSERTED, and ASSERTED only in RUN (R163). -/
def Obligations.TripOutputInvariant : Prop :=
  ∀ s t : State, OutputsOk s → step s = .next t → OutputsOk t

/-- Every step keeps the transmit queue at one entry for each subject, in order of class, and so at 8 entries at most
(R69). -/
def Obligations.TransmitQueueInvariant : Prop :=
  (∀ s t : State, QueueOk s.link.queue → step s = .next t → QueueOk t.link.queue) ∧
  (∀ q : List QueueEntry, QueueOk q → q.length ≤ 8)

/-- Every step keeps the sizes of the tables: rings, slots, conflict list, trip list (R33, R97, R105, R167). -/
def Obligations.TableSizeInvariant : Prop :=
  ∀ s t : State, TablesOk s → step s = .next t → TablesOk t

/-- Every step keeps the Claim Register's keys distinct, its heard records at 8 at most, and its own records exactly those
under the station's id (R137); and keeps the pair list the corroborating pairs, each with its effective span, the corroborated
marks those of the records in a pair, and the map agreement flags true to the latest located boundaries, where the keys are in
order (R151 to R153; that two records of one claimant may pair is the model's choice, log 38). -/
def Obligations.ClaimRegisterInvariant : Prop :=
  (∀ s t : State, RegisterOk s → step s = .next t → RegisterOk t) ∧
  (∀ s t : State, RegisterOk s → PairsOk s → step s = .next t → PairsOk t)

/-- Every step keeps P within 15,000 to 22,500 ticks (section 1.1, R3, R7). -/
def Obligations.PeriodInvariant : Prop :=
  ∀ s t : State, PeriodOk s.tracker → step s = .next t → PeriodOk t.tracker

/-- Every step keeps posture and receiver-enable as their rules give them (R57, R67). -/
def Obligations.PostureInvariant : Prop :=
  ∀ s t : State, PostureOk s → step s = .next t → PostureOk t

/-! ## Resets and run states -/

/-- A power-on reset, from any state, leaves the state of `State.reset` but for the levels at the input pins, the reset pin
and the model's own two fields; the timebase returns to 0 by the model's choice (log 4). -/
def Obligations.PowerOnResetClearsEverything : Prop :=
  ∀ s : State, exec .powerOnReset s = .next { State.reset with
    resetHeld := s.resetHeld, penPin := s.penPin, openPin0 := s.openPin0, openPin1 := s.openPin1, busyPin := s.busyPin,
    linkage := { State.reset.linkage with pen := s.penPin, open0 := s.openPin0, open1 := s.openPin1 },
    choices := s.choices, pending := s.pending }

/-- The reset pin's two edges and the RESET command keep the image, start P from its line frequency and the reference phase
and epoch length from its items, leave the timebase running (the model's choice, log 4), and put everything else where a
power-on reset does. That the blocks hold their reset values, with the part in CONFIG, from the pin's assertion on and not only
from its deassertion is the model's choice too (log 23). What RESET has shifted out is the reply of the command before it, or
BUSY (log 15). -/
def Obligations.RetainedResetsKeepTheImage : Prop :=
  ∀ s : State,
    let image := s.port.image
    let base : State := { State.reset with
      timebase := s.timebase, penPin := s.penPin, openPin0 := s.openPin0, openPin1 := s.openPin1, busyPin := s.busyPin,
      tracker := { State.reset.tracker with
        period := if image.hz60 then 16667 else 20000, ref := image.preferred, epochLength := image.n },
      linkage := { State.reset.linkage with pen := s.penPin, open0 := s.openPin0, open1 := s.openPin1 },
      port := { State.reset.port with image := image },
      choices := s.choices, pending := s.pending }
    exec .resetPin s = .next { base with resetHeld := false } ∧
    exec .resetPinAsserted s = .next { base with resetHeld := true } ∧
    (s.resetHeld = false → exec .reset s = .next { base with
      resetHeld := false
      port := { base.port with shifted := some (if s.port.busy then ⟨.busy, .nothing⟩ else s.port.reply) } })

/-- While the reset pin is held, every command but the power-on reset and the pin's own two edges is ignored: only the levels
at the input pins may change. -/
def Obligations.HeldResetPinIgnoresCommands : Prop :=
  ∀ (c : Instr) (s : State), s.resetHeld = true → c ≠ .powerOnReset → c ≠ .resetPin → c ≠ .resetPinAsserted →
    ∃ t, exec c s = .next t ∧
      t = { s with penPin := t.penPin, openPin0 := t.openPin0, openPin1 := t.openPin1, busyPin := t.busyPin } ∧
      (∀ level, c = .penChange level → t.penPin = level) ∧ ((∀ level, c ≠ .penChange level) → t.penPin = s.penPin)

/-- In CONFIG nothing is received, transmitted, captured or issued: every event of the blocks leaves them as they stand, and
only the input levels and the Linkage's copies of PEN, OPEN0 and OPEN1 may change. -/
def Obligations.ConfigTakesNoEvents : Prop :=
  ∀ (c : Instr) (s : State), s.run = .config → s.resetHeld = false → ¬ isPortCommand c → ¬ isReset c →
    ∃ t, exec c s = .next t ∧ t = { s with
      penPin := t.penPin, openPin0 := t.openPin0, openPin1 := t.openPin1, busyPin := t.busyPin
      linkage := { s.linkage with pen := t.linkage.pen, open0 := t.linkage.open0, open1 := t.linkage.open1 } }

/-- The image changes only by a power-on reset, or by a LOAD_CONFIG in CONFIG, which stores the clamped image. -/
def Obligations.ImageIsLockedOutsideConfig : Prop :=
  ∀ (c : Instr) (s t : State), exec c s = .next t → t.port.image = s.port.image ∨ c = .powerOnReset ∨
    ∃ r, c = .loadConfig r ∧ s.run = .config ∧ t.port.image = storeImage r

/-- RUN is left only by a reset, LISTEN is entered only at the START instant, and CONFIG is left only there. -/
def Obligations.RunStatesChangeOnlyAsStated : Prop :=
  ∀ (c : Instr) (s t : State), exec c s = .next t →
    (s.run = .run → t.run = .run ∨ isReset c) ∧
    (s.run = .listen → t.run ≠ .config ∨ isReset c) ∧
    (t.run = .listen → s.run = .listen ∨ (c = .startValidationEnd ∧ s.run = .config)) ∧
    (s.run = .config → t.run ≠ .config → c = .startValidationEnd ∧ t.run = .listen)

/-! ## The station port -/

/-- The read commands and a transaction that forms no command change nothing but the two replies, and reply with copies:
GET_STATUS the groups of R180, each item read where it stands, the marks and timers those of the image's linkage entries;
GET_RECORD k the ring's record k, EMPTY where there is none, GET_PEER k the entry of slot k with its adjacency, and BAD_INDEX
above 15. -/
def Obligations.ReadCommandsReplyWithCopies : Prop :=
  ∀ s : State, s.resetHeld = false → s.port.busy = false →
    (let trip := fun r : TripRecord => (⟨r.state, r.entry, r.timer, r.zone, r.span⟩ : TripStatus)
     let timer := fun b : BackupTimer => (match b with
       | .off => .off
       | .running count c => .running count c.key c.partner
       | .expired c => .expired c.key c.partner : TimerStatus)
     exec .getStatus s = .next (afterTransaction s ⟨.ok, .status {
       run := s.run, busy := false, eventCount := s.port.events.length
       assessment := s.detector.assessment, vigilant := s.link.vigilant, mode := s.tracker.mode, ref := s.tracker.ref
       stalled := s.sampling.stalled
       timeline := {
         source := s.timeline.source, sourceError := s.timeline.sourceError
         jumpTarget := s.timeline.jumpPending.map PendingJump.target, join := s.timeline.join
         listenCount := s.timeline.listenCount, slewGuard := s.timeline.slewGuard, deferred := s.timeline.deferred }
       drops := s.link.drops, reportsMissed := s.link.reportsMissed, alertsExpired := s.link.alertsExpired
       refusals := s.peers.refusals
       trip0 := trip s.linkage.trip0, trip1 := trip s.linkage.trip1
       entries := (s.linkage.entries.take s.port.image.entries.length).map
         (fun x => ⟨x.spent, x.wouldTrip, timer x.timer⟩)
       trips := s.linkage.trips, pen := s.linkage.pen, open0 := s.linkage.open0, open1 := s.linkage.open1
       fault := {
         impaired := s.fault.impaired, jammed := s.fault.jammed, xcvrFault := s.fault.xcvrFault, silent := s.fault.silent
         busyEpochs := s.fault.busyEpochs, timeouts := s.fault.timeouts, silence := s.fault.silence } }⟩)) ∧
    exec .getClaims s = .next (afterTransaction s ⟨.ok, .claims s.register.records s.register.pairs⟩) ∧
    exec .getMap s = .next (afterTransaction s ⟨.ok, .map ⟨s.assessor,
      s.peers.adjacentUp.map (fun k => (peerAt s k).id), s.peers.adjacentDown.map (fun k => (peerAt s k).id)⟩⟩) ∧
    exec .badCommand s = .next (afterTransaction s ⟨.badCommand, .nothing⟩) ∧
    (∀ k : Byte, 15 < k.toNat →
      exec (.getRecord k) s = .next (afterTransaction s ⟨.badIndex, .nothing⟩) ∧
      exec (.getPeer k) s = .next (afterTransaction s ⟨.badIndex, .nothing⟩)) ∧
    (∀ k : Byte, k.toNat ≤ 15 →
      (∀ r, s.engine.ring[k.toNat]? = some r →
        exec (.getRecord k) s = .next (afterTransaction s ⟨.ok, .record r⟩)) ∧
      (s.engine.ring[k.toNat]? = none → exec (.getRecord k) s = .next (afterTransaction s ⟨.empty, .nothing⟩)) ∧
      ((peerAt s k.toNat).state = .free → exec (.getPeer k) s = .next (afterTransaction s ⟨.ok, .freePeer⟩)) ∧
      ((peerAt s k.toNat).state ≠ .free → exec (.getPeer k) s = .next (afterTransaction s
        ⟨.ok, .peer (peerAt s k.toNat)
          (s.peers.adjacentUp = some k.toNat || s.peers.adjacentDown = some k.toNat)⟩)))

/-- While START validates, no command but RESET is taken: every transaction shifts out BUSY alone and changes nothing
else (R179). -/
def Obligations.BusyRefusesCommands : Prop :=
  ∀ (c : Instr) (s : State), s.resetHeld = false → s.port.busy = true → isPortCommand c → c ≠ .reset →
    c ≠ .startValidationEnd →
    exec c s = .next { s with port := { s.port with shifted := some ⟨.busy, .nothing⟩ } }

/-- POP_EVENT removes and returns the oldest record, in any run state, and answers EMPTY on an empty queue, changing nothing.
The attention line is asserted while the queue holds a record and deasserted while it is empty: an admission leaves it
asserted, a full queue's discard too, and every reset empties the queue and deasserts it. -/
def Obligations.PopEventTakesTheOldest : Prop :=
  (∀ s : State, s.resetHeld = false → s.port.busy = false →
    (∀ (e : Event) (es : List Event), s.port.events = e :: es →
      exec .popEvent s = .next { s with port := { s.port with
        shifted := some s.port.reply, reply := ⟨.ok, .event e⟩, events := es, attention := decide (es ≠ []) } }) ∧
    (s.port.events = [] → exec .popEvent s = .next (afterTransaction s ⟨.empty, .nothing⟩))) ∧
  (∀ s t : State, EventsOk s.port → step s = .next t → (t.port.attention = true ↔ t.port.events ≠ [])) ∧
  (∀ (s : State) (kind : EventKind) (subject : EventSubject) (span : Option Span) (detail : Detail),
    (record s kind subject span detail).port.attention = true ∧ (record s kind subject span detail).port.events ≠ []) ∧
  (∀ (c : Instr) (s : State), isReset c → (c = .reset → s.resetHeld = false) →
    ∃ t, exec c s = .next t ∧ t.port.events = [] ∧ t.port.attention = false)

/-- LOAD_CONFIG in CONFIG stores the image with the clamped items in range, the kept items as loaded, and each linkage entry from
the loaded one of its index, replies OK naming exactly the items whose stored value differs from the loaded one, and changes
nothing else; elsewhere it is refused with BAD_STATE. (The operand's form, and entries it leaves out, by the model's choice, log
16.) -/
def Obligations.LoadConfigStoresTheClampedImage : Prop :=
  ∀ (r : RawImage) (s : State), s.resetHeld = false → s.port.busy = false →
    (s.run ≠ .config → exec (.loadConfig r) s = .next (afterTransaction s ⟨.badState, .nothing⟩)) ∧
    (s.run = .config → ∃ (m : Image) (items : List ClampedItem),
      exec (.loadConfig r) s = .next { s with port := { s.port with
        image := m, shifted := some s.port.reply, reply := ⟨.ok, .clamped items⟩ } } ∧
      (∀ i, i ∈ items ↔ NamedItemChanged r i) ∧
      m.stationId = r.stationId ∧ m.segment = r.segment ∧ m.n = r.n ∧ m.w = r.w ∧
      (m.hz60 = true ↔ r.frequency = 60) ∧ m.preferred.number = max 1 (min r.preferredPhase 3) ∧
      m.position = min r.position 4095 ∧
      m.vlive = max 1 (min r.vlive 8191) ∧ m.vdead = max 1 (min r.vdead 8191) ∧
      m.vrefFloor = max 1 (min r.vrefFloor 8191) ∧ m.istep = max 1 (min r.istep 8191) ∧
      m.idrop = max 1 (min r.idrop 8191) ∧ m.irregMin = max 1 (min r.irregMin 8191) ∧
      m.rground = max 1 (min r.rground 24575) ∧ m.rstep = max 1 (min r.rstep 24575) ∧
      m.vloss = max 1 (min r.vloss 255) ∧ m.rsplit = max 1 (min r.rsplit 255) ∧
      m.k = max 2 (min r.k 8) ∧ m.repeats = min r.repeats 3 ∧ m.settleCount = max 4 (min r.settleCount 32) ∧
      m.confirmTimeout = max 3 (min r.confirmTimeout 60) ∧
      m.entries.length = min r.entryCount 8 ∧
      (∀ k e, m.entries[k]? = some e → EntryStored (loadedEntry r k) e))

/-- START in CONFIG makes the command state BUSY and begins the validation, its transaction shifting out the reply made
before it (R178); in LISTEN and RUN it is refused with BAD_STATE and nothing changes. That the buffer holds BUSY while the
validation runs is the model's choice (log 15), and the tick the validation begins at is a field of the model's own (log 18). -/
def Obligations.StartBeginsValidation : Prop :=
  ∀ s : State, s.resetHeld = false → s.port.busy = false →
    (s.run ≠ .config → exec .start s = .next (afterTransaction s ⟨.badState, .nothing⟩)) ∧
    (s.run = .config → exec .start s = .next { s with port := { s.port with
      shifted := some s.port.reply, reply := ⟨.busy, .nothing⟩, busy := true, validationStart := s.timebase } })

/-- The validation ends with the first failed check: CONFIG_INVALID with its code and entry, the part left in CONFIG with
the image unchanged; or, when every check passes, in the START instant. -/
def Obligations.ValidationFindsTheFirstFailure : Prop :=
  ∀ s : State, s.resetHeld = false → s.port.busy = true → s.run = .config →
    (∀ (code : Nat) (entry : Option Nat), firstFailure s.port.image (some (code, entry)) →
      exec .startValidationEnd s = .next { s with port := { s.port with
        busy := false, reply := ⟨.configInvalid, .check code entry⟩ } }) ∧
    (firstFailure s.port.image none → ∃ t, exec .startValidationEnd s = .next t ∧
      t.run = .listen ∧ t.port.busy = false ∧ t.port.reply = ⟨.ok, .runState .listen⟩)

/-- The START instant: epoch 0, the first boundary now and the next one P later, SEEKING on the preferred phase, strobe 0
issued with interval floor(P/32), the LFSR seeded with the station id, the report window open, the receiver on, and the
blocks that START leaves as they stand. -/
def Obligations.StartInstantTakesUpTheImage : Prop :=
  ∀ s : State, s.resetHeld = false → s.port.busy = true → s.run = .config → failedCheck s.port.image = none →
    ∃ t, exec .startValidationEnd s = .next t ∧
      (let p := if s.port.image.hz60 then 16667 else 20000
       t.tracker.mode = .seeking ∧ t.tracker.period = p ∧ t.tracker.ref = s.port.image.preferred ∧
       t.tracker.epoch = 0 ∧ t.tracker.cycleIndex = 0 ∧ t.tracker.epochLength = s.port.image.n ∧
       t.tracker.anchor = some s.timebase ∧ t.tracker.next = some (s.timebase + BitVec.ofNat 32 p) ∧
       t.sampling.strobe = some 0 ∧ t.sampling.interval = p / 32) ∧
      t.link.lfsr = BitVec.ofNat 16 s.port.image.stationId ∧ t.link.windowOpen = true ∧ t.link.receiverEnable = true ∧
      t.detector = s.detector ∧ t.timeline = s.timeline ∧ t.peers = s.peers ∧ t.assessor = s.assessor ∧
      t.register = s.register ∧ t.fault = s.fault ∧ t.linkage.entries = s.linkage.entries ∧
      t.linkage.pen = s.penPin ∧ t.linkage.open0 = s.openPin0 ∧ t.linkage.open1 = s.openPin1 ∧
      t.port.image = s.port.image ∧ t.port.events = s.port.events ∧ t.timebase = s.timebase


/-! ## Cycle Tracker -/

/-- An edge that arrives before its input's blanking end, and in LOCKED a reference edge that no awaited window takes, leave
the tracker as it stands, the link doing only what it does of itself (the edge at the very blanking end is captured by the
model's choice, log 12). -/
def Obligations.BlankedAndStrayEdgesAreDiscarded : Prop :=
  ∀ (φ : Phase) (at_ : Tick) (s : State), s.working = true → closeWindows at_ s.tracker = s.tracker →
    ((∃ b, s.tracker.blankEnd.get φ = some b ∧ tickDiff at_ b < 0) ∨
      (s.tracker.mode = .locked ∧ φ = s.tracker.ref ∧ ∃ offset, s.tracker.offset = some offset ∧
        (s.tracker.windowNow = .awaiting → ∀ a, s.tracker.anchor = some a →
          (s.tracker.period / 16 : Nat) < (tickDiff at_ a - offset).natAbs) ∧
        (s.tracker.windowNext = .awaiting → ∀ b, s.tracker.next = some b →
          (s.tracker.period / 16 : Nat) < (tickDiff at_ b - offset).natAbs))) →
    ∃ t, exec (.crossingEdge φ at_) s = .next t ∧ t.tracker = s.tracker ∧
      t = { s with timebase := t.timebase, link := t.link,
                   engine := { s.engine with cycleModes := t.engine.cycleModes } } ∧ LinkSettled s.link t

/-- An edge on a non-reference input in SEEKING or LOCKED, not blanked, is accepted: its miss counter becomes 0 and its
blanking ends floor(P/4) after it; P, the boundaries and the reference stand. (That the edge at the very blanking end is not
blanked is the model's choice, log 12.) -/
def Obligations.NonReferenceEdgeIsAccepted : Prop :=
  ∀ (φ : Phase) (at_ : Tick) (s : State), s.working = true → s.tracker.mode ≠ .holdover → φ ≠ s.tracker.ref →
    closeWindows at_ s.tracker = s.tracker →
    (∀ b, s.tracker.blankEnd.get φ = some b → 0 ≤ tickDiff at_ b) →
    ∃ t, exec (.crossingEdge φ at_) s = .next t ∧
      t.tracker = { s.tracker with
        miss := s.tracker.miss.set φ 0
        crossed := s.tracker.crossed.set φ true
        blankEnd := s.tracker.blankEnd.set φ (some (at_ + BitVec.ofNat 32 (s.tracker.period / 4))) } ∧
      t = { s with timebase := t.timebase, tracker := t.tracker, link := t.link,
                   engine := { s.engine with cycleModes := t.engine.cycleModes } } ∧ LinkSettled s.link t

/-- A seek crossing is accepted and resets the next boundary to the capture plus P; a measured period in window moves P by an
eighth of the difference and raises the acceptance count, any other sets the count to 1, and at the count of 4 the tracker
enters LOCKED with offset 0, its anchor being that next boundary (read by `currentAnchor`, the model's form of the anchor, log
10). The last boundary to fall stands. (That the edge at the very blanking end is captured is the model's choice, log 12.) -/
def Obligations.SeekCrossingMovesThePeriod : Prop :=
  ∀ (at_ : Tick) (s : State), s.working = true → s.tracker.mode = .seeking →
    (∀ b, s.tracker.blankEnd.get s.tracker.ref = some b → 0 ≤ tickDiff at_ b) →
    ∃ t, exec (.crossingEdge s.tracker.ref at_) s = .next t ∧
      t.tracker.miss.get s.tracker.ref = 0 ∧
      t.tracker.lastRef = some ⟨at_, true⟩ ∧
      t.tracker.next = some (at_ + BitVec.ofNat 32 t.tracker.period) ∧
      t.tracker.anchor = s.tracker.anchor ∧
      (s.tracker.lastRef = none → t.tracker.period = s.tracker.period ∧ t.tracker.accepts = 1) ∧
      (∀ c, s.tracker.lastRef = some c →
        let m := tickDiff at_ c.tick
        (15000 ≤ m ∧ m ≤ 22500 ∧ (m - s.tracker.period).natAbs ≤ s.tracker.period / 64 →
          (t.tracker.period : Int) = ((s.tracker.period : Int) + (m - s.tracker.period).tdiv 8).toNat ∧
          t.tracker.accepts = min 4 (s.tracker.accepts + 1)) ∧
        (¬ (15000 ≤ m ∧ m ≤ 22500 ∧ (m - s.tracker.period).natAbs ≤ s.tracker.period / 64) →
          t.tracker.period = s.tracker.period ∧ t.tracker.accepts = 1)) ∧
      (t.tracker.accepts = 4 → t.tracker.mode = .locked ∧ t.tracker.offset = some 0 ∧
        currentAnchor t.tracker = t.tracker.next) ∧
      (t.tracker.accepts ≠ 4 → t.tracker.mode = .seeking) ∧
      t.sampling = s.sampling ∧ t.detector = s.detector ∧ t.timeline = s.timeline ∧ t.peers = s.peers ∧
      t.assessor = s.assessor ∧ t.register = s.register ∧ t.linkage = s.linkage ∧ t.fault = s.fault ∧ t.port = s.port ∧
      LinkSettled s.link t

/-- In LOCKED a reference edge inside an awaited window is accepted with its phase error e. In the window of the fallen anchor
the next boundary becomes the anchor plus P plus a quarter of e; in the window of the coming one a quarter of e becomes the
pending correction and the next boundary stands. P moves by an eighth of the measured period's difference where the last
capture was accepted and the period is in window. With the offset UNLEARNED, the first captured reference edge fixes it
against the nearer anchor and is accepted with e = 0: P and the next boundary stand. (That the edge at the very blanking end
is captured, and that the anchor before lies one P before, are the model's readings, logs 12 and 11.) -/
def Obligations.LockedCrossingCorrectsTheBoundary : Prop :=
  (∀ (at_ anchor next : Tick) (offset : Int) (s : State), s.working = true → s.tracker.mode = .locked →
    s.tracker.offset = some offset → s.tracker.anchor = some anchor → s.tracker.next = some next →
    closeWindows at_ s.tracker = s.tracker →
    (∀ b, s.tracker.blankEnd.get s.tracker.ref = some b → 0 ≤ tickDiff at_ b) →
    (let early := s.tracker.windowNow = .awaiting ∧ (tickDiff at_ anchor - offset).natAbs ≤ s.tracker.period / 16
     let late := s.tracker.windowNext = .awaiting ∧ (tickDiff at_ next - offset).natAbs ≤ s.tracker.period / 16
     early ∨ late → ∃ t, exec (.crossingEdge s.tracker.ref at_) s = .next t ∧
      t.tracker.miss.get s.tracker.ref = 0 ∧ t.tracker.lastRef = some ⟨at_, true⟩ ∧ t.tracker.anchor = some anchor ∧
      (early → t.tracker.windowNow = .accepted ∧ t.tracker.windowNext = s.tracker.windowNext ∧
        t.tracker.next = some (anchor + BitVec.ofInt 32 (t.tracker.period + (tickDiff at_ anchor - offset).tdiv 4)) ∧
        t.tracker.correction = s.tracker.correction) ∧
      (¬ early → t.tracker.windowNext = .accepted ∧ t.tracker.windowNow = s.tracker.windowNow ∧
        t.tracker.next = some next ∧ t.tracker.correction = (tickDiff at_ next - offset).tdiv 4) ∧
      PeriodFollows s.tracker at_ t.tracker.period ∧
      t.tracker.mode = .locked ∧ t.tracker.offset = some offset ∧ t.tracker.ref = s.tracker.ref ∧
      t.tracker.epoch = s.tracker.epoch ∧ t.tracker.cycleIndex = s.tracker.cycleIndex)) ∧
  (∀ (at_ anchor next : Tick) (s : State), s.working = true → s.tracker.mode = .locked → s.tracker.offset = none →
    s.tracker.anchor = some anchor → s.tracker.next = some next →
    (∀ b, s.tracker.blankEnd.get s.tracker.ref = some b → 0 ≤ tickDiff at_ b) →
    ∃ t, exec (.crossingEdge s.tracker.ref at_) s = .next t ∧
      (let d := tickDiff at_ anchor
       let half := s.tracker.period / 2
       (d.natAbs ≤ half → t.tracker.offset = some d) ∧
       (half < d.natAbs → 0 < d → t.tracker.offset = some (tickDiff at_ next)) ∧
       (half < d.natAbs → d < 0 → t.tracker.offset = some (d + s.tracker.period))) ∧
      t.tracker = { s.tracker with
        offset := t.tracker.offset, windowNow := t.tracker.windowNow, windowNext := t.tracker.windowNext
        miss := s.tracker.miss.set s.tracker.ref 0
        crossed := s.tracker.crossed.set s.tracker.ref true
        blankEnd := s.tracker.blankEnd.set s.tracker.ref (some (at_ + BitVec.ofNat 32 (s.tracker.period / 4)))
        lastRef := some ⟨at_, true⟩ } ∧
      t = { s with timebase := t.timebase, tracker := t.tracker, link := t.link,
                   engine := { s.engine with cycleModes := t.engine.cycleModes } } ∧ LinkSettled s.link t)

/-- In HOLDOVER the first accepted crossing of a phase that is healthy makes it the reference and returns the tracker to
LOCKED, with HOLDOVER_EXIT recorded and the offset learned as the capture less the nearer anchor: the fallen one within
floor(P/2), else the next boundary after it or the boundary one P before it (that the anchor before lies one P before is the
model's reading, log 11); a crossing of any other phase only zeroes its miss counter. (That the edge at the very blanking end is
captured is the model's choice, log 12.) -/
def Obligations.HoldoverEndsAtAHealthyPhase : Prop :=
  ∀ (φ : Phase) (at_ : Tick) (s : State), s.working = true → s.tracker.mode = .holdover →
    (∀ b, s.tracker.blankEnd.get φ = some b → 0 ≤ tickDiff at_ b) →
    ∃ t, exec (.crossingEdge φ at_) s = .next t ∧ t.tracker.miss.get φ = 0 ∧
      t.tracker.period = s.tracker.period ∧ t.tracker.anchor = s.tracker.anchor ∧ t.tracker.next = s.tracker.next ∧
      ((4 ≤ s.tracker.validAge ∨ s.port.image.vrefFloor ≤ s.tracker.health.get φ) →
        t.tracker.mode = .locked ∧ t.tracker.ref = φ ∧
        t.port = (record s .holdoverExit .absent none (.phase φ)).port ∧
        (∀ anchor, s.tracker.anchor = some anchor → ∀ next, s.tracker.next = some next →
          (let d := tickDiff at_ anchor
           (d.natAbs ≤ s.tracker.period / 2 → t.tracker.offset = some d) ∧
           (s.tracker.period / 2 < d.natAbs → 0 < d → t.tracker.offset = some (tickDiff at_ next)) ∧
           (s.tracker.period / 2 < d.natAbs → d < 0 → t.tracker.offset = some (d + s.tracker.period))))) ∧
      (s.tracker.validAge < 4 → s.tracker.health.get φ < s.port.image.vrefFloor →
        t.tracker.mode = .holdover ∧ t.tracker.ref = s.tracker.ref ∧ t.port = s.port)

/-- The window of an anchor passing without its crossing raises the reference's miss counter, saturating at 3, marks the last
capture not accepted, and changes nothing else but the timebase, the link doing only what it does of itself: the fallen
anchor's window while it is awaited, else the coming anchor's where it closes before that boundary falls (the two windows by
the model's form of the anchor, log 10). And the evaluations of a boundary: the health inputs follow the ended cycle; the
other miss counters count; in SEEKING a counter at 3 passes the reference on; in LOCKED one at 3, or an unhealthy reference,
abandons it to the first healthy phase, or to HOLDOVER; and a preferred phase healthy at eight boundaries takes the reference
back. The event of each change is the last of a boundary that brings nothing after it. -/
def Obligations.ReferenceMissCounts : Prop :=
  (∀ (offset : Int) (anchor next : Tick) (s : State), s.working = true → s.tracker.mode = .locked →
    s.tracker.offset = some offset → s.tracker.anchor = some anchor → s.tracker.next = some next →
    s.tracker.miss.get s.tracker.ref ≤ 3 →
    (let missed : Tracker := { s.tracker with
       miss := s.tracker.miss.set s.tracker.ref (min 3 (s.tracker.miss.get s.tracker.ref + 1))
       lastRef := s.tracker.lastRef.map (fun c => { c with accepted := false }) }
     (s.tracker.windowNow = .awaiting →
       tickDiff (windowEnd s.tracker offset anchor + 1) (windowEnd s.tracker offset next) ≤ 0 →
       ∃ t, exec .referenceMiss s = .next t ∧ t.tracker = { missed with windowNow := .passed } ∧
         t = { s with timebase := t.timebase, tracker := t.tracker, link := t.link } ∧ LinkSettled s.link t) ∧
     (s.tracker.windowNow ≠ .awaiting → s.tracker.windowNext = .awaiting →
       offset + (s.tracker.period / 16 : Nat) < 0 →
       ∃ t, exec .referenceMiss s = .next t ∧ t.tracker = { missed with windowNext := .passed } ∧
         t = { s with timebase := t.timebase, tracker := t.tracker, link := t.link } ∧ LinkSettled s.link t))) ∧
  (∀ s : State, s.working = true → (∀ b, s.tracker.next = some b → closeWindows b s.tracker = s.tracker) →
    ∃ t, exec .cycleBoundary s = .next t ∧
      (let k := s.tracker
       let preferred := s.port.image.preferred
       let settled := patchStrobe s
       let valid := settled.sampling.patched < 4 ∧ settled.sampling.stallSeen = false
       let misses := missesAtBoundary k
       let healthy := fun φ => (t.tracker.validAge < 4 ∧ s.port.image.vrefFloor ≤ t.tracker.health.get φ) ∨
         (4 ≤ t.tracker.validAge ∧ misses φ ≤ 1)
       let other := fun φ => φ ≠ k.ref ∧ healthy φ
       let abandoned := misses k.ref = 3 ∨ ¬ healthy k.ref
       let counted := ∀ φ, t.tracker.miss.get φ = misses φ
       let passesTo := fun φ => t.tracker.ref = φ ∧ φ ≠ k.ref ∧ t.tracker.lastRef = none ∧
         ∀ ψ, t.tracker.miss.get ψ = if ψ = φ then 0 else misses ψ
       let records := fun kind φ => s.tracker.jump = none → k.cycleCount + 1 < k.epochLength →
         s.link.windowOpen = false → s.link.sending = false →
         ∃ e, t.port.events.getLast? = some e ∧ e.kind = kind ∧ e.detail = .phase φ
       (valid → t.tracker.validAge = 0 ∧
         ∀ φ, t.tracker.health.get φ = isqrt (settled.engine.acc.v.get φ / 32)) ∧
       (¬ valid → t.tracker.validAge = min 4 (k.validAge + 1) ∧ t.tracker.health = k.health) ∧
       (k.mode = .seeking → t.tracker.mode = .seeking ∧
         (misses k.ref ≠ 3 → t.tracker.ref = k.ref ∧ t.tracker.accepts = k.accepts ∧ counted) ∧
         (misses k.ref = 3 → t.tracker.accepts = 0 ∧ ∃ φ, passesTo φ ∧ records .refPhaseSwitch φ ∧
           ((healthy φ ∧ ∀ ψ, other ψ → placesAfter preferred k.ref φ ≤ placesAfter preferred k.ref ψ) ∨
             ((∀ ψ, ¬ other ψ) ∧ placesAfter preferred k.ref φ = 1)))) ∧
       (k.mode = .locked → abandoned →
         (∀ φ, other φ → (∀ ψ, other ψ → rank preferred φ ≤ rank preferred ψ) →
           t.tracker.mode = .locked ∧ t.tracker.offset = none ∧ t.tracker.preferredRun = 0 ∧ passesTo φ ∧
           records .refPhaseSwitch φ) ∧
         ((∀ ψ, ¬ other ψ) → t.tracker.mode = .holdover ∧ t.tracker.ref = k.ref ∧ t.tracker.preferredRun = 0 ∧
           counted ∧ records .holdoverEnter k.ref)) ∧
       (k.mode = .locked → ¬ abandoned → t.tracker.mode = .locked ∧ counted ∧
         (k.ref ≠ preferred → healthy preferred → 8 ≤ k.preferredRun + 1 →
           t.tracker.ref = preferred ∧ t.tracker.offset = none ∧ t.tracker.preferredRun = 0 ∧
           records .refPhaseSwitch preferred) ∧
         (k.ref = preferred ∨ ¬ healthy preferred ∨ k.preferredRun + 1 < 8 →
           t.tracker.ref = k.ref ∧ t.tracker.offset = k.offset ∧
           t.tracker.preferredRun = if k.ref ≠ preferred ∧ healthy preferred then k.preferredRun + 1 else 0)) ∧
       (k.mode = .holdover → t.tracker.mode = .holdover ∧ t.tracker.ref = k.ref ∧ counted)))

/-- At a cycle boundary the awaited boundary becomes the anchor, the next one is set provisionally to it plus P plus the
pending correction, which returns to 0, or to it plus P where the boundary switches the reference of a LOCKED tracker or loses
it, strobe 0 is issued with the interval floor(P/32) of P as it stood, and the epoch counter moves: on within the epoch, to
the next epoch at the epoch's length, or to the target of a pending jump. And what a boundary counts, with no linkage entry
and the report window closed: an ASSERTED output's confirm timer at every boundary, to its failure at the timeout; at one that
begins an own epoch the vigilance hold, the silences and probation ages of peers, and the standing, refresh and frame ages of
claims, each with its end; at one that ends an epoch the LISTEN count too, the window's opening with every series due, and in
RUN the REPORT of the epoch's record in the queue; within an epoch none of these, and peers and register stand unless the boundary's
strobe, which counts the completion timer, completes the last frame of a series, whose owner is then told (R72). A BACKUP entry's
timer that runs on a heard claim counts the boundaries that begin an own epoch while the claim stands. (That the refresh age of a
heard record and the frame age of an own one stand is the model's choice, log 50.) -/
def Obligations.BoundaryMovesTheEpochCounter : Prop :=
  (∀ s : State, s.working = true →
    ∃ t, exec .cycleBoundary s = .next t ∧
      t.tracker.anchor = s.tracker.next ∧ t.tracker.period = s.tracker.period ∧ t.tracker.correction = 0 ∧
      (∀ b, s.tracker.next = some b →
        (let switched := s.tracker.mode = .locked ∧ (t.tracker.ref ≠ s.tracker.ref ∨ t.tracker.mode ≠ .locked)
         (switched → t.tracker.next = some (b + BitVec.ofInt 32 s.tracker.period)) ∧
         (¬ switched → t.tracker.next = some (b + BitVec.ofInt 32 (s.tracker.period + s.tracker.correction))))) ∧
      t.sampling.strobe = some 0 ∧ t.sampling.hasSet = false ∧ t.sampling.patched = 0 ∧
      t.sampling.interval = s.tracker.period / 32 ∧
      (s.tracker.jump = none → s.tracker.cycleCount + 1 < s.tracker.epochLength →
        t.tracker.epoch = s.tracker.epoch ∧ t.tracker.cycleCount = s.tracker.cycleCount + 1 ∧
        t.tracker.cycleIndex = (if s.tracker.epochLength = s.port.image.n + 1 ∧
          s.tracker.cycleIndex = s.port.image.n - 1 then s.tracker.cycleIndex else s.tracker.cycleIndex + 1) ∧
        t.tracker.epochLength = s.tracker.epochLength ∧ t.tracker.slew = s.tracker.slew) ∧
      (s.tracker.jump = none → s.tracker.epochLength ≤ s.tracker.cycleCount + 1 →
        t.tracker.epoch = s.tracker.epoch + 1 ∧ t.tracker.cycleCount = 0 ∧ t.tracker.cycleIndex = 0 ∧
        t.tracker.slew = .noSlew ∧
        t.tracker.epochLength = (match s.tracker.slew with
          | .noSlew => s.port.image.n | .shorten => s.port.image.n - 1 | .lengthen => s.port.image.n + 1)) ∧
      (∀ target, s.tracker.jump = some target →
        t.tracker.epoch = target.epoch ∧ t.tracker.cycleCount = target.cycle ∧ t.tracker.cycleIndex = target.cycle ∧
        t.tracker.epochLength = s.port.image.n ∧ t.tracker.slew = .noSlew ∧ t.tracker.jump = none) ∧
      t.port.image = s.port.image) ∧
  (∀ s : State, s.working = true → s.port.image.entries = [] → s.link.windowOpen = false →
    ∃ t, exec .cycleBoundary s = .next t ∧
      (∀ o, (s.linkage.trip o).state = .asserted →
        (let timer := (s.linkage.trip o).timer + 1
         (timer < s.port.image.confirmTimeout → t.linkage.trip o = { s.linkage.trip o with timer := timer }) ∧
         (s.port.image.confirmTimeout ≤ timer →
           t.linkage.trip o = { s.linkage.trip o with state := .failed, timer := timer, driven := false } ∨
           t.linkage.trip o = ⟨.idle, none, 0, none, none, false⟩))) ∧
      (s.tracker.jump = none → s.tracker.epochLength ≤ s.tracker.cycleCount + 1 → EpochCounts s t ∧ EpochEnds s t) ∧
      (s.tracker.jump ≠ none → EpochCounts s t ∧ t.timeline.listenCount = s.timeline.listenCount) ∧
      (s.tracker.jump = none → s.tracker.cycleCount + 1 < s.tracker.epochLength →
        t.timeline = s.timeline ∧ (t.link.sending = false → t.link.hold = s.link.hold) ∧
        (s.link.sending = false ∨ s.link.completionTimer + 1 < 64 ∨ NoSeriesCloses s →
          t.peers.entries = s.peers.entries ∧ t.register = s.register) ∧
        (s.link.sending = true → s.link.access ≠ .backoff → 64 ≤ s.link.completionTimer + 1 → FrameCompleted s t ∧
          (QueueOk s.link.queue → SeriesAdvanced s t)))) ∧
  (∀ (e : LinkageEntry) (n : Nat) (r : ClaimRecord) (x : EntryRuntime) (s : State), s.working = true → s.run = .run →
    s.port.image.entries = [e] → e.role = .backup → n + 1 < e.backupEpochs → s.link.windowOpen = false →
    s.tracker.jump ≠ none ∨ s.tracker.epochLength ≤ s.tracker.cycleCount + 1 →
    s.linkage.entries[0]? = some x → x.spent = false → x.timer = .running n ⟨r.key, none, r.span⟩ →
    (∀ o, (s.linkage.trip o).state ≠ .asserted) → s.register = ⟨[r], []⟩ → r.own = false → r.frameAge + 1 < 12 →
    e.mapCheck = false → e.requirement = .either → e.degraded ≠ .hold → SingleSatisfies s e r →
    ∃ t y, exec .cycleBoundary s = .next t ∧ t.linkage.entries[0]? = some y ∧
      y.timer = .running (n + 1) ⟨r.key, none, r.span⟩)

/-- A boundary that applies a jump empties the history ring, makes the station BLIND with no snapshot, sets every peer
UNALIGNED, clears the Timeline Unit's marks, empties map and boundaries, takes any REPORT out of the queue, opens the report
window exactly for a target index below W, and enters RUN if the jump was the join's. -/
def Obligations.JumpBoundaryClearsTheOldTimeline : Prop :=
  ∀ (target : JumpTarget) (s : State), s.working = true → s.tracker.jump = some target →
    ∃ t, exec .cycleBoundary s = .next t ∧
      t.engine.ring = [] ∧ t.engine.discard = decide (0 < target.cycle) ∧
      t.detector.assessment = .blind ∧ t.detector.snapshot = none ∧
      (∀ e ∈ t.peers.entries, e.aligned = false) ∧
      t.timeline.jumpPending = none ∧ t.timeline.slewGuard = false ∧ t.timeline.deferred = false ∧
      t.timeline.sourceError = none ∧
      t.assessor.map = none ∧ t.assessor.phaseBoundary = ⟨none, none, none⟩ ∧ t.assessor.residualBoundary = none ∧
      t.link.windowOpen = decide (target.cycle < s.port.image.w) ∧
      (∀ e ∈ t.link.queue, e.subject ≠ .report) ∧
      (s.run = .listen → s.timeline.join = .pending → t.run = .run ∧ t.timeline.join = .done)

/-! ## Sample port and Measurement Engine -/

/-- The magnitude of a mean square is the largest integer whose square does not exceed it, over every mean square a cycle can
have. -/
def Obligations.MagnitudeIsTheIntegerRoot : Prop :=
  ∀ n : Nat, n ≤ 603979776 → isqrt n * isqrt n ≤ n ∧ n < (isqrt n + 1) * (isqrt n + 1) ∧ isqrt n ≤ 24576

/-- A sample set that arrives while the most recent strobe has none becomes its set and the held set, ends STALL and enters
the accumulators; any other is discarded; the link doing only what it does of itself. -/
def Obligations.SampleSetIsTakenOrDiscarded : Prop :=
  ∀ (set : SampleSet) (s : State), s.working = true →
    ∃ t, exec (.sampleSetArrival set) s = .next t ∧
      (s.sampling.strobe.isSome = true → s.sampling.hasSet = false →
        t.sampling = { s.sampling with
          held := set, hasSet := true, missingRun := 0, stallPatches := 0, stalled := false } ∧
        t.engine = { s.engine with acc := Means.zip (· + ·) s.engine.acc (squares set) } ∧
        (s.sampling.stalled = false → t.port = s.port) ∧
        (s.sampling.stalled = true →
          t.port = (record s .sampleResume .absent none (.value s.sampling.stallPatches)).port)) ∧
      ((s.sampling.strobe = none ∨ s.sampling.hasSet = true) →
        t.sampling = s.sampling ∧ t.engine = s.engine ∧ t.port = s.port) ∧
      t = { s with sampling := t.sampling, engine := t.engine, port := t.port, link := t.link } ∧
      LinkSettled s.link t

/-- The residual sample of a set is the signed sum of its three current samples, in -24576 to 24573, whatever its voltages,
and its square enters the accumulators from an arrived and from a patched set alike. -/
def Obligations.ResidualSampleIsTheCurrentSum : Prop :=
  ∀ (set : SampleSet) (e : Engine),
    residualSample set = set.i.p1.toInt + set.i.p2.toInt + set.i.p3.toInt ∧
    -24576 ≤ residualSample set ∧ residualSample set ≤ 24573 ∧
    (∀ v, residualSample { set with v := v } = residualSample set) ∧
    ((accumulate set e).acc.r : Int) = e.acc.r + residualSample set * residualSample set ∧
    (∀ s : State, s.sampling.strobe.isSome = true → s.sampling.hasSet = false →
      (patchStrobe s).engine = accumulate s.sampling.held s.engine ∧
      (takeSampleSet set s).engine = accumulate set s.engine)

/-- A strobe after the first of its cycle: a strobe before it that has no set is patched with the held set and counted, and
the new strobe is issued without a set. The missing run at 32 puts a running sample port into STALL, with SAMPLE_STALL
recorded with detail 32. And each strobe counts the completion timer of a frame in flight, the reception timer of a reception
and a backoff that stands: a frame completes and a reception ends at 64, and a backoff that has run out hands over on an idle
channel and defers on a busy one. (No backoff runs while a frame is in flight.) -/
def Obligations.StrobeIsIssuedAndPatched : Prop :=
  (∀ (k : Nat) (s : State), s.working = true → s.sampling.strobe = some k → k < 31 →
    ∃ t, exec .sampleStrobe s = .next t ∧ t.sampling.strobe = some (k + 1) ∧ t.sampling.hasSet = false ∧
      t.sampling.held = s.sampling.held ∧
      (s.sampling.hasSet = true → t.engine = s.engine ∧ t.sampling.patched = s.sampling.patched ∧
        t.sampling.missingRun = s.sampling.missingRun) ∧
      (s.sampling.hasSet = false → s.sampling.missingRun ≤ 32 →
        t.engine = { s.engine with acc := Means.zip (· + ·) s.engine.acc (squares s.sampling.held) } ∧
        t.sampling.patched = s.sampling.patched + 1 ∧
        t.sampling.missingRun = min 32 (s.sampling.missingRun + 1) ∧
        (t.sampling.missingRun = 32 → t.sampling.stalled = true)) ∧
      t.tracker = s.tracker ∧ t.run = s.run ∧ t.timeline = s.timeline ∧ t.port.image = s.port.image ∧
      (s.link.sending = true → s.link.access ≠ .backoff → s.link.completionTimer + 1 < 64 → t.link.sending = true ∧
        t.link.inFlight = s.link.inFlight ∧ t.link.completionTimer = s.link.completionTimer + 1) ∧
      (s.link.sending = true → s.link.access ≠ .backoff → 64 ≤ s.link.completionTimer + 1 → FrameCompleted s t ∧
        t.fault.timeouts = min 3 (s.fault.timeouts + 1)) ∧
      (s.link.sending = false → t.link.completionTimer = s.link.completionTimer ∨ t.link.sending = true) ∧
      (s.link.receiving = true → 64 ≤ s.link.receptionTimer + 1 → t.link.receiving = false ∧ t.link.latch = none) ∧
      (s.link.receiving = true → s.link.receptionTimer + 1 < 64 → t.link.sending = false → t.link.receiving = true ∧
        t.link.latch = s.link.latch ∧ t.link.receptionTimer = s.link.receptionTimer + 1) ∧
      (PostureOk s → s.link.sending = false → s.link.access = .backoff → backoffStands s = true → t.link.lfsr = s.link.lfsr ∧
        (1 < s.link.backoff → t.link.access = .backoff ∧ t.link.backoff = s.link.backoff - 1 ∧
          t.link.candidate = s.link.candidate ∧ t.link.sending = false) ∧
        (s.link.backoff = 1 → s.busyPin = false →
          t.link.sending = true ∧ t.link.inFlight.map InFlight.subject = s.link.candidate) ∧
        (s.link.backoff = 1 → s.busyPin = true → t.link.sending = false ∧ t.link.access = .defer))) ∧
  (∀ s : State, s.working = true → 32 ≤ s.sampling.missingRun → s.sampling.stalled = false →
    ∃ t, exec .sampleStall s = .next t ∧
      t.sampling = { s.sampling with stalled := true, stallSeen := true } ∧
      t.port = (record s .sampleStall .absent none (.value 32)).port ∧
      t = { s with sampling := t.sampling, port := t.port, link := t.link } ∧ LinkSettled s.link t)

/-- The record of an epoch carries the reference phase and the tracker state of the epoch's last cycle, as they stood before
the evaluations of the boundary that ends it, and a REPORT carries both. Its values are the means over the epoch's valid cycles,
the last one closed at that boundary; its irregularity, valid count, INVALID, HOLDOVER, UNLOCKED and SLEWED follow from those
cycles and from the tracker; and every step keeps the engine's sums those of the cycles closed so far. -/
def Obligations.RecordShowsTheLastCyclesTracker : Prop :=
  (∀ s : State, s.working = true → s.tracker.jump = none → s.tracker.epochLength ≤ s.tracker.cycleCount + 1 →
    s.engine.discard = false →
    ∃ t r older, exec .cycleBoundary s = .next t ∧ t.engine.ring = r :: older ∧
      r.epoch = s.tracker.epoch ∧ r.ref = s.tracker.ref ∧ r.mode = s.tracker.mode ∧
      (EpochOk s.engine →
        (let settled := patchStrobe s
         let last : ClosedCycle := ⟨settled.engine.acc.map (fun sum => isqrt (sum / 32)),
           decide (settled.sampling.patched < 4 ∧ settled.sampling.stallSeen = false)⟩
         let cs := s.engine.closed ++ [last]
         (∀ φ, r.means.i.get φ = cycleSum (fun m => m.i.get φ) cs / validCycles cs ∧
           r.means.v.get φ = cycleSum (fun m => m.v.get φ) cs / validCycles cs) ∧
         r.means.r = cycleSum (fun m => m.r) cs / validCycles cs ∧
         r.irregularity = min 65535 (irregularitySteps cs) ∧ r.validCycles = validCycles cs ∧
         (r.invalid = true ↔
           2 * validCycles cs < s.port.image.n ∨ s.engine.cycleModes = ⟨true, false, false⟩))) ∧
      (r.holdover = true ↔ s.engine.holdoverSeen = true ∨ s.engine.cycleModes.holdover = true) ∧
      (r.unlocked = true ↔ s.engine.seekingSeen = true ∨ s.engine.cycleModes.seeking = true) ∧
      r.slewed = s.tracker.slewed) ∧
  (∀ r : EpochRecord, ∃ p : ReportPayload, (QueueItem.report r).payload = .report p ∧ p.ref = r.ref ∧ p.mode = r.mode) ∧
  (EpochOk State.reset.engine ∧ ∀ s t : State, EpochOk s.engine → step s = .next t → EpochOk t.engine)

/-! ## Detector and run state -/

/-- The LISTEN count at 20 ends LISTEN: the join is DONE and the part is in RUN. -/
def Obligations.ListenTimeoutEntersRun : Prop :=
  ∀ s : State, s.working = true → s.run = .listen → 20 ≤ s.timeline.listenCount →
    ∃ t, exec .listenTimeout s = .next t ∧ t.run = .run ∧ t.timeline = { s.timeline with join := .done } ∧
      t.tracker = s.tracker ∧ t.sampling = s.sampling ∧ t.engine = s.engine ∧ t.fault = s.fault ∧
      t.port.image = s.port.image ∧ t.port.reply = s.port.reply

/-- The four ways into CALM, each where its condition stands: BLIND with the blind run full, DISTURBED with the settle counter
full and no own STANDING record, DISTURBED with the forced-close counter at 600, and DEENERGIZED with the restore counter
full. The counters clear, the snapshot becomes ABSENT, and from DISTURBED and DEENERGIZED every peer snapshot too. And what a
record handed at the boundary that ends its epoch does: its reference is the newest usable of e-3 to e-8, and by the assessment
state it opens a disturbance with cause OWN and its ALERT, or moves the blind run, the settle and forced-close counters or the
restore counter, to CALM where one is full; in CALM, where a change has closed a disturbance since the record before, it only has
its reference selected (that this one record is the one R47 leaves uncompared is the model's reading, log 31). (The image holds no
linkage entry and the report window is closed, so that nothing else of that boundary moves the Detector.) -/
def Obligations.ReturnsToCalm : Prop :=
  (∀ s : State, s.working = true →
    (s.detector.assessment = .blind → 4 ≤ s.detector.blindRun →
      ∃ t, exec .blindExit s = .next t ∧
        t.detector = { s.detector with assessment := .calm, blindRun := 0 }) ∧
    (s.detector.assessment = .disturbed → s.port.image.settleCount ≤ s.detector.settle →
      (∀ r ∈ s.register.records, ¬ (r.own = true ∧ r.status = .standing)) →
      ∃ t, exec .disturbanceClose s = .next t ∧ t.detector = calmed s.detector s.detector.reference ∧
        ∀ e ∈ t.peers.entries, e.snapshot = none) ∧
    (s.detector.assessment = .disturbed → 600 ≤ s.detector.forced →
      ∃ t, exec .disturbanceTimeout s = .next t ∧ t.detector = calmed s.detector s.detector.reference ∧
        ∀ e ∈ t.peers.entries, e.snapshot = none) ∧
    (s.detector.assessment = .deenergized → s.port.image.settleCount ≤ s.detector.restore →
      ∃ t, exec .deenergizedRestored s = .next t ∧
        t.detector = { calmed s.detector s.detector.reference with blindRun := 0 } ∧
        (∀ e ∈ t.peers.entries, e.snapshot = none) ∧ (∀ r ∈ t.register.records, r.own = false))) ∧
  (∀ s : State, s.working = true → s.tracker.jump = none → s.tracker.epochLength ≤ s.tracker.cycleCount + 1 →
    s.engine.discard = false → s.link.windowOpen = false → s.link.sending = false → s.port.image.entries = [] →
    ∃ t r older, exec .cycleBoundary s = .next t ∧ t.engine.ring = r :: older ∧
      (let image := s.port.image
       let d := { s.detector with closedByChange := false }
       let reference := t.detector.reference
       let standing := ∃ x ∈ s.register.records, x.own = true ∧ x.status = .standing
       IsReference t.engine.ring r.epoch reference ∧
       (d.assessment = .calm → s.detector.closedByChange = true → t.detector = { d with reference := reference }) ∧
       (d.assessment = .calm → s.detector.closedByChange = false → ∀ c, reference = some c → ∀ m, TriggersAre image r c m →
         (r.invalid = false → m ≠ ⟨false, false, false⟩ →
           t.detector = { d with
             assessment := .disturbed, snapshot := some c, reference := some c, sequence := d.sequence + 1
             blindRun := 0, settle := 0, forced := 0 } ∧
           (s.run = .run →
             (∃ q ∈ t.link.queue, q.item = .alert ⟨d.sequence + 1, m, c.means⟩ ∧ q.bound = t.tracker.epoch) ∨
               t.link.inFlight.map InFlight.subject = some .alert)) ∧
         (r.invalid = true ∨ m = ⟨false, false, false⟩ → t.detector = { d with reference := some c })) ∧
       (d.assessment = .calm → reference = none → t.detector = { d with reference := none }) ∧
       (d.assessment = .blind →
         (let run := if r.invalid = true then 0 else min 4 (d.blindRun + 1)
          (run < 4 → t.detector = { d with reference := reference, blindRun := run }) ∧
          (run = 4 → t.detector = { d with reference := reference, assessment := .calm, blindRun := 0 }))) ∧
       (d.assessment = .disturbed → d.settle ≤ image.settleCount → ∀ settle,
         (Quiet image t.engine.ring r → settle = min image.settleCount (d.settle + 1)) →
         (¬ Quiet image t.engine.ring r → settle = 0) →
         (image.settleCount ≤ settle → ¬ standing → t.detector = calmed d reference) ∧
         (settle < image.settleCount ∨ standing →
           (let forced := if t.register.records = [] then min 600 (d.forced + 1) else 0
            (forced < 600 → t.detector = { d with reference := reference, settle := settle, forced := forced }) ∧
            (forced = 600 → t.detector = calmed d reference)))) ∧
       (d.assessment = .deenergized → d.restore ≤ image.settleCount → ∀ restore,
         (let restored := r.invalid = false ∧ ∀ φ, image.vlive ≤ r.means.v.get φ
          (restored → restore = min image.settleCount (d.restore + 1)) → (¬ restored → restore = 0) →
          (restore < image.settleCount → t.detector = { d with reference := reference, restore := restore }) ∧
          (image.settleCount ≤ restore → t.detector = { calmed d reference with blindRun := 0 })))))

/-- Every entry into CALM, from BLIND, DISTURBED or DEENERGIZED, in the Trip Linkage's part: every SPENT and WOULD_TRIP mark
clear, CONFIRMED and FAILED records back to IDLE, an ASSERTED one and the backup timers left, the trip list empty. (Where an
evaluation follows, its acts come on top, so the commands' clauses ask for no linkage entry, or LISTEN.) -/
def Obligations.CalmClearsTheTripLinkage : Prop :=
  (∀ s : State, LinkageCalmed s (returnToCalm s) ∧ LinkageCalmed s (leaveBlind s) ∧ LinkageCalmed s (restoreLine s)) ∧
  (∀ s : State, s.working = true → NoTripTable s →
    (s.detector.assessment = .blind → 4 ≤ s.detector.blindRun →
      ∃ t, exec .blindExit s = .next t ∧ t.detector.assessment = .calm ∧ LinkageCalmed s t) ∧
    (s.detector.assessment = .disturbed → s.port.image.settleCount ≤ s.detector.settle →
      (∀ r ∈ s.register.records, ¬ (r.own = true ∧ r.status = .standing)) →
      ∃ t, exec .disturbanceClose s = .next t ∧ t.detector.assessment = .calm ∧ LinkageCalmed s t) ∧
    (s.detector.assessment = .disturbed → 600 ≤ s.detector.forced →
      ∃ t, exec .disturbanceTimeout s = .next t ∧ t.detector.assessment = .calm ∧ LinkageCalmed s t) ∧
    (s.detector.assessment = .deenergized → s.port.image.settleCount ≤ s.detector.restore →
      ∃ t, exec .deenergizedRestored s = .next t ∧ t.detector.assessment = .calm ∧ LinkageCalmed s t))

/-! ## Span link -/

/-- A queued ALERT whose bound lies two epochs back is removed and counted; a younger one stays queued as it stands and counts
nothing. With the vigilance hold at 0 the posture and the receiver-enable line follow from what is left, the queue standing,
unless the access that is judged then hands a series over at once; in either case the link does nothing else. -/
def Obligations.AlertAndHoldRunOut : Prop :=
  (∀ (e : QueueEntry) (s : State), s.working = true → queueFind s.link.queue .alert = some e →
    s.link.alertsExpired ≤ 65535 →
    ∃ t, exec .alertExpired s = .next t ∧ t = { s with link := t.link } ∧
      (2 ≤ epochDiff s.tracker.epoch e.bound →
        (∀ x ∈ t.link.queue, x.subject ≠ .alert) ∧ t.link.alertsExpired = min 65535 (s.link.alertsExpired + 1) ∧
        LinkSettled { s.link with
          queue := s.link.queue.filter (fun x => x.subject ≠ .alert)
          alertsExpired := min 65535 (s.link.alertsExpired + 1) } t) ∧
      (epochDiff s.tracker.epoch e.bound < 2 →
        queueFind t.link.queue .alert = some e ∧ t.link.alertsExpired = s.link.alertsExpired ∧
        LinkSettled s.link t)) ∧
  (∀ s : State, s.working = true → s.link.hold = 0 →
    ∃ t, exec .vigilanceHoldExpired s = .next t ∧ t = { s with link := t.link } ∧ LinkSettled s.link t ∧
      (t.link.sending = s.link.sending →
        t.link.hold = 0 ∧ t.link.queue = s.link.queue ∧
        (t.link.vigilant = true ↔ s.detector.assessment ≠ .calm ∨ s.register.records ≠ []) ∧
        (t.link.receiverEnable = true ↔ s.link.sending = false ∧
          (s.run = .listen ∨ t.link.vigilant = true ∨ s.link.windowOpen = true ∨ s.link.receiving = true))) ∧
      (t.link.sending ≠ s.link.sending → HandedOverAtOnce s t))

/-- TX_DONE, and the completion timer at 64, complete the frame in flight: the handshake returns to READY with none in flight
(unless the choice that begins again there hands over at once), and the frame's series loses one of its count and its due mark,
or closes at the last of its count, or loses neither if the frame was superseded. TX_DONE zeroes the timeout count and clears
XCVR_FAULT with LINK_RESTORED, in READY as in SENDING; a timer completion raises the count, and the third sets XCVR_FAULT with
LINK_IMPAIRED. Below 64 the timer completes nothing. (What a series says under an evaluation of the Trip Linkage, which only a
change of IMPAIRED or of the register brings, is left to the other statements.) -/
def Obligations.FramesComplete : Prop :=
  (∀ s : State, s.working = true →
    ∃ t, exec .txDone s = .next t ∧
      t.fault = { s.fault with
        timeouts := 0, xcvrFault := false
        impaired := if s.fault.xcvrFault = true then s.fault.jammed || s.fault.silent else s.fault.impaired } ∧
      (s.link.sending = true → FrameCompleted s t) ∧
      (s.link.sending = true → QueueOk s.link.queue → NoTripTable s → SeriesAdvanced s t) ∧
      (s.link.sending = false ∨ NoSeriesCloses s → NoTripTable s ∨ s.fault.xcvrFault = false →
        t = { s with
          link := t.link, fault := t.fault
          port := if s.fault.xcvrFault = true then (record s .linkRestored .absent none (.named .xcvrFault)).port
            else s.port } ∧
        (s.link.sending = false → LinkSettled s.link t) ∧
        (s.link.sending = true → QueueOk s.link.queue → SeriesAdvanced s t ∧ LinkSettled (linkCompleted s) t))) ∧
  (∀ s : State, s.working = true → s.link.sending = true →
    (64 ≤ s.link.completionTimer →
      ∃ t, exec .txCompletionTimeout s = .next t ∧ FrameCompleted s t ∧
        (let third : Bool := decide (2 ≤ s.fault.timeouts ∧ s.fault.xcvrFault = false)
         t.fault = { s.fault with
           timeouts := min 3 (s.fault.timeouts + 1), xcvrFault := s.fault.xcvrFault || third
           impaired := s.fault.impaired || third } ∧
         (QueueOk s.link.queue → NoTripTable s → SeriesAdvanced s t) ∧
         (NoSeriesCloses s → NoTripTable s ∨ third = false →
           t = { s with
             link := t.link, fault := t.fault
             port := if third = true then (record s .linkImpaired .absent none (.named .xcvrFault)).port else s.port } ∧
           (QueueOk s.link.queue → SeriesAdvanced s t ∧ LinkSettled (linkCompleted s) t)))) ∧
    (s.link.completionTimer < 64 →
      ∃ t, exec .txCompletionTimeout s = .next t ∧ t = { s with link := { s.link with
        vigilant := t.link.vigilant, receiverEnable := t.link.receiverEnable } }))

/-- At the end of a backoff on an idle channel the candidate's frame, stamped at that instant, goes to the transceiver: a
single frame leaves the queue, a series is marked, the receiver goes off and any reception with it, and every kind but a
REPORT sets the hold. On a busy channel the access state becomes DEFER; that the candidate that waits there is the first
eligible entry, chosen afresh, and not the ended backoff's own where the two differ, is the model's choice (log 43). (That the
stamped flags show the posture as it stood before the hold that the hand-over sets is the model's choice, log 26.) -/
def Obligations.BackoffEndHandsOverOrDefers : Prop :=
  ∀ (e : QueueEntry) (s : State), s.working = true → s.run = .run → s.link.sending = false → PostureOk s →
    s.link.access = .backoff → s.link.backoff = 0 → candidateEntry s = some e → eligible s e = true →
    ∃ t, exec .backoffEnd s = .next t ∧ t = { s with link := t.link } ∧ t.link.lfsr = s.link.lfsr ∧
      (s.busyPin = false →
        t.link.sending = true ∧ t.link.inFlight = some ⟨e.subject, putFrame (stampedFrame s e.item)⟩ ∧
        t.link.completionTimer = 0 ∧ t.link.access = .idle ∧ t.link.candidate = none ∧
        t.link.receiverEnable = false ∧ t.link.receiving = false ∧ t.link.latch = none ∧
        (e.cls = 2 → t.link.hold = s.link.hold) ∧
        (e.cls ≠ 2 → t.link.hold = 20 ∧ t.link.vigilant = true) ∧
        (e.cls ≠ 0 → t.link.queue = s.link.queue.filter (fun x => x.subject ≠ e.subject)) ∧
        (e.cls = 0 → t.link.queue = s.link.queue.map (fun x => if x.subject = e.subject then { x with mark := .current } else x)) ∧
        LinkSettled { s.link with
          queue := t.link.queue, inFlight := t.link.inFlight, sending := true, completionTimer := 0, hold := t.link.hold
          access := .idle, candidate := none, backoff := 0, receiving := false, latch := none, receptionTimer := 0 } t) ∧
      (s.busyPin = true →
        t.link.sending = false ∧ t.link.access = .defer ∧ t.link.queue = s.link.queue ∧
        t.link.candidate = (firstEligible s).map QueueEntry.subject ∧
        LinkSettled { s.link with access := .defer, candidate := some e.subject, backoff := 0 } t)

/-- In DEFER the channel falling idle draws a backoff: the LFSR steps once and its new value, modulo the range of the
candidate's class and above its base, is the backoff, a draw of 0 handing over at once. The line's assertion draws nothing. No
step takes a non-zero LFSR to zero. -/
def Obligations.IdleChannelDrawsABackoff : Prop :=
  (∀ x : BitVec 16, x ≠ 0 → lfsrStep x ≠ 0) ∧
  (∀ (e : QueueEntry) (s : State), s.working = true → s.run = .run → s.link.sending = false → PostureOk s →
    s.link.access = .defer → firstEligible s = some e →
    ∃ t, exec (.channelBusyChange false) s = .next t ∧ t.busyPin = false ∧
      t.fault = { s.fault with busyUnbroken := false } ∧
      t = { s with busyPin := false, fault := t.fault, link := t.link } ∧ LinkSettled s.link t ∧
      t.link.lfsr = lfsrStep s.link.lfsr ∧
      (let x := (lfsrStep s.link.lfsr).toNat
       let b := if e.cls = 0 then x % 4 else if e.cls = 1 then 4 + x % 8 else 12 + x % 64
       (0 < b → t.link.access = .backoff ∧ t.link.candidate = some e.subject ∧ t.link.backoff = b ∧
         t.link.sending = false ∧ t.link.queue = s.link.queue) ∧
       (b = 0 → t.link.sending = true ∧ t.link.inFlight.map InFlight.subject = some e.subject))) ∧
  (∀ s : State, s.working = true →
    ∃ t, exec (.channelBusyChange true) s = .next t ∧ t = { s with busyPin := true, link := t.link } ∧
      t.link.lfsr = s.link.lfsr ∧ LinkSettled s.link t)

/-- RX_START with the receiver enabled latches the own timeline and starts the reception timer, with it disabled changes
nothing; the timer at 64 ends the reception and discards the latch, and below 64 leaves it. Only an access judged in RUN that
hands a series over at once, which it cannot on a busy channel or while sending, takes the reception with it. -/
def Obligations.ReceptionLatchesTheTimeline : Prop :=
  ∀ s : State, s.working = true →
    let latched : Link := { s.link with
      receiving := true, receptionTimer := 0
      latch := some ⟨s.tracker.epoch, s.tracker.cycleIndex * 32 + s.sampling.strobe.getD 0⟩ }
    let ended : Link := { s.link with receiving := false, latch := none, receptionTimer := 0 }
    let quiet := s.run = .listen ∨ s.link.queue = [] ∨ s.link.sending = true ∨ s.busyPin = true
    (∃ t, exec .rxStart s = .next t ∧ t = { s with link := t.link } ∧
      LinkSettled (if s.link.receiverEnable = true then latched else s.link) t ∧
      (quiet → t.link.sending = s.link.sending) ∧
      (t.link.sending ≠ s.link.sending → HandedOverAtOnce s t) ∧
      (t.link.sending = s.link.sending →
        t.link.queue = s.link.queue ∧
        (s.link.receiverEnable = true →
          t.link.receiving = true ∧ t.link.receptionTimer = 0 ∧
          t.link.latch = some ⟨s.tracker.epoch, s.tracker.cycleIndex * 32 + s.sampling.strobe.getD 0⟩) ∧
        (s.link.receiverEnable = false →
          t.link.receiving = s.link.receiving ∧ t.link.latch = s.link.latch ∧
          t.link.receptionTimer = s.link.receptionTimer))) ∧
    (∃ t, exec .receptionTimeout s = .next t ∧ t = { s with link := t.link } ∧
      LinkSettled (if s.link.receiving = true ∧ 64 ≤ s.link.receptionTimer then ended else s.link) t ∧
      (quiet → t.link.sending = s.link.sending) ∧
      (t.link.sending ≠ s.link.sending → HandedOverAtOnce s t) ∧
      (s.link.receiving = true → 64 ≤ s.link.receptionTimer →
        t.link.receiving = false ∧ t.link.latch = none ∧ t.link.receptionTimer = 0) ∧
      (t.link.sending = s.link.sending →
        t.link.queue = s.link.queue ∧
        (s.link.receptionTimer < 64 →
          t.link.receiving = s.link.receiving ∧ t.link.latch = s.link.latch ∧
          t.link.receptionTimer = s.link.receptionTimer)))

/-- The filter drops a delivered frame under the first check that fails, in the order CRC, kind, length, fields in range,
segment, own id, and takes one that passes them all with the header its bytes hold. A dropped frame ends its reception, is
counted once, and has no other effect but what the freed link then does of itself, as `LinkSettled` says: no hold restarted,
no entry of the queue or counter touched. -/
def Obligations.DroppedFramesAreCountedOnce : Prop :=
  (∀ (image : Image) (b : List Byte),
    (b.length < 14 → receiveFilter image b = .dropped .crc) ∧
    (14 ≤ b.length → (crc16 (b.take (b.length - 2))).toNat ≠ get16 b (b.length - 2) →
      receiveFilter image b = .dropped .crc) ∧
    (crcMatches b = true → get8 b 0 = 0 ∨ 5 < get8 b 0 → receiveFilter image b = .dropped .unknownKind) ∧
    (crcMatches b = true → 1 ≤ get8 b 0 → get8 b 0 ≤ 5 →
      b.length ≠ [32, 30, 22, 22, 24].getD (get8 b 0 - 1) 0 → receiveFilter image b = .dropped .length) ∧
    (crcMatches b = true → 1 ≤ get8 b 0 → get8 b 0 ≤ 5 →
      b.length = [32, 30, 22, 22, 24].getD (get8 b 0 - 1) 0 →
      (Malformed b → receiveFilter image b = .dropped .malformed) ∧
      (¬ Malformed b →
        (get8 b 1 ≠ image.segment → receiveFilter image b = .dropped .foreignSegment) ∧
        (get8 b 1 = image.segment → get16 b 2 = image.stationId → receiveFilter image b = .dropped .ownId) ∧
        (get8 b 1 = image.segment → get16 b 2 ≠ image.stationId →
          ∃ payload, receiveFilter image b = .valid ⟨getHeader b, payload⟩ ∧ payload.kind = get8 b 0)))) ∧
  (∀ (frame : List Byte) (cause : DropCause) (c : Instr) (s : State), s.working = true →
    receiveFilter s.port.image frame = .dropped cause →
    (c = .reportReceived frame ∨ c = .alertReceived frame ∨ c = .claimReceived frame ∨ c = .releaseReceived frame ∨
      c = .trippedReceived frame ∨ c = .receivedFrameDropped frame) →
    ∃ t, exec c s = .next t ∧ t = { s with link := t.link } ∧
      t.link.receiving = false ∧ t.link.latch = none ∧
      (let d := s.link.drops
       let up := fun n => if n < 65535 then n + 1 else 65535
       let counted : DropCounters := match cause with
        | .crc => { d with crc := up d.crc }
        | .unknownKind => { d with unknownKind := up d.unknownKind }
        | .length => { d with length := up d.length }
        | .malformed => { d with malformed := up d.malformed }
        | .foreignSegment => { d with foreignSegment := up d.foreignSegment }
        | .ownId => { d with ownId := up d.ownId }
       t.link.drops = counted ∧
       LinkSettled { s.link with receiving := false, latch := none, receptionTimer := 0, drops := counted } t))

/-- The filter reads back every frame whose fields lie in the ranges of the layout table, whatever their values: as a valid frame
with every field as it was put, or, where only the segment or the sender's id fails, as a drop of that cause. -/
def Obligations.FramesReadBackAsTheyWerePut : Prop :=
  ∀ (image : Image) (f : Frame), headerPlaced f.header → payloadPlaced f.payload →
    (f.header.segment ≠ image.segment → receiveFilter image (putFrame f) = .dropped .foreignSegment) ∧
    (f.header.segment = image.segment → f.header.sender = image.stationId →
      receiveFilter image (putFrame f) = .dropped .ownId) ∧
    (f.header.segment = image.segment → f.header.sender ≠ image.stationId →
      receiveFilter image (putFrame f) = .valid f)

/-! ## Peer Table -/

/-- The four ends of an entry's counts, each where its condition stands, with no SILENT in play: a passed probation window, ACTIVE
to STALE, STALE to LOST with PEER_LOST, and HEARD or LOST back to FREE with its adjacency. -/
def Obligations.PeersAgeOut : Prop :=
  ∀ (k : Fin 16) (e : PeerEntry) (s : State), s.working = true → s.peers.entries[k.val]? = some e →
    s.fault.silence < 10 → s.fault.silent = false →
    (e.state = .heard → 0 < e.tally → e.tally < 3 → 6 ≤ e.age →
      ∃ t, exec (.probationWindowPassed k) s = .next t ∧
        t = { s with
          peers := { s.peers with entries := s.peers.entries.set k.val { e with tally := 0, age := 0 } }
          link := t.link } ∧ LinkSettled s.link t) ∧
    (e.state = .active → 5 ≤ e.reportSilence →
      ∃ t, exec (.peerStale k) s = .next t ∧
        t.peers = { s.peers with entries := s.peers.entries.set k.val { e with state := .stale } } ∧
        t.timeline.source = timingSource s.port.image.position t.peers.entries ∧
        t.fault = { s.fault with livePeers := true } ∧ t.port = s.port ∧ t.tracker = s.tracker ∧
        LinkSettled s.link t) ∧
    (e.state = .stale → 20 ≤ e.reportSilence →
      ∃ t, exec (.peerLost k) s = .next t ∧
        t.peers = { s.peers with entries := s.peers.entries.set k.val { e with state := .lost } } ∧
        t.port = (record s .peerLost (.station e.id) none (.named .silent)).port ∧ t.tracker = s.tracker ∧
        LinkSettled s.link t) ∧
    (e.pinned = 0 → (e.state = .heard ∧ 20 ≤ e.frameSilence) ∨ (e.state = .lost ∧ 64 ≤ e.frameSilence) →
      ∃ t, exec (.peerFreed k) s = .next t ∧
        t.peers.entries = s.peers.entries.set k.val Init.freePeer ∧
        t.peers.adjacentUp = (if s.peers.adjacentUp = some k.val then none else s.peers.adjacentUp) ∧
        t.peers.adjacentDown = (if s.peers.adjacentDown = some k.val then none else s.peers.adjacentDown) ∧
        t.port = s.port ∧ t.tracker = s.tracker ∧ LinkSettled s.link t)

/-- The adjacent peer of a side is the nearest pinned entry of that side, or, with none pinned, the nearest ACTIVE, ALIGNED and
not MISMATCHED one; there is none only where the side has neither. -/
def Obligations.AdjacentPeerIsTheNearestUsable : Prop :=
  ∀ (own : Nat) (side : Side) (es : List PeerEntry),
    let onIt := fun e : PeerEntry =>
      e.state ≠ .free ∧ (match side with | .up => e.position < own | .down => own < e.position)
    let pinned := fun e : PeerEntry => onIt e ∧ 0 < e.pinned
    let usable := fun e : PeerEntry => onIt e ∧ e.state = .active ∧ e.aligned = true ∧ e.mismatched = false
    let far := fun e : PeerEntry => max own e.position - min own e.position
    (∀ k, evaluateSide own side es = some k → ∃ e, es[k]? = some e ∧
      ((pinned e ∧ ∀ x ∈ es, pinned x → far e ≤ far x) ∨
        ((∀ x ∈ es, ¬ pinned x) ∧ usable e ∧ ∀ x ∈ es, usable x → far e ≤ far x))) ∧
    (evaluateSide own side es = none → ∀ x ∈ es, ¬ pinned x ∧ ¬ usable x)

/-- A valid REPORT of a known sender at its place zeroes both silences, sets flags and MISMATCHED, moves the state and the
probation, stores or removes its record, and sets the mark by D and E against the latch; no other entry, nothing else of the
table, no counter of the link and no other block but the Timeline Unit, the tracker's requests, the fault unit and the events is
touched. A REPORT of a newcomer is refused for conflict, once with an event, refused for room and counted, or admitted to the slot
that R98 chooses, evicting its entry. A known sender at a new position is held where it is while pinned, freed where the position
is taken, and reset there where it is free. (That a REPORT both INVALID and of another N removes its record is the model's choice,
log 35; that an entry so reset has its MISMATCHED flag judged against the flag it had before, so that one that stays set records no
second CONFIG_MISMATCH, is the model's choice too, log 48.) -/
def Obligations.ReportActsOnItsSendersEntry : Prop :=
  (∀ (frame : List Byte) (h : Header) (p : ReportPayload) (k : Nat) (s : State), s.working = true →
    s.fault.silent = false → receiveFilter s.port.image frame = .valid ⟨h, .report p⟩ →
    slotOf s.peers.entries h.sender = some k → (peerAt s k).position = h.position →
    ∃ t, exec (.reportReceived frame) s = .next t ∧
      (let n := s.port.image.n
       let latch := deliveryLatch s
       let d := epochDiff h.epoch latch.epoch
       let e := d * (32 * n : Nat) + h.stamp - latch.position
       let old := peerAt s k
       let new := peerAt t k
       let kept := old.ring.filter (fun r => r.epoch ≠ h.epoch - 1)
       new.id = old.id ∧ new.position = old.position ∧ new.reportSilence = 0 ∧ new.frameSilence = 0 ∧
       new.flags = h.flags ∧ (new.mismatched = true ↔ h.n ≠ n) ∧ new.pinned = old.pinned ∧
       new.snapshot = old.snapshot ∧
       (old.state ≠ .heard → new.state = .active) ∧
       (old.state = .heard → (new.state = .active ↔ 2 ≤ old.tally) ∧
         (old.tally = 0 → new.tally = 1 ∧ new.age = 0) ∧ (old.tally = 1 → new.tally = 2 ∧ new.age = old.age)) ∧
       (h.invalid = true → new.ring = kept) ∧
       (h.invalid = false → h.n ≠ n → new.ring = old.ring) ∧
       (h.invalid = false → h.n = n → new.ring = (peerRecord h p :: kept).take 4) ∧
       (new.aligned = true ↔ h.n = n ∧ d.natAbs ≤ 1 ∧ e.natAbs ≤ 16)) ∧
      (∀ j, j ≠ k → t.peers.entries[j]? = s.peers.entries[j]?) ∧
      t.peers = { s.peers with entries := t.peers.entries } ∧
      t.fault.silence = 0 ∧ t.link.receiving = false ∧ t.link.latch = none ∧
      t.link.windowOpen = s.link.windowOpen ∧ t.link.drops = s.link.drops ∧
      t.link.reportsMissed = s.link.reportsMissed ∧ t.link.alertsExpired = s.link.alertsExpired ∧
      (s.run = .listen ∨ s.link.sending = true ∨ (firstEligible s = none ∧ s.link.vigilant = vigilantNow s) →
        t.link.queue = s.link.queue ∧ t.link.sending = s.link.sending ∧ t.link.inFlight = s.link.inFlight ∧
        t.link.hold = s.link.hold ∧ t.link.lfsr = s.link.lfsr ∧ t.link.completionTimer = s.link.completionTimer) ∧
      t.tracker = { s.tracker with jump := t.tracker.jump, slew := t.tracker.slew } ∧
      t.sampling = s.sampling ∧ t.engine = s.engine ∧ t.detector = s.detector ∧ t.assessor = s.assessor ∧
      t.register = s.register ∧ t.linkage = s.linkage ∧ t.run = s.run) ∧
  (∀ (own position : Nat) (es : List PeerEntry),
    let free := fun e : PeerEntry => e.state = .free
    let lost := fun e : PeerEntry => e.state = .lost
    let stale := fun e : PeerEntry => e.state = .stale
    let live := fun e : PeerEntry => e.state = .active ∨ e.state = .heard
    let none_ := fun sort : PeerEntry → Prop => ∀ x ∈ es, sort x → 0 < x.pinned
    let far := fun x : Nat => max own x - min own x
    (∀ k, chooseSlot own position es = some k →
      ((∃ e, es[k]? = some e ∧ free e) ∧ ∀ j e, j < k → es[j]? = some e → ¬ free e) ∨
      ((∀ x ∈ es, ¬ free x) ∧
        (Evictable own lost es k ∨ (none_ lost ∧ (Evictable own stale es k ∨ (none_ stale ∧ Evictable own live es k ∧
          ∃ e, es[k]? = some e ∧ far position < far e.position)))))) ∧
    (chooseSlot own position es = none → (∀ x ∈ es, ¬ free x) ∧ none_ lost ∧ none_ stale ∧
      ∀ x ∈ es, live x → x.pinned = 0 → far x.position ≤ far position)) ∧
  (∀ (frame : List Byte) (h : Header) (p : ReportPayload) (s : State), s.working = true →
    s.fault.silent = false → receiveFilter s.port.image frame = .valid ⟨h, .report p⟩ →
    slotOf s.peers.entries h.sender = none → s.peers.conflicts.length ≤ 8 → s.peers.refusals ≤ 65535 →
    ∃ t, exec (.reportReceived frame) s = .next t ∧ t.detector = s.detector ∧ t.register = s.register ∧
      t.linkage = s.linkage ∧
      (PositionTaken s h.sender h.position →
        (h.sender ∈ s.peers.conflicts → t.peers = s.peers ∧ t.port = s.port) ∧
        (h.sender ∉ s.peers.conflicts →
          t.peers = { s.peers with
            conflicts := (s.peers.conflicts ++ [h.sender]).drop (s.peers.conflicts.length - 7) } ∧
          t.port = (record s .positionConflict (.station h.sender) none (.value h.position)).port)) ∧
      (¬ PositionTaken s h.sender h.position →
        (chooseSlot s.port.image.position h.position s.peers.entries = none →
          t.peers = { s.peers with refusals := min 65535 (s.peers.refusals + 1) } ∧ t.port = s.port) ∧
        (∀ k, chooseSlot s.port.image.position h.position s.peers.entries = some k →
          (let old := peerAt s k
           let gone := fun side : Option Nat => if old.state ≠ .free ∧ side = some k then none else side
           let lost := if old.state = .free ∨ old.state = .lost then s
             else record s .peerLost (.station old.id) none (.named .evicted)
           t.peers = { s.peers with
             entries := s.peers.entries.set k
               { firstReportEntry s.port.image.n h p with aligned := (peerAt t k).aligned }
             conflicts := s.peers.conflicts.filter (fun x => x ≠ h.sender)
             adjacentUp := gone s.peers.adjacentUp, adjacentDown := gone s.peers.adjacentDown } ∧
           t.port = (if h.n = s.port.image.n then lost
             else record lost .configMismatch (.station h.sender) none (.value h.n)).port)))) ∧
  (∀ (frame : List Byte) (h : Header) (p : ReportPayload) (k : Nat) (s : State), s.working = true →
    s.fault.silent = false → receiveFilter s.port.image frame = .valid ⟨h, .report p⟩ →
    slotOf s.peers.entries h.sender = some k → (peerAt s k).position ≠ h.position → s.peers.conflicts.length ≤ 8 →
    (∀ j e, s.peers.entries[j]? = some e → e.state ≠ .free → e.id = h.sender → j = k) →
    ∃ t, exec (.reportReceived frame) s = .next t ∧ t.detector = s.detector ∧ t.register = s.register ∧
      t.linkage = s.linkage ∧
      (let old := peerAt s k
       let gone := fun side : Option Nat => if side = some k then none else side
       let conflict := (record s .positionConflict (.station h.sender) none (.value h.position)).port
       (0 < old.pinned →
         t.peers = { s.peers with
           entries := s.peers.entries.set k { old with aligned := (peerAt t k).aligned } } ∧
         (timingSource s.port.image.position s.peers.entries ≠ some h.sender → t.port = conflict)) ∧
       (old.pinned = 0 → PositionTaken s h.sender h.position →
         t.peers = { s.peers with
           entries := s.peers.entries.set k Init.freePeer
           conflicts := if h.sender ∈ s.peers.conflicts then s.peers.conflicts
             else (s.peers.conflicts ++ [h.sender]).drop (s.peers.conflicts.length - 7)
           adjacentUp := gone s.peers.adjacentUp, adjacentDown := gone s.peers.adjacentDown } ∧
         t.port = conflict) ∧
       (old.pinned = 0 → ¬ PositionTaken s h.sender h.position →
         t.peers = { s.peers with
           entries := s.peers.entries.set k
             { firstReportEntry s.port.image.n h p with aligned := (peerAt t k).aligned }
           adjacentUp := gone s.peers.adjacentUp, adjacentDown := gone s.peers.adjacentDown } ∧
         t.port = (if h.n ≠ s.port.image.n ∧ old.mismatched = false
           then record s .configMismatch (.station h.sender) none (.value h.n) else s).port)))

/-- A valid ALERT sets the vigilance hold and its known sender's snapshot; from an adjacent peer it opens a disturbance for
SYMPATHY in CALM, with the current reference as snapshot, and in BLIND, with none, and in no other case moves the Detector. -/
def Obligations.AlertSetsTheSnapshotAndOpensForSympathy : Prop :=
  ∀ (frame : List Byte) (h : Header) (c : AlertContent) (k : Nat) (s : State), s.working = true →
    s.fault.silent = false → receiveFilter s.port.image frame = .valid ⟨h, .alert c⟩ →
    slotOf s.peers.entries h.sender = some k → (peerAt s k).position = h.position →
    ∃ t, exec (.alertReceived frame) s = .next t ∧
      t.link.hold = 20 ∧ t.fault.silence = 0 ∧ t.tracker = s.tracker ∧ t.register = s.register ∧
      (peerAt t k).snapshot = some c ∧ (peerAt t k).frameSilence = 0 ∧ (peerAt t k).flags = h.flags ∧
      (peerAt t k).state = (peerAt s k).state ∧ (peerAt t k).reportSilence = (peerAt s k).reportSilence ∧
      (∀ j, j ≠ k → t.peers.entries[j]? = s.peers.entries[j]?) ∧
      (let adjacent := s.peers.adjacentUp = some k ∨ s.peers.adjacentDown = some k
       let opened := { s.detector with
         assessment := .disturbed, sequence := s.detector.sequence + 1, blindRun := 0, settle := 0, forced := 0 }
       (adjacent → s.detector.assessment = .calm →
         t.detector = { opened with snapshot := s.detector.reference }) ∧
       (adjacent → s.detector.assessment = .blind → t.detector = { opened with snapshot := none }) ∧
       (adjacent → s.detector.assessment = .calm ∨ s.detector.assessment = .blind →
         ∃ es ev, t.port.events = es ++ [ev] ∧ ev.kind = .disturbanceOpen ∧ ev.subject = .station h.sender ∧
           ev.detail = .cause .sympathy) ∧
       (adjacent → s.detector.assessment = .disturbed ∨ s.detector.assessment = .deenergized →
         t.detector = s.detector) ∧
       (¬ adjacent → t.detector = s.detector))

/-! ## Timeline Unit -/

/-- A REPORT of the timing source in RUN: beyond one epoch or one epoch's length it requests a jump in BLIND and CALM and is
deferred in DISTURBED and DEENERGIZED, with one event; beyond the tolerance it requests a slew unless the guard is set or a jump
is pending; within it, it moves nothing. -/
def Obligations.SourceReportMovesTheTimeline : Prop :=
  ∀ (frame : List Byte) (h : Header) (p : ReportPayload) (k : Nat) (s : State), s.working = true → s.run = .run →
    s.fault.silent = false → receiveFilter s.port.image frame = .valid ⟨h, .report p⟩ → h.n = s.port.image.n →
    slotOf s.peers.entries h.sender = some k → (peerAt s k).position = h.position →
    (peerAt s k).state = .active → (peerAt s k).mismatched = false →
    timingSource s.port.image.position s.peers.entries = some h.sender → s.timeline.source = some h.sender →
    ∃ t, exec (.reportReceived frame) s = .next t ∧
      (let d := epochDiff h.epoch (deliveryLatch s).epoch
       let e := d * (32 * h.n : Nat) + h.stamp - (deliveryLatch s).position
       let target : JumpTarget := ⟨h.epoch, h.stamp / 32⟩
       let a := s.detector.assessment
       t.timeline.sourceError = some ⟨d, e⟩ ∧ t.timeline.source = s.timeline.source ∧
       (1 < d.natAbs ∨ 32 * h.n ≤ e.natAbs → a = .blind ∨ a = .calm →
         t.tracker = { s.tracker with jump := some target } ∧
         t.timeline.jumpPending = some ⟨target, h.sender⟩ ∧ t.timeline.deferred = false ∧ t.port = s.port) ∧
       (1 < d.natAbs ∨ 32 * h.n ≤ e.natAbs → a = .disturbed ∨ a = .deenergized →
         t.tracker = s.tracker ∧ t.timeline.jumpPending = s.timeline.jumpPending ∧ t.timeline.deferred = true ∧
         (s.timeline.deferred = true → t.port = s.port) ∧
         (s.timeline.deferred = false →
           t.port = (record s .jumpDeferred (.station h.sender) none (.value h.epoch.toNat)).port)) ∧
       (d.natAbs ≤ 1 → 16 < e.natAbs → e.natAbs < 32 * h.n →
         t.timeline.deferred = false ∧ t.timeline.jumpPending = s.timeline.jumpPending ∧
         (s.timeline.slewGuard = false → s.timeline.jumpPending = none →
           t.timeline.slewGuard = true ∧
           t.tracker = { s.tracker with slew := if 0 < e then .shorten else .lengthen }) ∧
         (s.timeline.slewGuard = true ∨ s.timeline.jumpPending ≠ none →
           t.timeline.slewGuard = s.timeline.slewGuard ∧ t.tracker = s.tracker)) ∧
       (d.natAbs ≤ 1 → e.natAbs ≤ 16 →
         t.timeline.deferred = false ∧ t.timeline.slewGuard = s.timeline.slewGuard ∧
         t.timeline.jumpPending = s.timeline.jumpPending ∧ t.tracker = s.tracker))

/-- In LISTEN the first valid REPORT from an upstream sender of the own epoch length requests the join's jump, whatever else
stands; no other REPORT moves the timeline there. -/
def Obligations.FirstUpstreamReportJoins : Prop :=
  ∀ (frame : List Byte) (h : Header) (p : ReportPayload) (s : State), s.working = true → s.run = .listen →
    receiveFilter s.port.image frame = .valid ⟨h, .report p⟩ →
    ∃ t, exec (.reportReceived frame) s = .next t ∧ t.run = .listen ∧
      (let joins := s.timeline.join = .opened ∧ h.n = s.port.image.n ∧ h.position < s.port.image.position
       let target : JumpTarget := ⟨h.epoch, h.stamp / 32⟩
       (joins → t.tracker = { s.tracker with jump := some target } ∧ t.timeline.join = .pending ∧
         t.timeline.jumpPending = some ⟨target, h.sender⟩) ∧
       (¬ joins → t.tracker = s.tracker ∧ t.timeline.join = s.timeline.join ∧
         t.timeline.jumpPending = s.timeline.jumpPending))

/-! ## Continuity Assessor -/

/-- The map of an epoch holds the own record and every paired peer's, by position; a phase's located boundary is the first pair
from ENERGIZED to not, the residual boundary the first that loses the residual; the four conditions of the cells are those of the
tables. The moves of a judged cell by its state and its verdict; a cell that is not judged keeps its state and counters; and K
TRUE verdicts in a row, no fewer, take a CLEAR cell to HELD. And a window close within an epoch, where the ring holds the epoch
before not INVALID, makes that assessment: map and boundaries replaced, every cell moved by its verdict, and own records raised
for the cells that stand. (There the image holds no linkage entry, the register no record, and the adjacency stands.) -/
def Obligations.CellsMoveByTheTable : Prop :=
  (∀ (k : Nat) (c : Cell),
    (c.state = .clear →
      c.move k .isTrue = { c with state := .watch, condition := 1, unknowns := 0, verdict := .isTrue } ∧
      c.move k .isFalse = { c with unknowns := 0, verdict := .isFalse } ∧
      c.move k .unknown = { c with verdict := .unknown }) ∧
    (c.state = .watch →
      (c.condition + 1 < k →
        c.move k .isTrue = { c with condition := c.condition + 1, unknowns := 0, verdict := .isTrue }) ∧
      (k ≤ c.condition + 1 →
        c.move k .isTrue = { c with state := .held, condition := k, unknowns := 0, verdict := .isTrue }) ∧
      c.move k .isFalse = { c with state := .clear, condition := 0, unknowns := 0, verdict := .isFalse } ∧
      (c.unknowns < 2 → c.move k .unknown = { c with unknowns := c.unknowns + 1, verdict := .unknown }) ∧
      (2 ≤ c.unknowns → (c.move k .unknown).state = .clear ∧ (c.move k .unknown).condition = 0 ∧
        (c.move k .unknown).verdict = .unknown)) ∧
    (c.state = .held →
      c.move k .isTrue = { c with unknowns := 0, verdict := .isTrue } ∧
      c.move k .isFalse = { c with state := .fading, falses := 1, unknowns := 0, verdict := .isFalse } ∧
      (c.unknowns ≤ 255 → c.move k .unknown = { c with unknowns := min 255 (c.unknowns + 1), verdict := .unknown })) ∧
    (c.state = .fading →
      c.move k .isTrue = { c with state := .held, falses := 0, unknowns := 0, verdict := .isTrue } ∧
      (c.falses + 1 < k →
        c.move k .isFalse = { c with falses := c.falses + 1, unknowns := 0, verdict := .isFalse }) ∧
      (k ≤ c.falses + 1 → c.move k .isFalse =
        { c with state := .clear, falses := 0, condition := 0, unknowns := 0, verdict := .isFalse }) ∧
      c.move k .unknown = { c with verdict := .unknown }) ∧
    c.move k .notJudged = { c with verdict := .notJudged }) ∧
  (∀ (k n : Nat) (c : Cell), 2 ≤ k → c.state = .clear → 1 ≤ n →
    ((Cell.move k .isTrue)^[n] c).state = (if n < k then .watch else .held)) ∧
  (∀ (image : Image) (r : EpochRecord) (es : List PeerEntry),
    (let m := buildMap image r es
     m.epoch = r.epoch ∧ (m.entries.map MapEntry.position).Pairwise (· ≤ ·) ∧
     ∀ x, x ∈ m.entries ↔ x = ownMapEntry image r ∨ ∃ p ∈ es, ∃ q,
       p.state = .active ∧ p.aligned = true ∧ p.mismatched = false ∧ p.ring.find? (fun y => y.epoch = r.epoch) = some q ∧
       x = peerMapEntry image p q)) ∧
  (∀ (image : Image) (m : ContinuityMap) (v : Nat), image.vdead < image.vlive →
    (classify image v = .energized ↔ image.vlive ≤ v) ∧ (classify image v = .collapsed ↔ v < image.vdead) ∧
    (∀ φ, IsFirstPair (fun a b => a.classes.get φ = .energized ∧ b.classes.get φ ≠ .energized) m.entries
      (phaseBoundaryOf φ m)) ∧
    IsFirstPair (fun a b => image.rground ≤ a.means.r ∧ b.means.r * 256 < a.means.r * image.rsplit) m.entries
      (residualBoundaryOf image m)) ∧
  (∀ (r : EpochRecord) (s : State), s.working = true → s.tracker.jump = none →
    s.tracker.cycleCount + 1 < s.tracker.epochLength → s.link.windowOpen = true →
    s.tracker.cycleIndex + 1 = s.port.image.w → s.port.image.w < s.port.image.n →
    ringFind s.engine.ring (s.tracker.epoch - 1) = some r → r.invalid = false → s.port.image.entries = [] →
    s.register.records = [] → s.peers.adjacentUp = evaluateSide s.port.image.position .up s.peers.entries →
    s.peers.adjacentDown = evaluateSide s.port.image.position .down s.peers.entries →
    ∃ t, exec .cycleBoundary s = .next t ∧ t.link.windowOpen = false ∧
      (let image := s.port.image
       let m := buildMap image r s.peers.entries
       let d := s.detector
       let down := sideEvidence r.epoch .down s.peers
       let up := sideEvidence r.epoch .up s.peers
       let moves := fun (old new : Cell) (evidence : Option Evidence) (condition : Evidence → Prop) =>
         ∃ v, VerdictIs d.assessment False evidence condition v ∧ new = old.move image.k v
       t.assessor.lastEpoch = some (s.tracker.epoch - 1) ∧ t.assessor.map = some m ∧
       (∀ φ, t.assessor.phaseBoundary.get φ = phaseBoundaryOf φ m) ∧
       t.assessor.residualBoundary = residualBoundaryOf image m ∧
       (∀ φ, moves (s.assessor.openDown.get φ) (t.assessor.openDown.get φ) down (OpenDown image φ r d.snapshot) ∧
         moves (s.assessor.openUp.get φ) (t.assessor.openUp.get φ) up (OpenUp image φ r d.snapshot)) ∧
       moves s.assessor.groundDown t.assessor.groundDown down (GroundDown image r d.snapshot) ∧
       moves s.assessor.groundUp t.assessor.groundUp up (GroundUp image r) ∧
       (∀ kind fin, (Wanted t.assessor kind fin none → findRecord t.register.records ⟨image.stationId, kind, fin⟩ = none) ∧
         ∀ k, s.peers.adjacent (match fin with | .u => .down | .d => .up) = some k → ∀ mask,
           Wanted t.assessor kind fin (some mask) → ∃ x,
             findRecord t.register.records ⟨image.stationId, kind, fin⟩ = some x ∧ x.status = .standing ∧
             x.span = raisedSpan image.position (peerAt s k).position fin ∧ x.mask = mask ∧
             x.raiseEpoch = s.tracker.epoch)))

/-! ## Claim Register -/

/-- A valid CLAIM acts on the record of its key by that record's status, and a valid RELEASE makes a STANDING one RELEASED; a
frame that disagrees with its own header changes no record. A CLAIM of a new key is entered where a heard place is free; with
none free the heard record that gives way leaves, a STANDING one with CLAIM_EXPIRED detail EVICTED, or, where none gives way,
the CLAIM is dropped with CLAIM_OVERFLOW. (That a delay runs in LISTEN too is the model's reading, log 20. The image holds no
linkage entry, or the part is in LISTEN, so that no trip follows.) -/
def Obligations.HeardClaimsActByStatus : Prop :=
  ∀ (frame : List Byte) (h : Header) (c : ClaimContent) (refresh : Bool) (s : State), s.working = true →
    NoTripTable s → s.fault.silent = false → RegisterOk s →
    let key : ClaimKey := ⟨h.sender, c.kind, c.fin⟩
    let agreesHeader := (c.fin = .u → c.span.up = h.position) ∧ (c.fin = .d → c.span.down = h.position) ∧
      (c.kind = .openConductor → c.mask ≠ ⟨false, false, false⟩)
    let keys := fun x : State => x.register.records.map ClaimRecord.key
    (receiveFilter s.port.image frame = .valid ⟨h, .claim c refresh⟩ →
      ∃ t, exec (.claimReceived frame) s = .next t ∧ t.link.hold = 20 ∧ t.tracker = s.tracker ∧
        (¬ agreesHeader → t.register = s.register ∧ t.detector = s.detector) ∧
        (let full := 8 ≤ (s.register.records.filter (fun r => !r.own)).length
         agreesHeader → findRecord s.register.records key = none →
         (full → (∀ r ∈ s.register.records, ¬ GivesWay s r) →
           t.register = s.register ∧ t.detector = s.detector ∧ ∃ e, t.port.events.getLast? = some e ∧
             e.kind = .claimOverflow ∧ e.subject = .claim key ∧ e.span = some c.span) ∧
         (full → ∀ r ∈ s.register.records, GivesWay s r →
           keys t = (keys s).filter (fun x => x ≠ r.key) ++ [key] ∧
           (r.status = .standing → ∃ e ∈ t.port.events, e.kind = .claimExpired ∧ e.subject = .claim r.key ∧
             e.span = some r.span ∧ e.detail = .named .evicted)) ∧
         (¬ full → keys t = keys s ++ [key]) ∧
         (¬ full ∨ (∃ r ∈ s.register.records, GivesWay s r) →
          (∃ r, findRecord t.register.records key = some r ∧ r.status = .standing ∧ r.own = false ∧
            r.position = h.position ∧ r.span = c.span ∧ r.mask = c.mask ∧ r.raiseEpoch = s.tracker.epoch ∧
            r.standingAge = 0 ∧ r.frameAge = 0) ∧
          (s.detector.assessment = .calm ∨ s.detector.assessment = .blind → t.detector.assessment = .disturbed) ∧
          (s.detector.assessment = .disturbed ∨ s.detector.assessment = .deenergized →
            t.detector = s.detector))) ∧
        (agreesHeader → ∀ r, findRecord s.register.records key = some r →
          (r.status = .standing → ∃ r', findRecord t.register.records key = some r' ∧ r'.status = .standing ∧
            r'.span = c.span ∧ r'.mask = c.mask ∧ r'.frameAge = 0 ∧ r'.refreshEpoch = s.tracker.epoch ∧
            ((c.span = r.span ∧ c.mask = r.mask) ∨ refresh = true →
              r'.standingAge = r.standingAge ∧ r'.raiseEpoch = r.raiseEpoch ∧ keys t = keys s) ∧
            (¬ (c.span = r.span ∧ c.mask = r.mask) → refresh = false →
              r'.standingAge = 0 ∧ r'.raiseEpoch = s.tracker.epoch ∧
              keys t = (keys s).filter (fun x => x ≠ key) ++ [key])) ∧
          (r.status = .released → t.detector = s.detector ∧
            keys t = (keys s).filter (fun x => x ≠ key) ++ [key] ∧
            ∃ r', findRecord t.register.records key = some r' ∧ r'.status = .standing ∧ r'.span = c.span ∧
              r'.mask = c.mask ∧ r'.standingAge = 0 ∧ r'.frameAge = 0 ∧ r'.raiseEpoch = s.tracker.epoch) ∧
          (r.status = .covered → t.register = s.register ∧ t.detector = s.detector))) ∧
    (receiveFilter s.port.image frame = .valid ⟨h, .release c refresh⟩ →
      ∃ t, exec (.releaseReceived frame) s = .next t ∧ t.link.hold = 20 ∧ t.tracker = s.tracker ∧
        t.detector = s.detector ∧ keys t = keys s ∧
        (¬ agreesHeader → t.register = s.register) ∧
        (findRecord s.register.records key = none → t.register = s.register) ∧
        (∀ r, findRecord s.register.records key = some r →
          (r.status ≠ .standing → t.register = s.register) ∧
          (agreesHeader → r.status = .standing → ∃ r', findRecord t.register.records key = some r' ∧
            r' = { r with status := .released, corroborated := r'.corroborated } ∧ r'.corroborated = false)))

/-- An own STANDING record at refresh age 8 is refreshed, its CLAIM series offered anew with REFRESH set, and a younger one is
left; a heard record at frame age 12 leaves the register, a STANDING one with CLAIM_EXPIRED, and a younger one stays. An own
record follows the wanted form its cells give at an assessment: raised where there is none or a RELEASED one, its peer pinned,
changed in mask, released and its peer unpinned, with the disturbance closed where the settle counter stands full and no other
own record stands, or left. (The image holds no linkage entry, or the part is in LISTEN. That a mask change sets the refresh
epoch to the one whose window close made the assessment is the model's reading, log 32, and so is the mark that this close
leaves, log 31; that a raised record's frame age is 0 is the model's choice, log 50.) -/
def Obligations.ClaimsAreRefreshedAndExpire : Prop :=
  (∀ (s : State), s.working = true → NoTripTable s → RegisterOk s →
    (∀ (kind : ClaimKind) (fin : SpanEnd) (r : ClaimRecord),
      findRecord s.register.records ⟨s.port.image.stationId, kind, fin⟩ = some r → r.own = true →
      (r.status = .standing → 8 ≤ r.refreshAge → ∃ t, exec (.claimRefresh kind fin) s = .next t ∧
        t.register.records = s.register.records.map
          (fun x => if x.key = r.key then { x with refreshAge := 0, refreshEpoch := s.tracker.epoch } else x) ∧
        t.register.pairs = s.register.pairs ∧
        (∃ q ∈ t.link.queue, q.item = .claim ⟨r.span, kind, r.mask, fin⟩ true ∧
          q.remaining = s.port.image.repeats + 1) ∧
        t = { s with register := t.register, link := t.link } ∧
        ∃ q, LinkSettled { s.link with queue := q } t ∧
          q.filter (fun x => x.subject ≠ .claim kind fin) = s.link.queue.filter (fun x => x.subject ≠ .claim kind fin)) ∧
      (r.status ≠ .standing ∨ r.refreshAge < 8 →
        ∃ t, exec (.claimRefresh kind fin) s = .next t ∧ t = { s with link := t.link } ∧ LinkSettled s.link t)) ∧
    (∀ (key : ClaimKey) (r : ClaimRecord), s.register.pairs = pairsOf s.register.records →
      findRecord s.register.records key = some r → r.own = false →
      (12 ≤ r.frameAge → ∃ t, exec (.claimExpired key) s = .next t ∧
        t.register.records.map ClaimRecord.key =
          (s.register.records.map ClaimRecord.key).filter (fun x => x ≠ key) ∧
        t.register.pairs = pairsOf t.register.records ∧
        (r.status = .standing →
          t.port = (record s .claimExpired (.claim key) (some r.span) (.named .silent)).port) ∧
        (r.status ≠ .standing → t.port = s.port) ∧
        t = { s with register := t.register, port := t.port, link := t.link } ∧ LinkSettled s.link t) ∧
      (r.frameAge < 12 →
        ∃ t, exec (.claimExpired key) s = .next t ∧ t = { s with link := t.link } ∧ LinkSettled s.link t))) ∧
  (∀ (epoch : EpochNum) (kind : ClaimKind) (fin : SpanEnd) (w : Option (PerPhase Bool)) (s : State), NoTripTable s →
    RegisterOk s → Wanted s.assessor kind fin w →
    (let key : ClaimKey := ⟨s.port.image.stationId, kind, fin⟩
     let held := findRecord s.register.records key
     let t := handOff epoch kind fin s
     let keys := fun x : State => x.register.records.map ClaimRecord.key
     let series := fun item : QueueItem =>
       ∃ q ∈ t.link.queue, q.item = item ∧ q.remaining = s.port.image.repeats + 1 ∧ q.due = true
     (held = none → w = none → t = s) ∧
     (∀ r, held = some r → r.status = .covered ∨ (r.status = .released ∧ w = none) ∨
       (r.status = .standing ∧ w = some r.mask) → t = s) ∧
     (∀ r, held = some r → r.status = .standing → ∀ m, w = some m → m ≠ r.mask →
       keys t = keys s ∧ series (.claim ⟨r.span, r.key.kind, m, r.key.fin⟩ true) ∧ t.detector = s.detector ∧
       t.peers = s.peers ∧ ∃ x, findRecord t.register.records key = some x ∧
         x = { r with
           mask := m, refreshAge := 0, refreshEpoch := epoch, corroborated := x.corroborated, agrees := x.agrees }) ∧
     (∀ r, held = some r → r.status = .standing → w = none →
       series (.release ⟨r.span, r.key.kind, r.mask, r.key.fin⟩) ∧
       (∃ x, findRecord t.register.records key = some x ∧
         x = { r with status := .released, corroborated := x.corroborated }) ∧
       (s.register.pairs = pairsOf s.register.records → ∃ e ∈ t.port.events,
         e.kind = .claimReleased ∧ e.subject = .claim r.key ∧ e.span = some r.span ∧ e.detail = .named .own) ∧
       (let closes := s.detector.assessment = .disturbed ∧ s.port.image.settleCount ≤ s.detector.settle ∧
          ∀ x ∈ s.register.records, x.own = true → x.status = .standing → x.key = key
        (closes → t.detector = { calmed s.detector s.detector.reference with closedByChange := true }) ∧
        (¬ closes → t.detector = s.detector ∧ t.peers = { s.peers with
          entries := pinnedAt (fun n => n - 1) (if fin = .u then r.span.down else r.span.up) s.peers.entries }))) ∧
     ((held = none ∨ ∃ r, held = some r ∧ r.status = .released) → ∀ m, w = some m →
       ∀ k, s.peers.adjacent (match fin with | .u => .down | .d => .up) = some k →
         (let peer := (peerAt s k).position
          let span := raisedSpan s.port.image.position peer fin
          keys t = (keys s).filter (fun x => x ≠ key) ++ [key] ∧ series (.claim ⟨span, kind, m, fin⟩ false) ∧
          t.peers = { s.peers with entries := pinnedAt (fun n => n + 1) peer s.peers.entries } ∧
          (∃ x, findRecord t.register.records key = some x ∧ x = {
            key := key, position := s.port.image.position, span := span, mask := m, status := .standing, own := true
            raiseEpoch := epoch, refreshEpoch := epoch, standingAge := 0, refreshAge := 0, frameAge := 0
            corroborated := x.corroborated, agrees := x.agrees }) ∧
          (∃ e ∈ t.port.events, e.kind = .claimRaised ∧ e.subject = .claim key ∧ e.span = some span ∧
            e.detail = .mask m) ∧
          (held ≠ none → t.detector = s.detector) ∧
          (held = none → (s.detector.assessment = .calm ∨ s.detector.assessment = .blind →
              t.detector.assessment = .disturbed ∧ t.detector.sequence = s.detector.sequence + 1 ∧
              t.detector.snapshot = if s.detector.assessment = .calm then s.detector.reference else none) ∧
            (s.detector.assessment = .disturbed ∨ s.detector.assessment = .deenergized →
              t.detector = s.detector))))))

/-! ## Trip Linkage -/

/-- A valid TRIPPED, with no linkage entry in play. It joins the trip list as its newest item with TRIPPED_HEARD unless it matches
one, the oldest of nine leaving. FAILED moves neither Detector nor register. SUCCESS makes every STANDING record within its zone
COVERED and leaves every other; from upstream it de-energizes the station, its own STANDING records COVERED and its own RELEASED
ones removed, and from elsewhere it closes the disturbance where the own records it covers were the last to stand and the settle
counter is full, and otherwise leaves the Detector. Where it covers an own record with the settle counter full in DISTURBED, only
what holds in each order of the blocks is said (log 7; the mark that the close leaves, log 31). -/
def Obligations.TrippedFramesAct : Prop :=
  ∀ (frame : List Byte) (h : Header) (c : TrippedContent) (s : State), s.working = true → NoTripTable s →
    s.fault.silent = false → s.linkage.trips.length ≤ 8 →
    receiveFilter s.port.image frame = .valid ⟨h, .tripped c⟩ →
    ∃ t, exec (.trippedReceived frame) s = .next t ∧ t.link.hold = 20 ∧ t.tracker = s.tracker ∧ t.run = s.run ∧
      (let known := ∃ i ∈ s.linkage.trips, i.sender = h.sender ∧ i.content.output = c.output ∧ i.content.result = c.result
       let joined := (s.linkage.trips ++ [(⟨h.sender, c⟩ : TripItem)]).drop (s.linkage.trips.length - 7)
       let upstream := h.position < s.port.image.position
       let enters := upstream ∧ s.detector.assessment ≠ .deenergized
       let settled := s.detector.assessment = .disturbed ∧ s.port.image.settleCount ≤ s.detector.settle ∧
         ∃ r ∈ s.register.records, r.own = true ∧ r.status = .standing ∧ InZone c.zone r.span
       let contents := fun rs : List ClaimRecord => rs.map (fun r => { r with corroborated := false })
       (c.result = .failed ∨ ¬ settled →
         (known → t.linkage.trips = s.linkage.trips ∧ ∀ e ∈ t.port.events, e.kind = .trippedHeard → e ∈ s.port.events) ∧
         (¬ known → t.linkage.trips = joined)) ∧
       (c.result = .failed ∨ s.register.pairs = pairsOf s.register.records → ¬ known → ∃ e ∈ t.port.events,
         e.kind = .trippedHeard ∧ e.subject = .station h.sender ∧ e.span = some c.span ∧
         e.detail = .trip c.result c.output) ∧
       (c.result = .failed → t.detector = s.detector ∧ t.register = s.register) ∧
       (c.result = .success →
         (∀ r ∈ t.register.records, r.status = .standing → ¬ InZone c.zone r.span) ∧
         (¬ settled → contents t.register.records =
           contents ((s.register.records.filter (fun r => ¬ (enters ∧ r.own = true ∧ r.status = .released))).map
             (fun r => if r.status = .standing ∧ (InZone c.zone r.span ∨ (enters ∧ r.own = true))
               then { r with status := .covered } else r))) ∧
         (upstream → t.detector.assessment = .deenergized ∧ t.detector.restore = 0 ∧
           (enters → ∀ r ∈ t.register.records, ¬ (r.own = true ∧ r.status = .standing))) ∧
         (¬ upstream →
           (let last := ∀ r ∈ s.register.records, r.own = true → r.status = .standing → InZone c.zone r.span
            (settled → last →
              t.detector = { calmed s.detector s.detector.reference with closedByChange := true }) ∧
            (¬ settled ∨ ¬ last → t.detector = s.detector)))))

/-- A PRIMARY entry, alone in the table, with a chosen candidate: where PEN comes to be asserted, or is asserted when a delay
of the entry ends, its idle output is asserted and driven and the entry spent; where PEN is not, WOULD_TRIP is recorded once
and nothing is driven. And what the chosen candidate is: the first pair of the list that satisfies the entry, or with none the
first single record that does, and none where neither exists, by zone, kind, answered zones, map check, and the requirement in
force. The list takes the pairs in register order of their U-end records and then of their D-end ones. -/
def Obligations.SatisfiedEntryActsByPen : Prop :=
  (∀ (e : LinkageEntry) (c : Candidate) (r : EntryRuntime) (s : State), s.working = true → s.run = .run →
    s.port.image.entries = [e] → e.role = .primary → e.trip0 = true → e.trip1 = false →
    s.linkage.entries[0]? = some r → r.spent = false → s.linkage.trip0.state = .idle → s.linkage.open0 = false →
    chosenCandidate s e = some c →
    (let tripped := { s.linkage with
       pen := true
       trip0 := ⟨.asserted, some 0, 0, some e.zone, some c.span, true⟩
       entries := s.linkage.entries.set 0 { r with spent := true } }
     let issued := (record s .tripIssued (.output .trip0) (some c.span) (.value 0)).port
     (s.linkage.pen = false → ∃ t, exec (.penChange true) s = .next t ∧
       t = { s with penPin := true, linkage := tripped, port := issued, link := t.link } ∧ LinkSettled s.link t) ∧
     (s.linkage.pen = true → e.requirement = .delayed → s.fault.impaired = false →
       (∃ x ∈ s.register.records, x.status = .standing ∧ inScope e s.linkage.trips (singleCandidate x) = true ∧
         e.delay ≤ x.standingAge) →
       ∃ t, exec (.delayEnd 0) s = .next t ∧ t = { s with linkage := tripped, port := issued, link := t.link } ∧
         LinkSettled s.link t) ∧
     (s.linkage.pen = true → ∃ t, exec (.penChange false) s = .next t ∧
       t = { s with penPin := false, linkage := t.linkage, port := t.port, link := t.link } ∧ LinkSettled s.link t ∧
       t.linkage = { s.linkage with
         pen := false, entries := s.linkage.entries.set 0 { r with wouldTrip := true } } ∧
       (r.wouldTrip = true → t.port = s.port) ∧
       (r.wouldTrip = false → t.port = (record s .wouldTrip .absent (some c.span) (.value 0)).port)))) ∧
  (∀ (s : State) (e : LinkageEntry),
    (∀ c, chosenCandidate s e = some c →
      (∃ p, IsFirst (PairSatisfies s e) s.register.pairs p ∧
        c.key = p.upKey ∧ c.partner = some p.downKey ∧ c.span = p.span) ∨
      ((∀ p ∈ s.register.pairs, ¬ PairSatisfies s e p) ∧
        ∃ r, IsFirst (SingleSatisfies s e) s.register.records r ∧ c.key = r.key ∧ c.partner = none ∧ c.span = r.span)) ∧
    (chosenCandidate s e = none →
      (∀ p ∈ s.register.pairs, ¬ PairSatisfies s e p) ∧ ∀ r ∈ s.register.records, ¬ SingleSatisfies s e r)) ∧
  (∀ rs : List ClaimRecord, (rs.map ClaimRecord.key).Nodup → (pairsOf rs).Pairwise (fun p q =>
    [p.upKey, q.upKey].Sublist (rs.map ClaimRecord.key) ∨
      (p.upKey = q.upKey ∧ [p.downKey, q.downKey].Sublist (rs.map ClaimRecord.key))))

/-- An ASSERTED trip: the open-confirm input's assertion makes it CONFIRMED and the confirm timer at the timeout makes it
FAILED, either releasing the line and queueing a whole TRIPPED series with the trip's zone and span, with the event of each; a
deassertion, and a timer below the timeout, leave it. SUCCESS leaves no record STANDING in its zone; where the station's own
STANDING claims lie all in that zone, with the settle counter full in DISTURBED, the disturbance closes, and the entry into
CALM returns the confirmed record to IDLE and empties the trip list (the mark that this close leaves is the model's, log 31).
Where own claims stand on and the counter is full, another trip could be confirmed at once by the evaluation that follows and
close the disturbance, so those clauses ask that the other output's open-confirm is not asserted. -/
def Obligations.AssertedTripEndsConfirmedOrFailed : Prop :=
  ∀ (o : Output) (z : Zone) (x : Span) (s : State), s.working = true → s.run = .run →
    (s.linkage.trip o).state = .asserted → (s.linkage.trip o).zone = some z → (s.linkage.trip o).span = some x →
    let trip := s.linkage.trip o
    let standing := fun r : ClaimRecord => r.own = true ∧ r.status = .standing
    let settled := s.detector.assessment = .disturbed ∧ s.port.image.settleCount ≤ s.detector.settle ∧
      ∃ r ∈ s.register.records, standing r
    let closes := settled ∧ ∀ r ∈ s.register.records, standing r → InZone z r.span
    let alone := ¬ settled ∨ s.linkage.opened (match o with | .trip0 => .trip1 | .trip1 => .trip0) = false
    let offered := fun (result : TripResult) (t : State) =>
      ∃ q ∈ t.link.queue, q.item = .tripped ⟨result, o, z, x⟩ ∧ q.remaining = s.port.image.repeats + 1
    let told := fun (kind : EventKind) (detail : Detail) (t : State) =>
      s.port.image.entries = [] → s.register.pairs = pairsOf s.register.records → ∃ e ∈ t.port.events,
        e.kind = kind ∧ e.subject = .output o ∧ e.span = some x ∧ e.detail = detail
    (∃ t, exec (.openConfirmChange o true) s = .next t ∧
      (∀ r ∈ t.register.records, r.status = .standing → ¬ InZone z r.span) ∧
      told .tripConfirmed (.value trip.timer) t ∧
      (¬ closes → alone → t.linkage.trip o = { trip with state := .confirmed, driven := false } ∧ offered .success t) ∧
      (closes → t.detector = { calmed s.detector s.detector.reference with closedByChange := true } ∧
        (s.port.image.entries = [] →
          t.linkage.trip o = ⟨.idle, none, 0, none, none, false⟩ ∧ t.linkage.trips = [] ∧ offered .success t))) ∧
    (∃ t, exec (.openConfirmChange o false) s = .next t ∧ t.linkage.trip o = trip ∧
      t.register = s.register ∧ t.port = s.port) ∧
    (s.port.image.confirmTimeout ≤ trip.timer → ∃ t, exec (.tripFailed o) s = .next t ∧
      told .tripFailed (match trip.entry with | some k => .value k | none => .absent) t ∧
      (alone → t.linkage.trip o = { trip with state := .failed, driven := false } ∧ offered .failed t)) ∧
    (trip.timer < s.port.image.confirmTimeout →
      ∃ t, exec (.tripFailed o) s = .next t ∧ t = { s with link := t.link } ∧ LinkSettled s.link t)

/-- A BACKUP entry, alone in the table, whose RUNNING timer has reached b: the timer becomes EXPIRED, BACKUP_TRIP is recorded,
and the entry acts by PEN on the timer's candidate, driving its output, or recording WOULD_TRIP where it has not yet; below b
nothing happens, the link doing only what it does of itself. An evaluation, here a change of PEN's, starts its timer on the
chosen candidate, keeps it on its own while that satisfies, moves it to another, or abandons it. What a TRIPPED does to the
timers first: SUCCESS cancels those within its zone, FAILED expires the RUNNING ones with BACKUP_TRIP. After a SUCCESS that
joins the trip list none is left within the zone, and after a FAILED one the entry whose timer has expired acts by PEN. (The
span a timer's candidate had at the entry's latest evaluation is the one compared, by the model's choice, log 46.) -/
def Obligations.BackupTimerExpiresAtItsCount : Prop :=
  (∀ (e : LinkageEntry) (n : Nat) (c : TimerCandidate) (r : EntryRuntime) (s : State), s.working = true → s.run = .run →
    s.port.image.entries = [e] → e.role = .backup → e.trip0 = true → e.trip1 = false →
    s.linkage.entries[0]? = some r → r.spent = false → r.timer = .running n c →
    s.linkage.trip0.state = .idle → s.linkage.open0 = false →
    (let expired := record s .backupTrip .absent (some c.span) (.value 0)
     (e.backupEpochs ≤ n → s.linkage.pen = true → ∃ t, exec (.backupTrip 0) s = .next t ∧
       t = { s with
         linkage := { s.linkage with
           trip0 := ⟨.asserted, some 0, 0, some e.zone, some c.span, true⟩
           entries := s.linkage.entries.set 0 { r with timer := .expired c, spent := true } }
         port := (record expired .tripIssued (.output .trip0) (some c.span) (.value 0)).port
         link := t.link } ∧ LinkSettled s.link t) ∧
     (e.backupEpochs ≤ n → s.linkage.pen = false → r.wouldTrip = true → ∃ t, exec (.backupTrip 0) s = .next t ∧
       t = { s with
         linkage := { s.linkage with entries := s.linkage.entries.set 0 { r with timer := .expired c } }
         port := expired.port, link := t.link } ∧ LinkSettled s.link t) ∧
     (e.backupEpochs ≤ n → s.linkage.pen = false → r.wouldTrip = false → ∃ t, exec (.backupTrip 0) s = .next t ∧
       t = { s with
         linkage := { s.linkage with
           entries := s.linkage.entries.set 0 { r with timer := .expired c, wouldTrip := true } }
         port := (record expired .wouldTrip .absent (some c.span) (.value 0)).port, link := t.link } ∧
       LinkSettled s.link t) ∧
     (n < e.backupEpochs → ∃ t, exec (.backupTrip 0) s = .next t ∧ t = { s with link := t.link } ∧
       LinkSettled s.link t))) ∧
  (∀ (e : LinkageEntry) (r : EntryRuntime) (level : Bool) (s : State), s.working = true → s.run = .run →
    s.port.image.entries = [e] → e.role = .backup → s.linkage.entries[0]? = some r → r.spent = false →
    s.linkage.open0 = false → s.linkage.open1 = false → level ≠ s.linkage.pen →
    (let chosen := chosenCandidate s e
     let still := fun x : TimerCandidate =>
       (candidates s.register).find? (fun y => y.key = x.key && y.partner = x.partner && satisfies s e y)
     let becomes := fun timer : BackupTimer => ∃ t, exec (.penChange level) s = .next t ∧
       t = { s with
         penPin := level, link := t.link
         linkage := { s.linkage with pen := level, entries := s.linkage.entries.set 0 { r with timer := timer } } } ∧
       LinkSettled s.link t
     (r.timer = .off → chosen = none → becomes .off) ∧
     (∀ y, r.timer = .off → chosen = some y → becomes (.running 0 ⟨y.key, y.partner, y.span⟩)) ∧
     (∀ n x, r.timer = .running n x →
       (∀ y, still x = some y → becomes (.running n ⟨y.key, y.partner, y.span⟩)) ∧
       (still x = none → ∀ y, chosen = some y → becomes (.running n ⟨y.key, y.partner, y.span⟩)) ∧
       (still x = none → chosen = none → becomes .off)) ∧
     (∀ x, r.timer = .expired x →
       (∀ y, (still x).or chosen = some y → ∃ t r', exec (.penChange level) s = .next t ∧
         t.linkage.entries[0]? = some r' ∧ r'.timer = .expired ⟨y.key, y.partner, y.span⟩ ∧
         (level = true → r'.spent = true) ∧ (level = false → r'.wouldTrip = true ∧ r'.spent = false)) ∧
       ((still x).or chosen = none → becomes .off)))) ∧
  (∀ (c : TrippedContent) (s : State) (k : Nat) (r : EntryRuntime), k < 8 → s.linkage.entries[k]? = some r →
    (let t := timersByTripped c s
     t = { s with linkage := { s.linkage with entries := t.linkage.entries }, port := t.port } ∧
     t.linkage.entries.length = s.linkage.entries.length ∧
     ((∀ x, r.timer.candidate = some x → ¬ InZone c.zone x.span) → t.linkage.entries[k]? = some r) ∧
     (∀ x, r.timer.candidate = some x → InZone c.zone x.span →
       (c.result = .success → t.linkage.entries[k]? = some { r with timer := .off }) ∧
       (c.result = .failed → t.linkage.entries[k]? = some { r with timer := .expired x } ∧
         (∀ n, r.timer = .running n x → ∃ e ∈ t.port.events,
           e.kind = .backupTrip ∧ e.span = some x.span ∧ e.detail = .value k))))) ∧
  (∀ (frame : List Byte) (h : Header) (c : TrippedContent) (e : LinkageEntry) (r : EntryRuntime) (s : State),
    s.working = true → s.run = .run → s.fault.silent = false → s.port.image.entries = [e] → e.role = .backup →
    s.linkage.entries[0]? = some r → s.linkage.open0 = false → s.linkage.open1 = false →
    s.linkage.trips.length < 8 → receiveFilter s.port.image frame = .valid ⟨h, .tripped c⟩ →
    ∃ t r', exec (.trippedReceived frame) s = .next t ∧ t.linkage.entries[0]? = some r' ∧
      (c.result = .success →
        (∀ i ∈ s.linkage.trips, ¬ (i.sender = h.sender ∧ i.content.output = c.output ∧ i.content.result = c.result)) →
        s.detector.assessment ≠ .disturbed ∨ s.detector.settle < s.port.image.settleCount →
        ∀ x, r'.timer.candidate = some x → ¬ InZone c.zone x.span) ∧
      (∀ n x, c.result = .failed → r.spent = false → r.timer = .running n x → InZone c.zone x.span →
        ∀ y, (candidates s.register).find? (fun y => y.key = x.key && y.partner = x.partner && satisfies s e y) = some y →
          r'.timer = .expired ⟨y.key, y.partner, y.span⟩ ∧
          (∃ ev ∈ t.port.events, ev.kind = .backupTrip ∧ ev.span = some x.span ∧ ev.detail = .value 0) ∧
          (s.linkage.pen = true → r'.spent = true ∧
            (e.trip0 = true → s.linkage.trip0.state = .idle →
              t.linkage.trip0 = ⟨.asserted, some 0, 0, some e.zone, some y.span, true⟩)) ∧
          (s.linkage.pen = false → r'.spent = false ∧ r'.wouldTrip = true ∧ t.linkage.trip0 = s.linkage.trip0)))

/-! ## Fault unit -/

/-- JAMMED set at the busy count of 2 impairs the link, leaves no REPORT queued and no candidate chosen; SILENT is set at the
silence count of 10 with live peers, and cleared where either is wanting, IMPAIRED following the three faults. And at a
boundary that begins an own epoch: with JAMMED clear the busy epoch count rises where the line stayed asserted since the
boundary before and restarts where it did not, the mark follows the line, and at 2 JAMMED is set; with JAMMED set an idle line
clears it, with LINK_RESTORED, and an asserted one does not. -/
def Obligations.JammedAndSilentImpairTheLink : Prop :=
  (∀ s : State, s.working = true →
    (s.fault.jammed = false → 2 ≤ s.fault.busyEpochs → ∃ t, exec .jammedSet s = .next t ∧
      t.fault = { s.fault with jammed := true, impaired := true } ∧
      (∀ q ∈ t.link.queue, q.subject ≠ .report) ∧
      (s.run = .run → s.link.sending = false →
        t.link.sending = false ∧ t.link.access = .idle ∧ t.link.candidate = none)) ∧
    (s.fault.silence = 10 → s.fault.livePeers = true → s.fault.silent = false →
      ∃ t, exec .silentSet s = .next t ∧ t.fault = { s.fault with silent := true, impaired := true }) ∧
    (s.fault.silence ≠ 10 ∨ s.fault.livePeers = false → s.fault.silent = true →
      ∃ t, exec .silentSet s = .next t ∧
        t.fault = { s.fault with silent := false, impaired := s.fault.jammed || s.fault.xcvrFault })) ∧
  (∀ s : State, s.working = true → s.tracker.jump ≠ none ∨ s.tracker.epochLength ≤ s.tracker.cycleCount + 1 →
    s.fault.busyEpochs ≤ 2 →
    ∃ t, exec .cycleBoundary s = .next t ∧
      (let f := s.fault
       let told := fun kind => s.tracker.jump = none → s.link.windowOpen = false → s.link.sending = false →
         s.port.image.entries = [] → s.register.pairs = pairsOf s.register.records →
         ∃ e ∈ t.port.events, e.kind = kind ∧ e.subject = .absent ∧ e.span = none ∧ e.detail = .named .jammed
       (f.impaired = (f.jammed || f.xcvrFault || f.silent) →
         t.fault.impaired = (t.fault.jammed || t.fault.xcvrFault || t.fault.silent)) ∧
       (f.jammed = false →
         t.fault.busyEpochs = (if f.busyUnbroken = true then min 2 (f.busyEpochs + 1) else 0) ∧
         t.fault.busyUnbroken = s.busyPin ∧ (t.fault.jammed = true ↔ t.fault.busyEpochs = 2) ∧
         (t.fault.jammed = true → told .linkImpaired)) ∧
       (f.jammed = true → s.busyPin = false →
         t.fault.jammed = false ∧ t.fault.busyEpochs = 0 ∧ t.fault.busyUnbroken = false ∧ told .linkRestored) ∧
       (f.jammed = true → s.busyPin = true →
         t.fault.jammed = true ∧ t.fault.busyEpochs = f.busyEpochs ∧ t.fault.busyUnbroken = f.busyUnbroken)))
end

