-- ==== Sys2Proof/Laws/State.lean ====
section
/-! SUPPORT. One lemma per field per update of the state, so that no proof unfolds a record update. -/

namespace Sys2Proof.Machine

variable (s : State)

/-! ## `State.setQueue` -/

@[simp] theorem State.setQueue_run (q : List QueueEntry) : (s.setQueue q).run = s.run := rfl
@[simp] theorem State.setQueue_resetHeld (q : List QueueEntry) : (s.setQueue q).resetHeld = s.resetHeld := rfl
@[simp] theorem State.setQueue_timebase (q : List QueueEntry) : (s.setQueue q).timebase = s.timebase := rfl
@[simp] theorem State.setQueue_penPin (q : List QueueEntry) : (s.setQueue q).penPin = s.penPin := rfl
@[simp] theorem State.setQueue_openPin0 (q : List QueueEntry) : (s.setQueue q).openPin0 = s.openPin0 := rfl
@[simp] theorem State.setQueue_openPin1 (q : List QueueEntry) : (s.setQueue q).openPin1 = s.openPin1 := rfl
@[simp] theorem State.setQueue_busyPin (q : List QueueEntry) : (s.setQueue q).busyPin = s.busyPin := rfl
@[simp] theorem State.setQueue_tracker (q : List QueueEntry) : (s.setQueue q).tracker = s.tracker := rfl
@[simp] theorem State.setQueue_sampling (q : List QueueEntry) : (s.setQueue q).sampling = s.sampling := rfl
@[simp] theorem State.setQueue_engine (q : List QueueEntry) : (s.setQueue q).engine = s.engine := rfl
@[simp] theorem State.setQueue_detector (q : List QueueEntry) : (s.setQueue q).detector = s.detector := rfl
@[simp] theorem State.setQueue_link (q : List QueueEntry) : (s.setQueue q).link = { s.link with queue := q } := rfl
@[simp] theorem State.setQueue_timeline (q : List QueueEntry) : (s.setQueue q).timeline = s.timeline := rfl
@[simp] theorem State.setQueue_peers (q : List QueueEntry) : (s.setQueue q).peers = s.peers := rfl
@[simp] theorem State.setQueue_assessor (q : List QueueEntry) : (s.setQueue q).assessor = s.assessor := rfl
@[simp] theorem State.setQueue_register (q : List QueueEntry) : (s.setQueue q).register = s.register := rfl
@[simp] theorem State.setQueue_linkage (q : List QueueEntry) : (s.setQueue q).linkage = s.linkage := rfl
@[simp] theorem State.setQueue_fault (q : List QueueEntry) : (s.setQueue q).fault = s.fault := rfl
@[simp] theorem State.setQueue_port (q : List QueueEntry) : (s.setQueue q).port = s.port := rfl
@[simp] theorem State.setQueue_choices (q : List QueueEntry) : (s.setQueue q).choices = s.choices := rfl
@[simp] theorem State.setQueue_pending (q : List QueueEntry) : (s.setQueue q).pending = s.pending := rfl

/-! ## `State.setRecords` -/

@[simp] theorem State.setRecords_run (rs : List ClaimRecord) : (s.setRecords rs).run = s.run := rfl
@[simp] theorem State.setRecords_resetHeld (rs : List ClaimRecord) : (s.setRecords rs).resetHeld = s.resetHeld := rfl
@[simp] theorem State.setRecords_timebase (rs : List ClaimRecord) : (s.setRecords rs).timebase = s.timebase := rfl
@[simp] theorem State.setRecords_penPin (rs : List ClaimRecord) : (s.setRecords rs).penPin = s.penPin := rfl
@[simp] theorem State.setRecords_openPin0 (rs : List ClaimRecord) : (s.setRecords rs).openPin0 = s.openPin0 := rfl
@[simp] theorem State.setRecords_openPin1 (rs : List ClaimRecord) : (s.setRecords rs).openPin1 = s.openPin1 := rfl
@[simp] theorem State.setRecords_busyPin (rs : List ClaimRecord) : (s.setRecords rs).busyPin = s.busyPin := rfl
@[simp] theorem State.setRecords_tracker (rs : List ClaimRecord) : (s.setRecords rs).tracker = s.tracker := rfl
@[simp] theorem State.setRecords_sampling (rs : List ClaimRecord) : (s.setRecords rs).sampling = s.sampling := rfl
@[simp] theorem State.setRecords_engine (rs : List ClaimRecord) : (s.setRecords rs).engine = s.engine := rfl
@[simp] theorem State.setRecords_detector (rs : List ClaimRecord) : (s.setRecords rs).detector = s.detector := rfl
@[simp] theorem State.setRecords_link (rs : List ClaimRecord) : (s.setRecords rs).link = s.link := rfl
@[simp] theorem State.setRecords_timeline (rs : List ClaimRecord) : (s.setRecords rs).timeline = s.timeline := rfl
@[simp] theorem State.setRecords_peers (rs : List ClaimRecord) : (s.setRecords rs).peers = s.peers := rfl
@[simp] theorem State.setRecords_assessor (rs : List ClaimRecord) : (s.setRecords rs).assessor = s.assessor := rfl
@[simp] theorem State.setRecords_register (rs : List ClaimRecord) : (s.setRecords rs).register = { s.register with records := rs } := rfl
@[simp] theorem State.setRecords_linkage (rs : List ClaimRecord) : (s.setRecords rs).linkage = s.linkage := rfl
@[simp] theorem State.setRecords_fault (rs : List ClaimRecord) : (s.setRecords rs).fault = s.fault := rfl
@[simp] theorem State.setRecords_port (rs : List ClaimRecord) : (s.setRecords rs).port = s.port := rfl
@[simp] theorem State.setRecords_choices (rs : List ClaimRecord) : (s.setRecords rs).choices = s.choices := rfl
@[simp] theorem State.setRecords_pending (rs : List ClaimRecord) : (s.setRecords rs).pending = s.pending := rfl

/-! ## `State.setDetector` -/

@[simp] theorem State.setDetector_run (d : Detector) : (s.setDetector d).run = s.run := rfl
@[simp] theorem State.setDetector_resetHeld (d : Detector) : (s.setDetector d).resetHeld = s.resetHeld := rfl
@[simp] theorem State.setDetector_timebase (d : Detector) : (s.setDetector d).timebase = s.timebase := rfl
@[simp] theorem State.setDetector_penPin (d : Detector) : (s.setDetector d).penPin = s.penPin := rfl
@[simp] theorem State.setDetector_openPin0 (d : Detector) : (s.setDetector d).openPin0 = s.openPin0 := rfl
@[simp] theorem State.setDetector_openPin1 (d : Detector) : (s.setDetector d).openPin1 = s.openPin1 := rfl
@[simp] theorem State.setDetector_busyPin (d : Detector) : (s.setDetector d).busyPin = s.busyPin := rfl
@[simp] theorem State.setDetector_tracker (d : Detector) : (s.setDetector d).tracker = s.tracker := rfl
@[simp] theorem State.setDetector_sampling (d : Detector) : (s.setDetector d).sampling = s.sampling := rfl
@[simp] theorem State.setDetector_engine (d : Detector) : (s.setDetector d).engine = s.engine := rfl
@[simp] theorem State.setDetector_detector (d : Detector) : (s.setDetector d).detector = d := rfl
@[simp] theorem State.setDetector_link (d : Detector) : (s.setDetector d).link = s.link := rfl
@[simp] theorem State.setDetector_timeline (d : Detector) : (s.setDetector d).timeline = s.timeline := rfl
@[simp] theorem State.setDetector_peers (d : Detector) : (s.setDetector d).peers = s.peers := rfl
@[simp] theorem State.setDetector_assessor (d : Detector) : (s.setDetector d).assessor = s.assessor := rfl
@[simp] theorem State.setDetector_register (d : Detector) : (s.setDetector d).register = s.register := rfl
@[simp] theorem State.setDetector_linkage (d : Detector) : (s.setDetector d).linkage = s.linkage := rfl
@[simp] theorem State.setDetector_fault (d : Detector) : (s.setDetector d).fault = s.fault := rfl
@[simp] theorem State.setDetector_port (d : Detector) : (s.setDetector d).port = s.port := rfl
@[simp] theorem State.setDetector_choices (d : Detector) : (s.setDetector d).choices = s.choices := rfl
@[simp] theorem State.setDetector_pending (d : Detector) : (s.setDetector d).pending = s.pending := rfl

/-! ## `State.setFault` -/

@[simp] theorem State.setFault_run (f : FaultUnit) : (s.setFault f).run = s.run := rfl
@[simp] theorem State.setFault_resetHeld (f : FaultUnit) : (s.setFault f).resetHeld = s.resetHeld := rfl
@[simp] theorem State.setFault_timebase (f : FaultUnit) : (s.setFault f).timebase = s.timebase := rfl
@[simp] theorem State.setFault_penPin (f : FaultUnit) : (s.setFault f).penPin = s.penPin := rfl
@[simp] theorem State.setFault_openPin0 (f : FaultUnit) : (s.setFault f).openPin0 = s.openPin0 := rfl
@[simp] theorem State.setFault_openPin1 (f : FaultUnit) : (s.setFault f).openPin1 = s.openPin1 := rfl
@[simp] theorem State.setFault_busyPin (f : FaultUnit) : (s.setFault f).busyPin = s.busyPin := rfl
@[simp] theorem State.setFault_tracker (f : FaultUnit) : (s.setFault f).tracker = s.tracker := rfl
@[simp] theorem State.setFault_sampling (f : FaultUnit) : (s.setFault f).sampling = s.sampling := rfl
@[simp] theorem State.setFault_engine (f : FaultUnit) : (s.setFault f).engine = s.engine := rfl
@[simp] theorem State.setFault_detector (f : FaultUnit) : (s.setFault f).detector = s.detector := rfl
@[simp] theorem State.setFault_link (f : FaultUnit) : (s.setFault f).link = s.link := rfl
@[simp] theorem State.setFault_timeline (f : FaultUnit) : (s.setFault f).timeline = s.timeline := rfl
@[simp] theorem State.setFault_peers (f : FaultUnit) : (s.setFault f).peers = s.peers := rfl
@[simp] theorem State.setFault_assessor (f : FaultUnit) : (s.setFault f).assessor = s.assessor := rfl
@[simp] theorem State.setFault_register (f : FaultUnit) : (s.setFault f).register = s.register := rfl
@[simp] theorem State.setFault_linkage (f : FaultUnit) : (s.setFault f).linkage = s.linkage := rfl
@[simp] theorem State.setFault_fault (f : FaultUnit) : (s.setFault f).fault = f := rfl
@[simp] theorem State.setFault_port (f : FaultUnit) : (s.setFault f).port = s.port := rfl
@[simp] theorem State.setFault_choices (f : FaultUnit) : (s.setFault f).choices = s.choices := rfl
@[simp] theorem State.setFault_pending (f : FaultUnit) : (s.setFault f).pending = s.pending := rfl

/-! ## `State.setEntries` -/

@[simp] theorem State.setEntries_run (es : List PeerEntry) : (s.setEntries es).run = s.run := rfl
@[simp] theorem State.setEntries_resetHeld (es : List PeerEntry) : (s.setEntries es).resetHeld = s.resetHeld := rfl
@[simp] theorem State.setEntries_timebase (es : List PeerEntry) : (s.setEntries es).timebase = s.timebase := rfl
@[simp] theorem State.setEntries_penPin (es : List PeerEntry) : (s.setEntries es).penPin = s.penPin := rfl
@[simp] theorem State.setEntries_openPin0 (es : List PeerEntry) : (s.setEntries es).openPin0 = s.openPin0 := rfl
@[simp] theorem State.setEntries_openPin1 (es : List PeerEntry) : (s.setEntries es).openPin1 = s.openPin1 := rfl
@[simp] theorem State.setEntries_busyPin (es : List PeerEntry) : (s.setEntries es).busyPin = s.busyPin := rfl
@[simp] theorem State.setEntries_tracker (es : List PeerEntry) : (s.setEntries es).tracker = s.tracker := rfl
@[simp] theorem State.setEntries_sampling (es : List PeerEntry) : (s.setEntries es).sampling = s.sampling := rfl
@[simp] theorem State.setEntries_engine (es : List PeerEntry) : (s.setEntries es).engine = s.engine := rfl
@[simp] theorem State.setEntries_detector (es : List PeerEntry) : (s.setEntries es).detector = s.detector := rfl
@[simp] theorem State.setEntries_link (es : List PeerEntry) : (s.setEntries es).link = s.link := rfl
@[simp] theorem State.setEntries_timeline (es : List PeerEntry) : (s.setEntries es).timeline = s.timeline := rfl
@[simp] theorem State.setEntries_peers (es : List PeerEntry) : (s.setEntries es).peers = { s.peers with entries := es } := rfl
@[simp] theorem State.setEntries_assessor (es : List PeerEntry) : (s.setEntries es).assessor = s.assessor := rfl
@[simp] theorem State.setEntries_register (es : List PeerEntry) : (s.setEntries es).register = s.register := rfl
@[simp] theorem State.setEntries_linkage (es : List PeerEntry) : (s.setEntries es).linkage = s.linkage := rfl
@[simp] theorem State.setEntries_fault (es : List PeerEntry) : (s.setEntries es).fault = s.fault := rfl
@[simp] theorem State.setEntries_port (es : List PeerEntry) : (s.setEntries es).port = s.port := rfl
@[simp] theorem State.setEntries_choices (es : List PeerEntry) : (s.setEntries es).choices = s.choices := rfl
@[simp] theorem State.setEntries_pending (es : List PeerEntry) : (s.setEntries es).pending = s.pending := rfl

/-! ## `State.setTimeline` -/

@[simp] theorem State.setTimeline_run (x : Timeline) : (s.setTimeline x).run = s.run := rfl
@[simp] theorem State.setTimeline_resetHeld (x : Timeline) : (s.setTimeline x).resetHeld = s.resetHeld := rfl
@[simp] theorem State.setTimeline_timebase (x : Timeline) : (s.setTimeline x).timebase = s.timebase := rfl
@[simp] theorem State.setTimeline_penPin (x : Timeline) : (s.setTimeline x).penPin = s.penPin := rfl
@[simp] theorem State.setTimeline_openPin0 (x : Timeline) : (s.setTimeline x).openPin0 = s.openPin0 := rfl
@[simp] theorem State.setTimeline_openPin1 (x : Timeline) : (s.setTimeline x).openPin1 = s.openPin1 := rfl
@[simp] theorem State.setTimeline_busyPin (x : Timeline) : (s.setTimeline x).busyPin = s.busyPin := rfl
@[simp] theorem State.setTimeline_tracker (x : Timeline) : (s.setTimeline x).tracker = s.tracker := rfl
@[simp] theorem State.setTimeline_sampling (x : Timeline) : (s.setTimeline x).sampling = s.sampling := rfl
@[simp] theorem State.setTimeline_engine (x : Timeline) : (s.setTimeline x).engine = s.engine := rfl
@[simp] theorem State.setTimeline_detector (x : Timeline) : (s.setTimeline x).detector = s.detector := rfl
@[simp] theorem State.setTimeline_link (x : Timeline) : (s.setTimeline x).link = s.link := rfl
@[simp] theorem State.setTimeline_timeline (x : Timeline) : (s.setTimeline x).timeline = x := rfl
@[simp] theorem State.setTimeline_peers (x : Timeline) : (s.setTimeline x).peers = s.peers := rfl
@[simp] theorem State.setTimeline_assessor (x : Timeline) : (s.setTimeline x).assessor = s.assessor := rfl
@[simp] theorem State.setTimeline_register (x : Timeline) : (s.setTimeline x).register = s.register := rfl
@[simp] theorem State.setTimeline_linkage (x : Timeline) : (s.setTimeline x).linkage = s.linkage := rfl
@[simp] theorem State.setTimeline_fault (x : Timeline) : (s.setTimeline x).fault = s.fault := rfl
@[simp] theorem State.setTimeline_port (x : Timeline) : (s.setTimeline x).port = s.port := rfl
@[simp] theorem State.setTimeline_choices (x : Timeline) : (s.setTimeline x).choices = s.choices := rfl
@[simp] theorem State.setTimeline_pending (x : Timeline) : (s.setTimeline x).pending = s.pending := rfl

/-! ## `State.setAssessor` -/

@[simp] theorem State.setAssessor_run (a : Assessor) : (s.setAssessor a).run = s.run := rfl
@[simp] theorem State.setAssessor_resetHeld (a : Assessor) : (s.setAssessor a).resetHeld = s.resetHeld := rfl
@[simp] theorem State.setAssessor_timebase (a : Assessor) : (s.setAssessor a).timebase = s.timebase := rfl
@[simp] theorem State.setAssessor_penPin (a : Assessor) : (s.setAssessor a).penPin = s.penPin := rfl
@[simp] theorem State.setAssessor_openPin0 (a : Assessor) : (s.setAssessor a).openPin0 = s.openPin0 := rfl
@[simp] theorem State.setAssessor_openPin1 (a : Assessor) : (s.setAssessor a).openPin1 = s.openPin1 := rfl
@[simp] theorem State.setAssessor_busyPin (a : Assessor) : (s.setAssessor a).busyPin = s.busyPin := rfl
@[simp] theorem State.setAssessor_tracker (a : Assessor) : (s.setAssessor a).tracker = s.tracker := rfl
@[simp] theorem State.setAssessor_sampling (a : Assessor) : (s.setAssessor a).sampling = s.sampling := rfl
@[simp] theorem State.setAssessor_engine (a : Assessor) : (s.setAssessor a).engine = s.engine := rfl
@[simp] theorem State.setAssessor_detector (a : Assessor) : (s.setAssessor a).detector = s.detector := rfl
@[simp] theorem State.setAssessor_link (a : Assessor) : (s.setAssessor a).link = s.link := rfl
@[simp] theorem State.setAssessor_timeline (a : Assessor) : (s.setAssessor a).timeline = s.timeline := rfl
@[simp] theorem State.setAssessor_peers (a : Assessor) : (s.setAssessor a).peers = s.peers := rfl
@[simp] theorem State.setAssessor_assessor (a : Assessor) : (s.setAssessor a).assessor = a := rfl
@[simp] theorem State.setAssessor_register (a : Assessor) : (s.setAssessor a).register = s.register := rfl
@[simp] theorem State.setAssessor_linkage (a : Assessor) : (s.setAssessor a).linkage = s.linkage := rfl
@[simp] theorem State.setAssessor_fault (a : Assessor) : (s.setAssessor a).fault = s.fault := rfl
@[simp] theorem State.setAssessor_port (a : Assessor) : (s.setAssessor a).port = s.port := rfl
@[simp] theorem State.setAssessor_choices (a : Assessor) : (s.setAssessor a).choices = s.choices := rfl
@[simp] theorem State.setAssessor_pending (a : Assessor) : (s.setAssessor a).pending = s.pending := rfl

/-! ## `State.setLink` -/

@[simp] theorem State.setLink_run (l : Link) : (s.setLink l).run = s.run := rfl
@[simp] theorem State.setLink_resetHeld (l : Link) : (s.setLink l).resetHeld = s.resetHeld := rfl
@[simp] theorem State.setLink_timebase (l : Link) : (s.setLink l).timebase = s.timebase := rfl
@[simp] theorem State.setLink_penPin (l : Link) : (s.setLink l).penPin = s.penPin := rfl
@[simp] theorem State.setLink_openPin0 (l : Link) : (s.setLink l).openPin0 = s.openPin0 := rfl
@[simp] theorem State.setLink_openPin1 (l : Link) : (s.setLink l).openPin1 = s.openPin1 := rfl
@[simp] theorem State.setLink_busyPin (l : Link) : (s.setLink l).busyPin = s.busyPin := rfl
@[simp] theorem State.setLink_tracker (l : Link) : (s.setLink l).tracker = s.tracker := rfl
@[simp] theorem State.setLink_sampling (l : Link) : (s.setLink l).sampling = s.sampling := rfl
@[simp] theorem State.setLink_engine (l : Link) : (s.setLink l).engine = s.engine := rfl
@[simp] theorem State.setLink_detector (l : Link) : (s.setLink l).detector = s.detector := rfl
@[simp] theorem State.setLink_link (l : Link) : (s.setLink l).link = l := rfl
@[simp] theorem State.setLink_timeline (l : Link) : (s.setLink l).timeline = s.timeline := rfl
@[simp] theorem State.setLink_peers (l : Link) : (s.setLink l).peers = s.peers := rfl
@[simp] theorem State.setLink_assessor (l : Link) : (s.setLink l).assessor = s.assessor := rfl
@[simp] theorem State.setLink_register (l : Link) : (s.setLink l).register = s.register := rfl
@[simp] theorem State.setLink_linkage (l : Link) : (s.setLink l).linkage = s.linkage := rfl
@[simp] theorem State.setLink_fault (l : Link) : (s.setLink l).fault = s.fault := rfl
@[simp] theorem State.setLink_port (l : Link) : (s.setLink l).port = s.port := rfl
@[simp] theorem State.setLink_choices (l : Link) : (s.setLink l).choices = s.choices := rfl
@[simp] theorem State.setLink_pending (l : Link) : (s.setLink l).pending = s.pending := rfl

/-! ## `State.setTracker` -/

@[simp] theorem State.setTracker_run (k : Tracker) : (s.setTracker k).run = s.run := rfl
@[simp] theorem State.setTracker_resetHeld (k : Tracker) : (s.setTracker k).resetHeld = s.resetHeld := rfl
@[simp] theorem State.setTracker_timebase (k : Tracker) : (s.setTracker k).timebase = s.timebase := rfl
@[simp] theorem State.setTracker_penPin (k : Tracker) : (s.setTracker k).penPin = s.penPin := rfl
@[simp] theorem State.setTracker_openPin0 (k : Tracker) : (s.setTracker k).openPin0 = s.openPin0 := rfl
@[simp] theorem State.setTracker_openPin1 (k : Tracker) : (s.setTracker k).openPin1 = s.openPin1 := rfl
@[simp] theorem State.setTracker_busyPin (k : Tracker) : (s.setTracker k).busyPin = s.busyPin := rfl
@[simp] theorem State.setTracker_tracker (k : Tracker) : (s.setTracker k).tracker = k := rfl
@[simp] theorem State.setTracker_sampling (k : Tracker) : (s.setTracker k).sampling = s.sampling := rfl
@[simp] theorem State.setTracker_engine (k : Tracker) : (s.setTracker k).engine = s.engine := rfl
@[simp] theorem State.setTracker_detector (k : Tracker) : (s.setTracker k).detector = s.detector := rfl
@[simp] theorem State.setTracker_link (k : Tracker) : (s.setTracker k).link = s.link := rfl
@[simp] theorem State.setTracker_timeline (k : Tracker) : (s.setTracker k).timeline = s.timeline := rfl
@[simp] theorem State.setTracker_peers (k : Tracker) : (s.setTracker k).peers = s.peers := rfl
@[simp] theorem State.setTracker_assessor (k : Tracker) : (s.setTracker k).assessor = s.assessor := rfl
@[simp] theorem State.setTracker_register (k : Tracker) : (s.setTracker k).register = s.register := rfl
@[simp] theorem State.setTracker_linkage (k : Tracker) : (s.setTracker k).linkage = s.linkage := rfl
@[simp] theorem State.setTracker_fault (k : Tracker) : (s.setTracker k).fault = s.fault := rfl
@[simp] theorem State.setTracker_port (k : Tracker) : (s.setTracker k).port = s.port := rfl
@[simp] theorem State.setTracker_choices (k : Tracker) : (s.setTracker k).choices = s.choices := rfl
@[simp] theorem State.setTracker_pending (k : Tracker) : (s.setTracker k).pending = s.pending := rfl

/-! ## `State.setEngine` -/

@[simp] theorem State.setEngine_run (e : Engine) : (s.setEngine e).run = s.run := rfl
@[simp] theorem State.setEngine_resetHeld (e : Engine) : (s.setEngine e).resetHeld = s.resetHeld := rfl
@[simp] theorem State.setEngine_timebase (e : Engine) : (s.setEngine e).timebase = s.timebase := rfl
@[simp] theorem State.setEngine_penPin (e : Engine) : (s.setEngine e).penPin = s.penPin := rfl
@[simp] theorem State.setEngine_openPin0 (e : Engine) : (s.setEngine e).openPin0 = s.openPin0 := rfl
@[simp] theorem State.setEngine_openPin1 (e : Engine) : (s.setEngine e).openPin1 = s.openPin1 := rfl
@[simp] theorem State.setEngine_busyPin (e : Engine) : (s.setEngine e).busyPin = s.busyPin := rfl
@[simp] theorem State.setEngine_tracker (e : Engine) : (s.setEngine e).tracker = s.tracker := rfl
@[simp] theorem State.setEngine_sampling (e : Engine) : (s.setEngine e).sampling = s.sampling := rfl
@[simp] theorem State.setEngine_engine (e : Engine) : (s.setEngine e).engine = e := rfl
@[simp] theorem State.setEngine_detector (e : Engine) : (s.setEngine e).detector = s.detector := rfl
@[simp] theorem State.setEngine_link (e : Engine) : (s.setEngine e).link = s.link := rfl
@[simp] theorem State.setEngine_timeline (e : Engine) : (s.setEngine e).timeline = s.timeline := rfl
@[simp] theorem State.setEngine_peers (e : Engine) : (s.setEngine e).peers = s.peers := rfl
@[simp] theorem State.setEngine_assessor (e : Engine) : (s.setEngine e).assessor = s.assessor := rfl
@[simp] theorem State.setEngine_register (e : Engine) : (s.setEngine e).register = s.register := rfl
@[simp] theorem State.setEngine_linkage (e : Engine) : (s.setEngine e).linkage = s.linkage := rfl
@[simp] theorem State.setEngine_fault (e : Engine) : (s.setEngine e).fault = s.fault := rfl
@[simp] theorem State.setEngine_port (e : Engine) : (s.setEngine e).port = s.port := rfl
@[simp] theorem State.setEngine_choices (e : Engine) : (s.setEngine e).choices = s.choices := rfl
@[simp] theorem State.setEngine_pending (e : Engine) : (s.setEngine e).pending = s.pending := rfl

/-! ## `State.setPort` -/

@[simp] theorem State.setPort_run (p : Port) : (s.setPort p).run = s.run := rfl
@[simp] theorem State.setPort_resetHeld (p : Port) : (s.setPort p).resetHeld = s.resetHeld := rfl
@[simp] theorem State.setPort_timebase (p : Port) : (s.setPort p).timebase = s.timebase := rfl
@[simp] theorem State.setPort_penPin (p : Port) : (s.setPort p).penPin = s.penPin := rfl
@[simp] theorem State.setPort_openPin0 (p : Port) : (s.setPort p).openPin0 = s.openPin0 := rfl
@[simp] theorem State.setPort_openPin1 (p : Port) : (s.setPort p).openPin1 = s.openPin1 := rfl
@[simp] theorem State.setPort_busyPin (p : Port) : (s.setPort p).busyPin = s.busyPin := rfl
@[simp] theorem State.setPort_tracker (p : Port) : (s.setPort p).tracker = s.tracker := rfl
@[simp] theorem State.setPort_sampling (p : Port) : (s.setPort p).sampling = s.sampling := rfl
@[simp] theorem State.setPort_engine (p : Port) : (s.setPort p).engine = s.engine := rfl
@[simp] theorem State.setPort_detector (p : Port) : (s.setPort p).detector = s.detector := rfl
@[simp] theorem State.setPort_link (p : Port) : (s.setPort p).link = s.link := rfl
@[simp] theorem State.setPort_timeline (p : Port) : (s.setPort p).timeline = s.timeline := rfl
@[simp] theorem State.setPort_peers (p : Port) : (s.setPort p).peers = s.peers := rfl
@[simp] theorem State.setPort_assessor (p : Port) : (s.setPort p).assessor = s.assessor := rfl
@[simp] theorem State.setPort_register (p : Port) : (s.setPort p).register = s.register := rfl
@[simp] theorem State.setPort_linkage (p : Port) : (s.setPort p).linkage = s.linkage := rfl
@[simp] theorem State.setPort_fault (p : Port) : (s.setPort p).fault = s.fault := rfl
@[simp] theorem State.setPort_port (p : Port) : (s.setPort p).port = p := rfl
@[simp] theorem State.setPort_choices (p : Port) : (s.setPort p).choices = s.choices := rfl
@[simp] theorem State.setPort_pending (p : Port) : (s.setPort p).pending = s.pending := rfl

/-! ## `record` -/

@[simp] theorem record_run (k : EventKind) (x : EventSubject) (y : Option Span) (d : Detail) :
    (record s k x y d).run = s.run := rfl
@[simp] theorem record_resetHeld (k : EventKind) (x : EventSubject) (y : Option Span) (d : Detail) :
    (record s k x y d).resetHeld = s.resetHeld := rfl
@[simp] theorem record_timebase (k : EventKind) (x : EventSubject) (y : Option Span) (d : Detail) :
    (record s k x y d).timebase = s.timebase := rfl
@[simp] theorem record_penPin (k : EventKind) (x : EventSubject) (y : Option Span) (d : Detail) :
    (record s k x y d).penPin = s.penPin := rfl
@[simp] theorem record_openPin0 (k : EventKind) (x : EventSubject) (y : Option Span) (d : Detail) :
    (record s k x y d).openPin0 = s.openPin0 := rfl
@[simp] theorem record_openPin1 (k : EventKind) (x : EventSubject) (y : Option Span) (d : Detail) :
    (record s k x y d).openPin1 = s.openPin1 := rfl
@[simp] theorem record_busyPin (k : EventKind) (x : EventSubject) (y : Option Span) (d : Detail) :
    (record s k x y d).busyPin = s.busyPin := rfl
@[simp] theorem record_tracker (k : EventKind) (x : EventSubject) (y : Option Span) (d : Detail) :
    (record s k x y d).tracker = s.tracker := rfl
@[simp] theorem record_sampling (k : EventKind) (x : EventSubject) (y : Option Span) (d : Detail) :
    (record s k x y d).sampling = s.sampling := rfl
@[simp] theorem record_engine (k : EventKind) (x : EventSubject) (y : Option Span) (d : Detail) :
    (record s k x y d).engine = s.engine := rfl
@[simp] theorem record_detector (k : EventKind) (x : EventSubject) (y : Option Span) (d : Detail) :
    (record s k x y d).detector = s.detector := rfl
@[simp] theorem record_link (k : EventKind) (x : EventSubject) (y : Option Span) (d : Detail) :
    (record s k x y d).link = s.link := rfl
@[simp] theorem record_timeline (k : EventKind) (x : EventSubject) (y : Option Span) (d : Detail) :
    (record s k x y d).timeline = s.timeline := rfl
@[simp] theorem record_peers (k : EventKind) (x : EventSubject) (y : Option Span) (d : Detail) :
    (record s k x y d).peers = s.peers := rfl
@[simp] theorem record_assessor (k : EventKind) (x : EventSubject) (y : Option Span) (d : Detail) :
    (record s k x y d).assessor = s.assessor := rfl
@[simp] theorem record_register (k : EventKind) (x : EventSubject) (y : Option Span) (d : Detail) :
    (record s k x y d).register = s.register := rfl
@[simp] theorem record_linkage (k : EventKind) (x : EventSubject) (y : Option Span) (d : Detail) :
    (record s k x y d).linkage = s.linkage := rfl
@[simp] theorem record_fault (k : EventKind) (x : EventSubject) (y : Option Span) (d : Detail) :
    (record s k x y d).fault = s.fault := rfl
@[simp] theorem record_choices (k : EventKind) (x : EventSubject) (y : Option Span) (d : Detail) :
    (record s k x y d).choices = s.choices := rfl
@[simp] theorem record_pending (k : EventKind) (x : EventSubject) (y : Option Span) (d : Detail) :
    (record s k x y d).pending = s.pending := rfl
@[simp] theorem record_port_busy (k : EventKind) (x : EventSubject) (y : Option Span) (d : Detail) :
    (record s k x y d).port.busy = s.port.busy := rfl
@[simp] theorem record_port_validationStart (k : EventKind) (x : EventSubject) (y : Option Span) (d : Detail) :
    (record s k x y d).port.validationStart = s.port.validationStart := rfl
@[simp] theorem record_port_image (k : EventKind) (x : EventSubject) (y : Option Span) (d : Detail) :
    (record s k x y d).port.image = s.port.image := rfl
@[simp] theorem record_port_reply (k : EventKind) (x : EventSubject) (y : Option Span) (d : Detail) :
    (record s k x y d).port.reply = s.port.reply := rfl
@[simp] theorem record_port_shifted (k : EventKind) (x : EventSubject) (y : Option Span) (d : Detail) :
    (record s k x y d).port.shifted = s.port.shifted := rfl
@[simp] theorem record_port_attention (k : EventKind) (x : EventSubject) (y : Option Span) (d : Detail) :
    (record s k x y d).port.attention = true := rfl
@[simp] theorem record_port_eventSequence (k : EventKind) (x : EventSubject) (y : Option Span) (d : Detail) :
    (record s k x y d).port.eventSequence = s.port.eventSequence + 1 := rfl

/-! ## `setTrip` and `modifyRuntime` -/

@[simp] theorem setTrip_run (o : Output) (r : TripRecord) : (setTrip o r s).run = s.run := by cases o <;> rfl
@[simp] theorem setTrip_resetHeld (o : Output) (r : TripRecord) : (setTrip o r s).resetHeld = s.resetHeld := by cases o <;> rfl
@[simp] theorem setTrip_timebase (o : Output) (r : TripRecord) : (setTrip o r s).timebase = s.timebase := by cases o <;> rfl
@[simp] theorem setTrip_penPin (o : Output) (r : TripRecord) : (setTrip o r s).penPin = s.penPin := by cases o <;> rfl
@[simp] theorem setTrip_openPin0 (o : Output) (r : TripRecord) : (setTrip o r s).openPin0 = s.openPin0 := by cases o <;> rfl
@[simp] theorem setTrip_openPin1 (o : Output) (r : TripRecord) : (setTrip o r s).openPin1 = s.openPin1 := by cases o <;> rfl
@[simp] theorem setTrip_busyPin (o : Output) (r : TripRecord) : (setTrip o r s).busyPin = s.busyPin := by cases o <;> rfl
@[simp] theorem setTrip_tracker (o : Output) (r : TripRecord) : (setTrip o r s).tracker = s.tracker := by cases o <;> rfl
@[simp] theorem setTrip_sampling (o : Output) (r : TripRecord) : (setTrip o r s).sampling = s.sampling := by cases o <;> rfl
@[simp] theorem setTrip_engine (o : Output) (r : TripRecord) : (setTrip o r s).engine = s.engine := by cases o <;> rfl
@[simp] theorem setTrip_detector (o : Output) (r : TripRecord) : (setTrip o r s).detector = s.detector := by cases o <;> rfl
@[simp] theorem setTrip_link (o : Output) (r : TripRecord) : (setTrip o r s).link = s.link := by cases o <;> rfl
@[simp] theorem setTrip_timeline (o : Output) (r : TripRecord) : (setTrip o r s).timeline = s.timeline := by cases o <;> rfl
@[simp] theorem setTrip_peers (o : Output) (r : TripRecord) : (setTrip o r s).peers = s.peers := by cases o <;> rfl
@[simp] theorem setTrip_assessor (o : Output) (r : TripRecord) : (setTrip o r s).assessor = s.assessor := by cases o <;> rfl
@[simp] theorem setTrip_register (o : Output) (r : TripRecord) : (setTrip o r s).register = s.register := by cases o <;> rfl
@[simp] theorem setTrip_fault (o : Output) (r : TripRecord) : (setTrip o r s).fault = s.fault := by cases o <;> rfl
@[simp] theorem setTrip_port (o : Output) (r : TripRecord) : (setTrip o r s).port = s.port := by cases o <;> rfl
@[simp] theorem setTrip_choices (o : Output) (r : TripRecord) : (setTrip o r s).choices = s.choices := by cases o <;> rfl
@[simp] theorem setTrip_pending (o : Output) (r : TripRecord) : (setTrip o r s).pending = s.pending := by cases o <;> rfl
@[simp] theorem setTrip_linkage_entries (o : Output) (r : TripRecord) :
    (setTrip o r s).linkage.entries = s.linkage.entries := by cases o <;> rfl
@[simp] theorem setTrip_linkage_trips (o : Output) (r : TripRecord) :
    (setTrip o r s).linkage.trips = s.linkage.trips := by cases o <;> rfl
@[simp] theorem setTrip_linkage_pen (o : Output) (r : TripRecord) :
    (setTrip o r s).linkage.pen = s.linkage.pen := by cases o <;> rfl
@[simp] theorem setTrip_linkage_open0 (o : Output) (r : TripRecord) :
    (setTrip o r s).linkage.open0 = s.linkage.open0 := by cases o <;> rfl
@[simp] theorem setTrip_linkage_open1 (o : Output) (r : TripRecord) :
    (setTrip o r s).linkage.open1 = s.linkage.open1 := by cases o <;> rfl
@[simp] theorem setTrip_trip (o : Output) (r : TripRecord) : (setTrip o r s).linkage.trip o = r := by cases o <;> rfl
@[simp] theorem modifyRuntime_run (k : Nat) (f : EntryRuntime → EntryRuntime) :
    (modifyRuntime k f s).run = s.run := rfl
@[simp] theorem modifyRuntime_resetHeld (k : Nat) (f : EntryRuntime → EntryRuntime) :
    (modifyRuntime k f s).resetHeld = s.resetHeld := rfl
@[simp] theorem modifyRuntime_timebase (k : Nat) (f : EntryRuntime → EntryRuntime) :
    (modifyRuntime k f s).timebase = s.timebase := rfl
@[simp] theorem modifyRuntime_penPin (k : Nat) (f : EntryRuntime → EntryRuntime) :
    (modifyRuntime k f s).penPin = s.penPin := rfl
@[simp] theorem modifyRuntime_openPin0 (k : Nat) (f : EntryRuntime → EntryRuntime) :
    (modifyRuntime k f s).openPin0 = s.openPin0 := rfl
@[simp] theorem modifyRuntime_openPin1 (k : Nat) (f : EntryRuntime → EntryRuntime) :
    (modifyRuntime k f s).openPin1 = s.openPin1 := rfl
@[simp] theorem modifyRuntime_busyPin (k : Nat) (f : EntryRuntime → EntryRuntime) :
    (modifyRuntime k f s).busyPin = s.busyPin := rfl
@[simp] theorem modifyRuntime_tracker (k : Nat) (f : EntryRuntime → EntryRuntime) :
    (modifyRuntime k f s).tracker = s.tracker := rfl
@[simp] theorem modifyRuntime_sampling (k : Nat) (f : EntryRuntime → EntryRuntime) :
    (modifyRuntime k f s).sampling = s.sampling := rfl
@[simp] theorem modifyRuntime_engine (k : Nat) (f : EntryRuntime → EntryRuntime) :
    (modifyRuntime k f s).engine = s.engine := rfl
@[simp] theorem modifyRuntime_detector (k : Nat) (f : EntryRuntime → EntryRuntime) :
    (modifyRuntime k f s).detector = s.detector := rfl
@[simp] theorem modifyRuntime_link (k : Nat) (f : EntryRuntime → EntryRuntime) :
    (modifyRuntime k f s).link = s.link := rfl
@[simp] theorem modifyRuntime_timeline (k : Nat) (f : EntryRuntime → EntryRuntime) :
    (modifyRuntime k f s).timeline = s.timeline := rfl
@[simp] theorem modifyRuntime_peers (k : Nat) (f : EntryRuntime → EntryRuntime) :
    (modifyRuntime k f s).peers = s.peers := rfl
@[simp] theorem modifyRuntime_assessor (k : Nat) (f : EntryRuntime → EntryRuntime) :
    (modifyRuntime k f s).assessor = s.assessor := rfl
@[simp] theorem modifyRuntime_register (k : Nat) (f : EntryRuntime → EntryRuntime) :
    (modifyRuntime k f s).register = s.register := rfl
@[simp] theorem modifyRuntime_fault (k : Nat) (f : EntryRuntime → EntryRuntime) :
    (modifyRuntime k f s).fault = s.fault := rfl
@[simp] theorem modifyRuntime_port (k : Nat) (f : EntryRuntime → EntryRuntime) :
    (modifyRuntime k f s).port = s.port := rfl
@[simp] theorem modifyRuntime_choices (k : Nat) (f : EntryRuntime → EntryRuntime) :
    (modifyRuntime k f s).choices = s.choices := rfl
@[simp] theorem modifyRuntime_pending (k : Nat) (f : EntryRuntime → EntryRuntime) :
    (modifyRuntime k f s).pending = s.pending := rfl
@[simp] theorem modifyRuntime_linkage_trip0 (k : Nat) (f : EntryRuntime → EntryRuntime) :
    (modifyRuntime k f s).linkage.trip0 = s.linkage.trip0 := rfl
@[simp] theorem modifyRuntime_linkage_trip1 (k : Nat) (f : EntryRuntime → EntryRuntime) :
    (modifyRuntime k f s).linkage.trip1 = s.linkage.trip1 := rfl
@[simp] theorem modifyRuntime_linkage_trips (k : Nat) (f : EntryRuntime → EntryRuntime) :
    (modifyRuntime k f s).linkage.trips = s.linkage.trips := rfl
@[simp] theorem modifyRuntime_linkage_pen (k : Nat) (f : EntryRuntime → EntryRuntime) :
    (modifyRuntime k f s).linkage.pen = s.linkage.pen := rfl
@[simp] theorem modifyRuntime_linkage_open0 (k : Nat) (f : EntryRuntime → EntryRuntime) :
    (modifyRuntime k f s).linkage.open0 = s.linkage.open0 := rfl
@[simp] theorem modifyRuntime_linkage_open1 (k : Nat) (f : EntryRuntime → EntryRuntime) :
    (modifyRuntime k f s).linkage.open1 = s.linkage.open1 := rfl

end Sys2Proof.Machine
end

