-- ==== Sys2Proof/Laws/Within.lean ====
section
/-! SUPPORT. What an evaluation of the Trip Linkage, with all that it reaches (Claim Register, Detector, cells, pins,
transmit queue, events), leaves as it stands. -/

namespace Sys2Proof.Machine

/-- `t` differs from `s` at most in the detector, the peers, the assessor, the register, the linkage but for its input
levels, the transmit queue, and the Event Queue with its line. -/
structure Within (s t : State) : Prop where
  run : t.run = s.run
  resetHeld : t.resetHeld = s.resetHeld
  timebase : t.timebase = s.timebase
  penPin : t.penPin = s.penPin
  openPin0 : t.openPin0 = s.openPin0
  openPin1 : t.openPin1 = s.openPin1
  busyPin : t.busyPin = s.busyPin
  tracker : t.tracker = s.tracker
  sampling : t.sampling = s.sampling
  engine : t.engine = s.engine
  timeline : t.timeline = s.timeline
  fault : t.fault = s.fault
  choices : t.choices = s.choices
  pending : t.pending = s.pending
  link : t.link = { s.link with queue := t.link.queue }
  port : t.port = { s.port with
    events := t.port.events, eventSequence := t.port.eventSequence, attention := t.port.attention }
  pen : t.linkage.pen = s.linkage.pen
  open0 : t.linkage.open0 = s.linkage.open0
  open1 : t.linkage.open1 = s.linkage.open1

theorem Within.refl (s : State) : Within s s := by constructor <;> rfl

theorem Within.trans {s t u : State} (h : Within s t) (k : Within t u) : Within s u := by
  constructor
  all_goals first
    | exact k.run.trans h.run | exact k.resetHeld.trans h.resetHeld | exact k.timebase.trans h.timebase
    | exact k.penPin.trans h.penPin | exact k.openPin0.trans h.openPin0 | exact k.openPin1.trans h.openPin1
    | exact k.busyPin.trans h.busyPin | exact k.tracker.trans h.tracker | exact k.sampling.trans h.sampling
    | exact k.engine.trans h.engine | exact k.timeline.trans h.timeline | exact k.fault.trans h.fault
    | exact k.choices.trans h.choices | exact k.pending.trans h.pending | exact k.pen.trans h.pen
    | exact k.open0.trans h.open0 | exact k.open1.trans h.open1
    | (rw [k.link, h.link]) | (rw [k.port, h.port])

/-- A function whose result is always `Within` of its argument. -/
def Keeps (f : State → State) : Prop := ∀ s, Within s (f s)

theorem Keeps.id : Keeps id := Within.refl

theorem Keeps.comp {f g : State → State} (hf : Keeps f) (hg : Keeps g) : Keeps (fun s => f (g s)) :=
  fun s => (hg s).trans (hf (g s))

theorem Keeps.ite {f g : State → State} (p : State → Bool) (hf : Keeps f) (hg : Keeps g) :
    Keeps (fun s => if p s then f s else g s) := by
  intro s
  dsimp only
  split
  · exact hf s
  · exact hg s

/-! ## Register, Detector and queue -/

theorem keeps_record (k : EventKind) (x : EventSubject) (y : Option Span) (d : Detail) :
    Keeps (fun s => record s k x y d) := fun s => by constructor <;> rfl

theorem keeps_recordPairs (ps : List ClaimPair) : Keeps (recordPairs ps) := by
  induction ps with
  | nil => exact Within.refl
  | cons p ps ih => exact fun s => (keeps_record _ _ _ _ s).trans (ih _)

theorem keeps_rejudgePairs : Keeps rejudgePairs := fun s =>
  (by constructor <;> rfl : Within s { s with register := _ }).trans (keeps_recordPairs _ _)

theorem keeps_setRecords (f : State → List ClaimRecord) : Keeps (fun s => s.setRecords (f s)) :=
  fun s => by constructor <;> rfl

theorem keeps_setQueue (f : State → List QueueEntry) : Keeps (fun s => s.setQueue (f s)) :=
  fun s => by constructor <;> rfl

theorem keeps_withdrawSeries (k : ClaimKind) (e : SpanEnd) : Keeps (withdrawSeries k e) :=
  fun s => by constructor <;> rfl

theorem keeps_offerSeries (i : QueueItem) : Keeps (offerSeries i) := fun s => by constructor <;> rfl

theorem keeps_unpin (p : Nat) : Keeps (unpin p) := fun s => by constructor <;> rfl

theorem keeps_releaseHold (r : ClaimRecord) : Keeps (releaseHold r) := by
  intro s
  unfold releaseHold
  split
  · split
    · exact keeps_withdrawSeries _ _ s
    · exact by constructor <;> rfl
  · exact Within.refl s

theorem keeps_releaseHolds (rs : List ClaimRecord) : Keeps (releaseHolds rs) := by
  induction rs with
  | nil => exact Within.refl
  | cons r rs ih => exact fun s => (keeps_releaseHold r s).trans (ih _)

theorem keeps_removeRecords (p : ClaimRecord → Bool) : Keeps (removeRecords p) := by
  intro s
  unfold removeRecords
  split
  · exact ((keeps_releaseHolds _ s).trans (by constructor <;> rfl)).trans (keeps_rejudgePairs _)
  · exact Within.refl s

theorem keeps_withdrawAll (rs : List ClaimRecord) : Keeps (withdrawAll rs) := by
  induction rs with
  | nil => exact Within.refl
  | cons r rs ih =>
    intro s
    refine Within.trans ?_ (ih _)
    split
    · exact keeps_withdrawSeries _ _ s
    · exact Within.refl s

theorem keeps_coverRecords (p : ClaimRecord → Bool) : Keeps (coverRecords p) := by
  intro s
  dsimp only [coverRecords]
  split
  · exact ((keeps_withdrawAll _ s).trans (by constructor <;> rfl)).trans (keeps_rejudgePairs _)
  · exact Within.refl s

theorem keeps_registerCalm (b : Bool) : Keeps (registerCalm b) := fun s => keeps_removeRecords _ s

theorem keeps_returnToCalm : Keeps returnToCalm := fun s =>
  (by constructor <;> rfl : Within s { s with detector := _, linkage := linkageCalm s.linkage, peers := _ }).trans
    (keeps_registerCalm false _)

theorem keeps_closeDisturbance : Keeps closeDisturbance := fun s =>
  (keeps_record _ _ _ _ s).trans (keeps_returnToCalm _)

theorem keeps_forceClose : Keeps forceClose := fun s => (keeps_record _ _ _ _ s).trans (keeps_returnToCalm _)

theorem keeps_leaveBlind : Keeps leaveBlind := fun s =>
  (by constructor <;> rfl : Within s { s with detector := _, linkage := linkageCalm s.linkage }).trans
    (keeps_registerCalm false _)

theorem keeps_restoreLine : Keeps restoreLine := by
  intro s
  let t := record s .disturbanceClose .absent none (.named .deenergized)
  let u : State := { t with
    detector := { t.detector with
      assessment := .calm, snapshot := none, blindRun := 0, settle := 0, restore := 0, forced := 0 }
    linkage := linkageCalm t.linkage
    peers := clearPeerSnapshots t.peers }
  have h : Within s u := by constructor <;> rfl
  exact (h.trans (keeps_registerCalm true u)).trans (by constructor <;> rfl)

theorem keeps_testClose : Keeps testClose := by
  intro s
  unfold testClose
  split
  · exact keeps_closeDisturbance s
  · exact Within.refl s

theorem keeps_setDetector (f : State → Detector) : Keeps (fun s => s.setDetector (f s)) := fun s => by constructor <;> rfl

theorem keeps_testCloseOnChange : Keeps testCloseOnChange := by
  intro s
  unfold testCloseOnChange
  split
  · exact (keeps_closeDisturbance s).trans (keeps_setDetector (fun t => { t.detector with closedByChange := true }) _)
  · exact Within.refl s

/-! ## The Trip Linkage -/

theorem keeps_modifyRuntime (k : Nat) (f : EntryRuntime → EntryRuntime) : Keeps (modifyRuntime k f) :=
  fun s => by constructor <;> rfl

theorem keeps_setTrip (o : Output) (f : State → TripRecord) : Keeps (fun s => setTrip o (f s) s) := by
  intro s
  cases o <;> constructor <;> rfl

theorem keeps_takeIntoTripList (n : Nat) (c : TrippedContent) : Keeps (takeIntoTripList n c) :=
  fun s => by constructor <;> rfl

theorem keeps_recordBackupTrip (k : Nat) (c : TimerCandidate) : Keeps (recordBackupTrip k c) :=
  fun s => keeps_record _ _ _ _ s

theorem keeps_timerByTripped (c : TrippedContent) (k : Nat) : Keeps (timerByTripped c k) := by
  intro s
  unfold timerByTripped
  split
  · exact Within.refl s
  · split
    · split
      · exact keeps_modifyRuntime _ _ s
      · exact (keeps_modifyRuntime _ _ s).trans (keeps_recordBackupTrip _ _ _)
    · exact Within.refl s
  · split
    · exact keeps_modifyRuntime _ _ s
    · exact Within.refl s

/-- A list of indices folded through a function that keeps. -/
theorem keeps_foldl {α : Type} (f : State → α → State) (h : ∀ a, Keeps (fun s => f s a)) (l : List α) :
    Keeps (fun s => l.foldl f s) := by
  induction l with
  | nil => exact Within.refl
  | cons a l ih => exact fun s => (h a s).trans (ih _)

theorem keeps_timersByTripped (c : TrippedContent) : Keeps (timersByTripped c) :=
  keeps_foldl _ (fun k => keeps_timerByTripped c k) _

theorem keeps_coverZone (c : TrippedContent) : Keeps (coverZone c) := by
  intro s
  unfold coverZone
  split
  · exact Within.refl s
  · dsimp only
    split
    · exact (keeps_coverRecords _ s).trans (keeps_testCloseOnChange _)
    · exact keeps_coverRecords _ s

theorem keeps_offerTripped {ev : State → State} (h : Keeps ev) (c : TrippedContent) : Keeps (offerTripped ev c) :=
  fun s => ((((keeps_offerSeries _ s).trans (keeps_takeIntoTripList _ _ _)).trans (keeps_timersByTripped _ _)).trans
    (keeps_coverZone _ _)).trans (h _)

theorem keeps_confirmTrip {ev : State → State} (h : Keeps ev) (o : Output) : Keeps (confirmTrip ev o) := fun s =>
  ((keeps_setTrip o (fun s => { s.linkage.trip o with state := .confirmed, driven := false }) s).trans
    (keeps_record _ _ _ _ _)).trans (keeps_offerTripped h _ _)

theorem keeps_failTrip {ev : State → State} (h : Keeps ev) (o : Output) : Keeps (failTrip ev o) := fun s =>
  ((keeps_setTrip o (fun s => { s.linkage.trip o with state := .failed, driven := false }) s).trans
    (keeps_record _ _ _ _ _)).trans (keeps_offerTripped h _ _)

theorem keeps_assertOutput (k : Nat) (e : LinkageEntry) (x : Span) (o : Output) : Keeps (assertOutput k e x o) := by
  intro s
  unfold assertOutput
  split
  · exact (keeps_setTrip o (fun _ => ⟨.asserted, some k, 0, some e.zone, some x, true⟩) s).trans (keeps_record _ _ _ _ _)
  · exact Within.refl s

theorem keeps_confirmAtOnce {ev : State → State} (h : Keeps ev) (k : Nat) (b : TripState) (o : Output) :
    Keeps (confirmAtOnce ev k b o) := by
  intro s
  dsimp only [confirmAtOnce]
  split
  · exact keeps_confirmTrip h o s
  · exact Within.refl s

theorem keeps_actPrimary {ev : State → State} (h : Keeps ev) (k : Nat) (e : LinkageEntry) (x : Span) :
    Keeps (actPrimary ev k e x) := by
  intro s
  dsimp only [actPrimary]
  split
  · exact ((((keeps_assertOutput _ _ _ _ s).trans (keeps_assertOutput _ _ _ _ _)).trans
      (keeps_modifyRuntime _ _ _)).trans (keeps_confirmAtOnce h _ _ _ _)).trans (keeps_confirmAtOnce h _ _ _ _)
  · split
    · exact Within.refl s
    · exact (keeps_record _ _ _ _ s).trans (keeps_modifyRuntime _ _ _)

theorem keeps_evaluateEntry {ev : State → State} (h : Keeps ev) (k : Nat) (e : LinkageEntry) :
    Keeps (evaluateEntry ev k e) := by
  intro s
  unfold evaluateEntry
  split
  · exact Within.refl s
  · split
    · split
      · exact keeps_actPrimary h _ _ _ s
      · exact Within.refl s
    · dsimp only
      split
      · exact (keeps_modifyRuntime _ _ s).trans (keeps_actPrimary h _ _ _ _)
      · exact keeps_modifyRuntime _ _ s

theorem keeps_evaluateEntries {ev : State → State} (h : Keeps ev) (es : List LinkageEntry) (k : Nat) :
    Keeps (evaluateEntries ev k es) := by
  induction es generalizing k with
  | nil => exact Within.refl
  | cons e es ih => exact fun s => (keeps_evaluateEntry h k e s).trans (ih _ _)

theorem keeps_evaluateRounds (n : Nat) : Keeps (evaluateRounds n) := by
  induction n with
  | zero => exact Within.refl
  | succ n ih => exact fun s => keeps_evaluateEntries ih _ _ s

/-- An evaluation of the Trip Linkage keeps everything `Within` names (R159). -/
theorem keeps_evaluateTrips : Keeps evaluateTrips := by
  intro s
  unfold evaluateTrips
  split
  · exact keeps_evaluateRounds _ s
  · exact Within.refl s

/-- Outside RUN no evaluation is made (R159). -/
theorem evaluateTrips_of_not_run {s : State} (h : s.run ≠ .run) : evaluateTrips s = s := by
  unfold evaluateTrips
  rw [if_neg h]

/-- A register operation that keeps, reported to the Trip Linkage, keeps. -/
theorem keeps_reporting {f : State → State} (h : Keeps f) : Keeps (reporting f) := by
  intro s
  dsimp only [reporting]
  split
  · exact h s
  · exact (h s).trans (keeps_evaluateTrips _)

theorem keeps_failIfDue (o : Output) : Keeps (failIfDue o) := by
  intro s
  unfold failIfDue
  split
  · exact keeps_failTrip keeps_evaluateTrips o s
  · exact Within.refl s

theorem keeps_expireBackup (k : Nat) (e : LinkageEntry) : Keeps (expireBackup k e) := by
  intro s
  unfold expireBackup
  split
  · split
    · dsimp only
      split
      · exact (keeps_modifyRuntime _ _ s).trans (keeps_recordBackupTrip _ _ _)
      · exact ((keeps_modifyRuntime _ _ s).trans (keeps_recordBackupTrip _ _ _)).trans
          (keeps_actPrimary (keeps_evaluateRounds _) _ _ _ _)
    · exact Within.refl s
  · exact Within.refl s

end Sys2Proof.Machine
end

