-- ==== Sys2Proof/Laws/Ops.lean ====
section
/-! SUPPORT. What each shared operation can do, said once: counts, lists, events, the transmit queue, the register's keys,
transactions, and the frame every command of a working part runs in. -/

namespace Sys2Proof.Machine

/-! ## Counts and lists -/

/-- A saturating count never passes its limit. -/
theorem raise_le (limit n : Nat) : raise limit n ≤ limit := by
  unfold raise
  split <;> omega

/-- Below its limit a saturating count is the plain minimum. -/
theorem raise_eq_min {limit n : Nat} (h : n ≤ limit) : raise limit n = min limit (n + 1) := by
  unfold raise
  split <;> omega

theorem modifyAt_length {α : Type} (f : α → α) (k : Nat) (l : List α) : (modifyAt f k l).length = l.length := by
  induction l generalizing k with
  | nil => cases k <;> rfl
  | cons a l ih => cases k <;> simp [modifyAt, ih]

/-- `modifyAt` is `List.set` where the index exists. -/
theorem modifyAt_eq_set {α : Type} {f : α → α} {k : Nat} {l : List α} {a : α} (h : l[k]? = some a) :
    modifyAt f k l = l.set k (f a) := by
  induction l generalizing k with
  | nil => simp at h
  | cons b l ih =>
    cases k with
    | zero => simp at h; simp [modifyAt, h]
    | succ k => simp at h; simp [modifyAt, ih h]

/-- `modifyAt` past the end changes nothing. -/
theorem modifyAt_eq_self {α : Type} {f : α → α} {k : Nat} {l : List α} (h : l[k]? = none) : modifyAt f k l = l := by
  induction l generalizing k with
  | nil => cases k <;> rfl
  | cons b l ih =>
    cases k with
    | zero => simp at h
    | succ k => simp at h; simp [modifyAt, ih (List.getElem?_eq_none h)]

/-- `modifyAt` leaves every other index. -/
theorem modifyAt_getElem?_ne {α : Type} {f : α → α} {j k : Nat} (l : List α) (h : j ≠ k) :
    (modifyAt f k l)[j]? = l[j]? := by
  cases hk : l[k]? with
  | none => rw [modifyAt_eq_self hk]
  | some a => rw [modifyAt_eq_set hk, List.getElem?_set_ne (fun e => h e.symm)]

theorem findIndexFrom_some {α : Type} {p : α → Bool} {l : List α} {i k : Nat} (h : findIndexFrom p i l = some k) :
    ∃ j a, k = i + j ∧ l[j]? = some a ∧ p a = true ∧ ∀ m < j, ∀ b, l[m]? = some b → p b = false := by
  induction l generalizing i with
  | nil => simp [findIndexFrom] at h
  | cons b l ih =>
    unfold findIndexFrom at h
    split at h
    · next hb =>
      refine ⟨0, b, by simpa using h.symm, rfl, hb, ?_⟩
      intro m hm
      omega
    · next hb =>
      obtain ⟨j, a, rfl, ha, hp, hm⟩ := ih h
      refine ⟨j + 1, a, by omega, by simpa using ha, hp, ?_⟩
      intro m hlt c hc
      cases m with
      | zero => simp at hc; subst hc; simpa using hb
      | succ m => exact hm m (by omega) c (by simpa using hc)

/-- The index found is that of the first element that meets the test. -/
theorem findIndex_some {α : Type} {p : α → Bool} {l : List α} {k : Nat} (h : findIndex p l = some k) :
    ∃ a, l[k]? = some a ∧ p a = true ∧ ∀ m < k, ∀ b, l[m]? = some b → p b = false := by
  obtain ⟨j, a, rfl, ha, hp, hm⟩ := findIndexFrom_some h
  exact ⟨a, by simpa using ha, hp, by simpa using hm⟩

/-! ## Events (R186) -/

/-- Below 32 records an event is appended without GAP. -/
theorem record_events_of_room {s : State} (k : EventKind) (x : EventSubject) (y : Option Span) (d : Detail)
    (h : s.port.events.length < 32) :
    (record s k x y d).port.events =
      s.port.events ++ [⟨k, s.tracker.epoch, s.port.eventSequence, x, y, d, false⟩] := by
  have : ¬ Config.eventQueueSize ≤ s.port.events.length := by unfold Config.eventQueueSize; omega
  simp [record, this]

/-- At 32 records an event drops the oldest and carries GAP. -/
theorem record_events_of_full {s : State} (k : EventKind) (x : EventSubject) (y : Option Span) (d : Detail)
    (h : 32 ≤ s.port.events.length) :
    (record s k x y d).port.events =
      s.port.events.tail ++ [⟨k, s.tracker.epoch, s.port.eventSequence, x, y, d, true⟩] := by
  have : Config.eventQueueSize ≤ s.port.events.length := h
  simp [record, this]

/-- An event depends on the tracker's epoch and the port alone. -/
theorem record_port_congr {s t : State} (k : EventKind) (x : EventSubject) (y : Option Span) (d : Detail)
    (he : s.tracker.epoch = t.tracker.epoch) (hp : s.port = t.port) : (record s k x y d).port = (record t k x y d).port := by
  simp only [record, he, hp]

/-! ## Time -/

/-- Carrying the timebase forward changes nothing else. -/
theorem advanceTo_eq (s : State) (t : Tick) : advanceTo s t = { s with timebase := (advanceTo s t).timebase } := by
  unfold advanceTo
  split <;> rfl

theorem advanceToSome_eq (s : State) (t : Option Tick) :
    advanceToSome s t = { s with timebase := (advanceToSome s t).timebase } := by
  cases t with
  | none => rfl
  | some t => exact advanceTo_eq s t

/-! ## The transmit queue (R69 to R74) -/

theorem queueFind_some {q : List QueueEntry} {x : QueueSubject} {e : QueueEntry} (h : queueFind q x = some e) :
    e ∈ q ∧ e.subject = x := by
  unfold queueFind at h
  exact ⟨List.mem_of_find?_eq_some h, by simpa using List.find?_some h⟩

theorem queueRemove_subject {q : List QueueEntry} {x : QueueSubject} : ∀ e ∈ queueRemove x q, e.subject ≠ x := by
  intro e he
  simpa [queueRemove] using (List.mem_filter.mp he).2

/-- A change in place that keeps the subject keeps all subjects. -/
theorem queueModify_subjects {x : QueueSubject} {f : QueueEntry → QueueEntry} (hf : ∀ e, e.subject = x → (f e).subject = x)
    (q : List QueueEntry) : (queueModify x f q).map QueueEntry.subject = q.map QueueEntry.subject := by
  induction q with
  | nil => rfl
  | cons e q ih =>
    simp only [queueModify, List.map_cons] at ih ⊢
    rw [ih]
    split
    · next h => rw [hf e h, h]
    · rfl

theorem insertEntry_perm (e : QueueEntry) (q : List QueueEntry) : (insertEntry e q).Perm (e :: q) := by
  induction q with
  | nil => exact List.Perm.refl _
  | cons x q ih =>
    unfold insertEntry
    split
    · exact (ih.cons x).trans (List.Perm.swap e x q)
    · exact List.Perm.refl _

/-- A hand-over keeps no subject that was not there. -/
theorem handedQueue_mem {e x : QueueEntry} {q : List QueueEntry} (h : x ∈ handedQueue e q) :
    ∃ y ∈ q, x.subject = y.subject ∧ x.item = y.item ∧ x.remaining = y.remaining := by
  unfold handedQueue at h
  split at h
  · obtain ⟨y, hy, rfl⟩ := List.mem_map.mp h
    refine ⟨y, hy, ?_⟩
    split <;> exact ⟨rfl, rfl, rfl⟩
  · exact ⟨x, (List.mem_filter.mp h).1, rfl, rfl, rfl⟩

/-! ## The register's keys (R137) -/

theorem findRecord_some {rs : List ClaimRecord} {key : ClaimKey} {r : ClaimRecord} (h : findRecord rs key = some r) :
    r ∈ rs ∧ r.key = key := by
  unfold findRecord at h
  exact ⟨List.mem_of_find?_eq_some h, by simpa using List.find?_some h⟩

/-- A change in place that keeps the key keeps all keys. -/
theorem modifyRecord_keys {key : ClaimKey} {f : ClaimRecord → ClaimRecord} (hf : ∀ r, r.key = key → (f r).key = key)
    (rs : List ClaimRecord) : (modifyRecord key f rs).map ClaimRecord.key = rs.map ClaimRecord.key := by
  induction rs with
  | nil => rfl
  | cons r rs ih =>
    simp only [modifyRecord, List.map_cons] at ih ⊢
    rw [ih]
    split
    · next h => rw [hf r h, h]
    · rfl

theorem appendRecord_keys (r : ClaimRecord) (rs : List ClaimRecord) :
    (appendRecord r rs).map ClaimRecord.key = (rs.map ClaimRecord.key).filter (fun k => k ≠ r.key) ++ [r.key] := by
  simp [appendRecord, removeRecord, List.filter_map, Function.comp_def]

theorem recordPairs_register (ps : List ClaimPair) (s : State) : (recordPairs ps s).register = s.register := by
  induction ps generalizing s with
  | nil => rfl
  | cons p ps ih => exact ih _

/-- Re-judging the pair list changes no record but for its corroborated mark (R152). -/
theorem rejudgePairs_register (s : State) : (rejudgePairs s).register =
    ⟨s.register.records.map (fun r => { r with corroborated := inSomePair (pairsOf s.register.records) r.key }),
      pairsOf s.register.records⟩ := recordPairs_register _ _

theorem rejudgePairs_keys (s : State) :
    (rejudgePairs s).register.records.map ClaimRecord.key = s.register.records.map ClaimRecord.key := by
  simp [rejudgePairs_register, Function.comp_def]

theorem judgeAgreement_keys (s : State) :
    (judgeAgreement s).register.records.map ClaimRecord.key = s.register.records.map ClaimRecord.key := by
  simp [judgeAgreement, Function.comp_def]

/-! ## Evaluations with nothing to evaluate (R159) -/

theorem evaluateRounds_of_no_entries {s : State} (h : s.port.image.entries = []) (n : Nat) : evaluateRounds n s = s := by
  cases n with
  | zero => rfl
  | succ n => simp [evaluateRounds, h, evaluateEntries]

theorem evaluateTrips_of_noTripTable {s : State} (h : s.run ≠ .run ∨ s.port.image.entries = []) : evaluateTrips s = s := by
  rcases h with h | h
  · exact evaluateTrips_of_not_run h
  · unfold evaluateTrips
    split
    · exact evaluateRounds_of_no_entries h _
    · rfl

/-- Where no evaluation can act, reporting an operation adds nothing to it. -/
theorem reporting_of_noTripTable {f : State → State} {s : State}
    (h : (f s).run ≠ .run ∨ (f s).port.image.entries = []) : reporting f s = f s := by
  unfold reporting
  dsimp only
  split
  · rfl
  · exact evaluateTrips_of_noTripTable h

/-! ## The end of a command (R57, R67, R76) -/

theorem judgePosture_eq (s : State) : judgePosture s = { s with link := (judgePosture s).link } := rfl

theorem judgeReceiver_eq (s : State) : judgeReceiver s = { s with link := (judgeReceiver s).link } := rfl

theorem handOver_eq (e : QueueEntry) (s : State) : handOver e s = { s with link := (handOver e s).link } := rfl

theorem drawBackoff_eq (e : QueueEntry) (s : State) : drawBackoff e s = { s with link := (drawBackoff e s).link } := by
  dsimp only [drawBackoff]
  split <;> rfl

theorem chooseCandidate_eq (s : State) : chooseCandidate s = { s with link := (chooseCandidate s).link } := by
  unfold chooseCandidate
  split
  · rfl
  · split
    · rfl
    · exact drawBackoff_eq _ s

theorem judgeAccess_eq (s : State) : judgeAccess s = { s with link := (judgeAccess s).link } := by
  unfold judgeAccess
  split
  · rfl
  · split
    · rfl
    · exact chooseCandidate_eq s

/-- The re-judging that ends a command changes the link alone. -/
theorem settle_eq (s : State) : settle s = { s with link := (settle s).link } := by
  unfold settle
  split
  · rfl
  · rw [judgeReceiver_eq, judgePosture_eq, judgeAccess_eq, judgePosture_eq s]

theorem settle_of_config {s : State} (h : s.run = .config) : settle s = s := by
  unfold settle
  rw [if_pos h]

/-- Only a class-0 draw can be 0 (R77). -/
theorem backoffSlots_eq_zero {cls : Nat} {x : BitVec 16} (h : backoffSlots cls x = 0) : cls = 0 ∧ x.toNat % 4 = 0 := by
  unfold backoffSlots at h
  split at h
  · exact ⟨rfl, h⟩
  · omega
  · omega

/-- An eligible series is due and has no frame in flight (R75). -/
theorem eligible_series {s : State} {e : QueueEntry} (h : eligible s e = true) (hc : e.cls = 0) :
    e.due = true ∧ e.mark = .noFrame := by
  unfold eligible timely at h
  unfold QueueEntry.cls QueueItem.cls at hc
  split at h <;> simp_all

/-- The re-judging leaves posture and receiver as their rules give them (R57, R67). -/
theorem settle_posture {s : State} : PostureOk (settle s) := by
  intro h
  unfold settle at h ⊢
  split at h
  · contradiction
  · rename_i hc
    rw [if_neg hc]
    exact ⟨rfl, rfl⟩

/-- All that the re-judging can do with the link (R57, R67, R76 to R78). -/
theorem settle_linkSettled {s : State} (h : s.run ≠ .config) : LinkSettled s.link (settle s) := by
  have hb : ({ settle s with link := s.link } : State) = s := by rw [settle_eq]
  have hj : ({ settle s with link := { s.link with vigilant := vigilantNow s } } : State) = judgePosture s := by
    rw [settle_eq]; rfl
  have hp : PostureOk (settle s) := settle_posture
  have hr : (settle s).run = s.run := by rw [settle_eq]
  unfold LinkSettled
  dsimp only
  rw [hb, hj, hr]
  refine ⟨hp, ?_⟩
  have hs : settle s = judgeReceiver (judgePosture (judgeAccess (judgePosture s))) := if_neg h
  rw [hs]
  unfold judgeAccess
  split
  · exact ⟨fun _ => rfl, fun _ => ⟨rfl, .inl rfl⟩, fun hn => absurd rfl hn⟩
  · rename_i hrun
    split
    · exact ⟨fun _ => rfl, fun _ => ⟨rfl, .inl rfl⟩, fun hn => absurd rfl hn⟩
    · rename_i hstand
      have hfree : ¬ (s.run ≠ .run ∨ s.link.sending = true ∨
          (s.link.access = .backoff ∧ backoffStands (judgePosture s) = true)) := by
        rintro (hn | hn | ⟨ha, hn⟩)
        · exact hrun (Bool.or_eq_true_iff.mpr (.inl (decide_eq_true hn)))
        · exact hrun (Bool.or_eq_true_iff.mpr (.inr hn))
        · exact hstand (Bool.and_eq_true_iff.mpr ⟨decide_eq_true ha, hn⟩)
      refine ⟨fun hn => absurd hn hfree, ?_⟩
      unfold chooseCandidate
      split
      · exact ⟨fun _ => ⟨rfl, .inl rfl⟩, fun hn => absurd rfl hn⟩
      · rename_i e he
        split
        · exact ⟨fun _ => ⟨rfl, .inl rfl⟩, fun hn => absurd rfl hn⟩
        · rename_i hbusy'
          have hbusy : s.busyPin = false := Bool.eq_false_iff.mpr hbusy'
          have hmem : e ∈ s.link.queue := List.mem_of_find?_eq_some he
          have hel : eligible (judgePosture s) e = true := List.find?_some he
          dsimp only [drawBackoff]
          split
          · rename_i hzero
            obtain ⟨hc, hx⟩ := backoffSlots_eq_zero hzero
            obtain ⟨hd, hm⟩ := eligible_series hel hc
            have hsend : s.link.sending = false := by simpa using fun hn => hfree (.inr (.inl hn))
            have hcls : ¬ e.cls = 2 := by omega
            refine ⟨fun hn => ?_, fun _ => ⟨Decidable.not_not.mp fun hn => hfree (.inl hn), hsend, hbusy, hx, e, hmem, hc,
              hd, hm, rfl, ?_⟩⟩
            · rw [hsend] at hn; cases hn
            · have hq : e.isSeries = true := by simp [QueueEntry.isSeries, hc]
              simp only [judgeReceiver, judgePosture, State.setLink, handOver, handedQueue, hq, if_true, hcls, if_false]
              simp [vigilantNow, receiverNow, queueModify, Config.holdEpochs]
              split <;> rfl
          · exact ⟨fun _ => ⟨rfl, .inr rfl⟩, fun hn => absurd rfl hn⟩

/-! ## The report window, and a record handed in CALM (R40, R47, R66, R70, R78, R111) -/

theorem missReport_eq (p : QueueEntry → Bool) (s : State) : missReport p s = { s with link := (missReport p s).link } := by
  unfold missReport
  split
  · split <;> rfl
  · rfl

theorem abandonBackoff_eq (s : State) : abandonBackoff s = { s with link := (abandonBackoff s).link } := by
  unfold abandonBackoff
  split <;> rfl

/-- Shutting the window changes the link alone. -/
theorem shutWindow_eq (x : EpochNum) (s : State) : shutWindow x s = { s with link := (shutWindow x s).link } := by
  unfold shutWindow
  rw [abandonBackoff_eq, judgePosture_eq, missReport_eq]
  rfl

/-- A REPORT missed leaves the window as it stands. -/
@[simp] theorem missReport_windowOpen (p : QueueEntry → Bool) (s : State) :
    (missReport p s).link.windowOpen = s.link.windowOpen := by
  unfold missReport
  split
  · split <;> rfl
  · rfl

/-- A backoff abandoned leaves the window as it stands. -/
@[simp] theorem abandonBackoff_windowOpen (s : State) : (abandonBackoff s).link.windowOpen = s.link.windowOpen := by
  unfold abandonBackoff
  split <;> rfl

/-- A shut window is CLOSED. -/
theorem shutWindow_windowOpen (x : EpochNum) (s : State) : (shutWindow x s).link.windowOpen = false := by
  unfold shutWindow
  rw [abandonBackoff_windowOpen]
  exact missReport_windowOpen _ _

/-- A jump that finds the window CLOSED closes nothing. -/
theorem leaveWindow_of_closed {s : State} (h : s.link.windowOpen = false) : leaveWindow s = s := by
  simp [leaveWindow, h]

/-- A jump that finds the window OPEN closes it and evaluates the adjacency. -/
theorem leaveWindow_of_open {s : State} (h : s.link.windowOpen = true) :
    leaveWindow s = evaluateAdjacency (s.setLink { s.link with windowOpen := false }) := by
  simp [leaveWindow, h]

/-- In CALM, where a change has closed the disturbance since the last record, a record only has its reference selected. -/
theorem handRecord_of_closedByChange {r : EpochRecord} {s : State} (h : s.detector.assessment = .calm)
    (hc : s.detector.closedByChange = true) : handRecord r s = takeReference r s := by
  simp [handRecord, takeReference, State.setDetector, h, hc]

/-- In CALM, where none has, it is compared with its reference. -/
theorem handRecord_of_calm {r : EpochRecord} {s : State} (h : s.detector.assessment = .calm)
    (hc : s.detector.closedByChange = false) : handRecord r s = handCalm r (takeReference r s) := by
  simp [handRecord, takeReference, State.setDetector, h, hc]

/-- A close by a change leaves its mark, and nothing else that a close by a record does not leave. -/
theorem testCloseOnChange_eq (s : State) : testCloseOnChange s =
    { testClose s with detector := { (testClose s).detector with
        closedByChange := closeDue s || s.detector.closedByChange } } := by
  unfold testCloseOnChange testClose
  cases h : closeDue s
  · rfl
  · simp [State.setDetector]

/-! ## Free orders (R43, R116, R172, R176) -/

/-- Two events that do not race are taken in the order given. -/
theorem eitherOrder_of_no_race {race : Bool} {order : Nat → Bool} {f g : State → State} {s : State} (h : race = false) :
    eitherOrder race order f g s = f (g s) := by
  simp [eitherOrder, h]

/-- Two events that race are taken in one order or the other, one free choice spent. -/
theorem eitherOrder_of_race {race : Bool} {order : Nat → Bool} {f g : State → State} {s : State} (h : race = true) :
    eitherOrder race order f g s = g (f { s with choices := s.choices + 1 }) ∨
    eitherOrder race order f g s = f (g { s with choices := s.choices + 1 }) := by
  cases hc : order s.choices <;> simp [eitherOrder, nextChoice, h, hc]

/-! ## A working part -/

/-- A working part runs the command and settles. -/
theorem whileWorking_of_working {f : State → State} {s : State} (h : s.working = true) :
    whileWorking f s = settle (f s) := by
  unfold whileWorking
  rw [if_pos h]

/-- A part that does not work ignores the command. -/
theorem whileWorking_of_idle {f : State → State} {s : State} (h : s.working = false) : whileWorking f s = s := by
  unfold whileWorking
  rw [if_neg (by simp [h])]

/-! ## Transactions (R178, R179) -/

theorem transact_of_held {act : State → Reply × State} {s : State} (h : s.resetHeld = true) : transact act s = s := by
  unfold transact
  rw [if_pos h]

/-- In BUSY a transaction shifts out BUSY and takes nothing. -/
theorem transact_of_busy {act : State → Reply × State} {s : State} (h : s.resetHeld = false) (hb : s.port.busy = true) :
    transact act s = { s with port := { s.port with shifted := some busyReply } } := by
  simp [transact, h, hb, State.setPort, shiftedNow]

/-- Otherwise it shifts out the waiting reply, acts, and makes its own reply. -/
theorem transact_of_ready {act : State → Reply × State} {s : State} (h : s.resetHeld = false) (hb : s.port.busy = false) :
    transact act s =
      let t : State := { s with port := { s.port with shifted := some s.port.reply } }
      { (act t).2 with port := { (act t).2.port with reply := (act t).1 } } := by
  simp [transact, h, hb, State.setPort, shiftedNow]

end Sys2Proof.Machine
end

