-- ==== Sys2Proof/WellFormed.lean ====
section
/-! DEFINITION. Well-formed commands: operands that the port or the transceiver could have presented. The model runs on
ill-formed commands too; what it does with them is in the log. -/

namespace Sys2Proof

/-- A delivered frame of a kind begins with that kind's code (section 4.3, log 17). -/
def frameWf (kind : Nat) (frame : List Byte) : Bool := frame.head?.map BitVec.toNat = some kind

/-- A station id or a position as loaded fits in two bytes, like the frame fields it fills (section 4.3). -/
def wordWf (n : Nat) : Bool := n < 65536

/-- The segment code, N and W as loaded fit in one byte (section 4.3). -/
def byteWf (n : Nat) : Bool := n < 256

/-- A loaded image is whole: its linkage entries are as many as its entry count says (R178, R181). -/
def imageWhole (r : RawImage) : Bool := r.entries.length = r.entryCount

/-- A loaded image is well-formed. -/
def imageWf (r : RawImage) : Bool :=
  wordWf r.stationId && wordWf r.position && byteWf r.segment && byteWf r.n && byteWf r.w && imageWhole r

/-- A claim key names a station: an id of 1..65534 (00_scope.md, "Identities and places"). -/
def keyWf (key : ClaimKey) : Bool := 1 ≤ key.claimant && key.claimant ≤ 65534

/-- A command is well-formed. -/
def Instr.wf : Instr → Bool
  | .loadConfig image => imageWf image
  | .reportReceived frame => frameWf 1 frame
  | .alertReceived frame => frameWf 2 frame
  | .claimReceived frame => frameWf 3 frame
  | .releaseReceived frame => frameWf 4 frame
  | .trippedReceived frame => frameWf 5 frame
  | .claimExpired key => keyWf key
  | .powerOnReset | .resetPin | .getStatus | .popEvent | .start | .startValidationEnd => true
  | .getRecord _ | .getPeer _ | .getClaims | .getMap | .reset | .badCommand => true
  | .crossingEdge _ _ | .referenceMiss | .cycleBoundary | .listenTimeout | .disturbanceClose => true
  | .disturbanceTimeout | .blindExit | .deenergizedRestored | .alertExpired | .vigilanceHoldExpired => true
  | .probationWindowPassed _ | .peerStale _ | .peerLost _ | .peerFreed _ | .claimRefresh _ _ => true
  | .delayEnd _ | .backupTrip _ | .jammedSet | .silentSet | .sampleStrobe | .sampleStall => true
  | .sampleSetArrival _ | .txDone | .txCompletionTimeout | .backoffEnd | .channelBusyChange _ => true
  | .rxStart | .receptionTimeout | .penChange _ | .openConfirmChange _ _ | .tripFailed _ => true
  | .resetPinAsserted | .receivedFrameDropped _ => true

end Sys2Proof
end

