-- ==== Sys2Proof/Tests/Slice0.lean ====
section
/-! SUPPORT. Small tests: ill-formed commands refused, worked examples of the spec, and for each statement with hypotheses
a state and operands that meet them. -/

namespace Sys2Proof.Tests

open Sys2Proof.Machine

-- The tests are checked one after another: each holds a thread with its own stack while it waits for the kernel.
set_option Elab.async false

/-! ## Well-formedness refuses what is ill-formed -/

/-- A whole small image: station 41 at 41, N = 6, W = 3, one PRIMARY entry. -/
def rawEntry : RawEntry := ⟨40, 60, 3, 0, 1, 0, 1, 0, 1, 0⟩
def raw : RawImage :=
  ⟨41, 7, 41, 60, 1, 6, 3, 4400, 1800, 2000, 300, 200, 1500, 600, 300, 160, 64, 2, 2, 8, 12, 1, [rawEntry]⟩

theorem test_wf_image : (Instr.loadConfig raw).wf = true := by decide
theorem test_wf_image_station : (Instr.loadConfig { raw with stationId := 65536 }).wf = false := by decide
theorem test_wf_image_position : (Instr.loadConfig { raw with position := 65536 }).wf = false := by decide
theorem test_wf_image_segment : (Instr.loadConfig { raw with segment := 256 }).wf = false := by decide
theorem test_wf_image_n : (Instr.loadConfig { raw with n := 256 }).wf = false := by decide
theorem test_wf_image_w : (Instr.loadConfig { raw with w := 256 }).wf = false := by decide
theorem test_wf_image_entries : (Instr.loadConfig { raw with entryCount := 2 }).wf = false := by decide
theorem test_wf_report_kind : (Instr.reportReceived [2#8]).wf = false := by decide
theorem test_wf_alert_kind : (Instr.alertReceived []).wf = false := by decide
theorem test_wf_claim_kind : (Instr.claimReceived [4#8]).wf = false := by decide
theorem test_wf_release_kind : (Instr.releaseReceived [3#8]).wf = false := by decide
theorem test_wf_tripped_kind : (Instr.trippedReceived [1#8]).wf = false := by decide
theorem test_wf_claim_key : (Instr.claimExpired ⟨0, .ground, .u⟩).wf = false := by decide
theorem test_wf_claim_key_high : (Instr.claimExpired ⟨65535, .ground, .u⟩).wf = false := by decide

/-! ## Worked examples of the spec -/

/-- R63: the CRC of "123456789". -/
theorem test_crc : crc16 [0x31, 0x32, 0x33, 0x34, 0x35, 0x36, 0x37, 0x38, 0x39] = 0x29B1#16 := by decide +kernel

/-- Section 2.2: the mean square 8,000,000 has the magnitude 2828, full scale has 8192 and 24576. -/
theorem test_isqrt : isqrt 8000000 = 2828 ∧ isqrt 67108864 = 8192 ∧ isqrt 603979776 = 24576 := by decide +kernel

/-- Section 4.8: the LFSR steps of station 41, and the draw 82 modulo 64 above the base 12. -/
theorem test_lfsr : lfsrStep 41#16 = 82#16 ∧ lfsrStep 82#16 = 164#16 ∧ backoffSlots 2 82#16 = 30 := by decide +kernel

/-- Section 2.4: six residual magnitudes give the irregularity 2,120 and the mean 497. -/
theorem test_irregularity :
    ([410, 395, 880, 240, 760, 300].foldl (fun e r => closeCycle true { e with acc := ⟨Init.allPhases 0, Init.allPhases 0, r * r * 32⟩ })
      Init.engine).irregularity = 2120 := by decide +kernel

/-! ## States to try commands on -/

/-- The outcome's state. -/
def next (c : Instr) (s : State) : State :=
  match exec c s with
  | .next t => t
  | _ => s

/-- The stored image. -/
def image : Image := storeImage raw

/-- A part in RUN and BLIND, its cycle begun at tick 0, its REPORT window open. -/
def running : State :=
  { State.reset with
    run := .run
    tracker := { Init.tracker image with anchor := some 0, next := some 16667 }
    sampling := { Init.sampling with strobe := some 0, interval := 520 }
    link := { Init.link with lfsr := 41, windowOpen := true, receiverEnable := true }
    port := Init.port image }

/-- The same part in LISTEN, and with no linkage entry. -/
def listening : State := { running with run := .listen }
def tableless : State := { running with port := Init.port { image with entries := [] } }

/-- The part locked on phase 1, with its fallen anchor's window awaited. -/
def locked : State :=
  { running with tracker := { running.tracker with
      mode := .locked, offset := some 0, windowNow := .awaiting, windowNext := .awaiting } }

/-- An epoch record with all values one number. -/
def flat (epoch : EpochNum) (i v : Nat) : EpochRecord :=
  ⟨epoch, ⟨Init.allPhases i, Init.allPhases v, 0⟩, 0, 6, .one, .locked, false, false, false, false⟩

theorem running_posture : PostureOk running := by
  unfold PostureOk
  decide +kernel

/-! ## Witnesses: the step, the facts that hold at every instant, resets and run states -/

theorem witness_StepRunsTheFrontCommand :
    ({ State.reset with pending := [.getStatus, .start] } : State).pending = .getStatus :: [.start] ∧
    State.reset.pending = [] ∧ dueCommand State.reset = none ∧
    dueCommand { running with timebase := 520 } = some .sampleStrobe := by decide +kernel

theorem witness_EventQueueInvariant : EventsOk State.reset.port ∧ ∃ t, step State.reset = .next t :=
  ⟨by unfold EventsOk; decide +kernel, _, rfl⟩

theorem witness_TripOutputInvariant : OutputsOk State.reset ∧ ∃ t, step State.reset = .next t :=
  ⟨by unfold OutputsOk TripOk; decide +kernel, _, rfl⟩

theorem witness_TransmitQueueInvariant : QueueOk State.reset.link.queue ∧ ∃ t, step State.reset = .next t :=
  ⟨by unfold QueueOk; decide +kernel, _, rfl⟩

theorem witness_TableSizeInvariant : TablesOk State.reset ∧ ∃ t, step State.reset = .next t :=
  ⟨by unfold TablesOk; decide +kernel, _, rfl⟩

/-- Two heard records that corroborate on their common span, and a part that holds them and their pair. -/
def upRecord : ClaimRecord :=
  ⟨⟨30, .openConductor, .u⟩, 30, ⟨30, 50⟩, ⟨true, false, false⟩, .standing, false, 0, 0, 1, 0, 1, true, false⟩
def downRecord : ClaimRecord :=
  ⟨⟨60, .openConductor, .d⟩, 60, ⟨41, 60⟩, ⟨true, true, false⟩, .standing, false, 0, 0, 1, 0, 1, true, false⟩
def agreed : State :=
  { running with register :=
      ⟨[upRecord, downRecord], [⟨upRecord.key, downRecord.key, ⟨41, 50⟩⟩]⟩ }

theorem witness_ClaimRegisterInvariant : RegisterOk State.reset ∧ (∃ t, step State.reset = .next t) ∧
    RegisterOk agreed ∧ agreed.register.pairs = pairsOf agreed.register.records := by
  refine ⟨by unfold RegisterOk; decide +kernel, ⟨_, rfl⟩, by unfold RegisterOk; decide +kernel, by decide +kernel⟩

theorem test_corroborates : Corroborates upRecord downRecord :=
  ⟨rfl, rfl, rfl, rfl, rfl, by decide, fun _ => ⟨.one, rfl, rfl⟩⟩

theorem witness_ClaimRegisterInvariant_pairs :
    RegisterOk agreed ∧ PairsOk State.reset ∧ PairsOk agreed ∧ ∃ t, step agreed = .next t := by
  refine ⟨by unfold RegisterOk; decide +kernel, ⟨?_, ?_, ?_⟩, ⟨?_, ?_, ?_⟩, _, rfl⟩
  · simp [State.reset, Init.register]
  · simp [State.reset, Init.register]
  · simp [State.reset, Init.register]
  · intro p
    simp [agreed]
    constructor
    · rintro rfl; exact Or.inl (Or.inr ⟨test_corroborates, rfl⟩)
    · rintro ((h | h) | (h | h))
      · exact absurd h.1.2.1 (by decide)
      · exact h.2
      · exact absurd h.1.1 (by decide)
      · exact absurd h.1.1 (by decide)
  · simp [agreed, upRecord, downRecord]
  · simp [agreed, Agrees, running, State.reset, upRecord, downRecord, Init.assessor, Init.allPhases]
    refine ⟨?_, ?_⟩ <;> intro φ _ <;> cases φ <;> simp [PerPhase.get]

theorem witness_PeriodInvariant : PeriodOk State.reset.tracker ∧ ∃ t, step State.reset = .next t :=
  ⟨by unfold PeriodOk; decide +kernel, _, rfl⟩

theorem witness_PostureInvariant : PostureOk running ∧ ∃ t, step running = .next t := ⟨running_posture, _, rfl⟩

theorem witness_RetainedResetsKeepTheImage : running.resetHeld = false := by decide

theorem witness_HeldResetPinIgnoresCommands :
    ({ State.reset with resetHeld := true } : State).resetHeld = true ∧
    Instr.penChange true ≠ .powerOnReset ∧ Instr.penChange true ≠ .resetPin ∧ Instr.penChange true ≠ .resetPinAsserted := by
  decide

theorem witness_ConfigTakesNoEvents : State.reset.run = .config ∧ State.reset.resetHeld = false ∧
    ¬ isPortCommand .cycleBoundary ∧ ¬ isReset .cycleBoundary :=
  ⟨rfl, rfl, fun h => h, by unfold isReset; decide⟩

theorem witness_ImageIsLockedOutsideConfig : exec (.loadConfig raw) State.reset =
    .next (next (.loadConfig raw) State.reset) ∧ (next (.loadConfig raw) State.reset).port.image = image := ⟨rfl, rfl⟩

theorem witness_RunStatesChangeOnlyAsStated :
    exec .getStatus running = .next (next .getStatus running) ∧ running.run = .run ∧
    exec .getStatus listening = .next (next .getStatus listening) ∧ listening.run = .listen := ⟨rfl, rfl, rfl, rfl⟩

/-! ## Witnesses: the station port -/

theorem witness_ReadCommandsReplyWithCopies :
    running.resetHeld = false ∧ running.port.busy = false ∧ 15 < (16#8).toNat ∧ (15#8).toNat ≤ 15 ∧
    running.engine.ring[(15#8).toNat]? = none ∧ (peerAt running (15#8).toNat).state = .free := by decide +kernel

/-- START's validation in progress on a good image. -/
def validating : State := { State.reset with port := { Init.port image with busy := true } }

theorem witness_BusyRefusesCommands : validating.resetHeld = false ∧ validating.port.busy = true ∧
    isPortCommand .getStatus ∧ Instr.getStatus ≠ .reset ∧ Instr.getStatus ≠ .startValidationEnd :=
  ⟨rfl, rfl, trivial, by decide, by decide⟩

theorem witness_PopEventTakesTheOldest :
    running.resetHeld = false ∧ running.port.busy = false ∧ running.port.events = [] ∧
    (∃ e, (record running .sampleStall .absent none (.value 32)).port.events = [e]) ∧
    isReset .reset ∧ EventsOk State.reset.port ∧ ∃ t, step State.reset = .next t :=
  ⟨rfl, rfl, rfl, ⟨_, rfl⟩, by unfold isReset; decide, by unfold EventsOk; decide +kernel, _, rfl⟩

theorem witness_LoadConfigStoresTheClampedImage :
    State.reset.resetHeld = false ∧ State.reset.port.busy = false ∧ State.reset.run = .config ∧ running.run ≠ .config ∧
    (storeImage { raw with vlive := 8192, k := 1, entryCount := 9 }).vlive = 8191 ∧
    (storeImage { raw with vlive := 8192, k := 1, entryCount := 9 }).k = 2 ∧
    (storeImage { raw with vlive := 8192, k := 1, entryCount := 9 }).entries.length = 8 := by decide +kernel

theorem witness_LoadConfigStoresTheClampedImage_items :
    NamedItemChanged { raw with vlive := 8192, entryCount := 9 } ⟨.vlive, none⟩ ∧
    NamedItemChanged { raw with vlive := 8192, entryCount := 9 } ⟨.delay, some 7⟩ ∧
    ¬ NamedItemChanged { raw with vlive := 8192, entryCount := 9 } ⟨.delay, some 0⟩ ∧
    ¬ NamedItemChanged { raw with vlive := 8191 } ⟨.vlive, none⟩ := by
  simp only [NamedItemChanged, ItemChanged, EntryItemChanged, Outside]
  decide +kernel

theorem test_load_config_entry : ∃ e, image.entries[0]? = some e ∧ EntryStored rawEntry e := by
  refine ⟨_, rfl, ?_⟩
  simp only [EntryStored]
  decide +kernel

theorem witness_StartBeginsValidation :
    State.reset.resetHeld = false ∧ State.reset.port.busy = false ∧ State.reset.run = .config ∧ running.run ≠ .config := by
  decide +kernel

/-- The good image with its entry's zone, or its outputs, spoiled. -/
def crossed : Image := { image with entries := image.entries.map (fun e => { e with zone := ⟨61, 60⟩ }) }
def outless : Image := { image with entries := image.entries.map (fun e => { e with trip0 := false }) }

theorem witness_ValidationFindsTheFirstFailure :
    validating.resetHeld = false ∧ validating.port.busy = true ∧ validating.run = .config ∧
    firstFailure { image with stationId := 65535 } (some (1, none)) ∧
    firstFailure { image with segment := 255 } (some (2, none)) ∧
    firstFailure { image with n := 17 } (some (3, none)) ∧
    firstFailure { image with w := 6 } (some (4, none)) ∧
    firstFailure { image with vdead := 4400 } (some (5, none)) := by
  simp only [firstFailure, firstFailure.passes3, firstFailure.firstFailureUpTo1]
  decide +kernel

theorem witness_ValidationFindsTheFirstFailure_entries :
    firstFailure crossed (some (6, some 0)) ∧ firstFailure outless (some (7, some 0)) ∧ firstFailure image none := by
  simp only [firstFailure, firstFailure.passes5, firstFailure.passes3, firstFailure.firstFailureUpTo1]
  refine ⟨⟨by decide +kernel, ⟨_, rfl, by decide +kernel⟩, by omega⟩,
    ⟨by decide +kernel, by decide +kernel, ⟨_, rfl, by decide +kernel⟩, by omega⟩,
    ⟨by decide +kernel, by decide +kernel⟩⟩

theorem test_validation_codes :
    failedCheck crossed = some (6, some 0) ∧ failedCheck outless = some (7, some 0) ∧ failedCheck image = none ∧
    failedCheck Init.clearedImage = some (1, none) := by decide +kernel

theorem witness_StartInstantTakesUpTheImage :
    validating.resetHeld = false ∧ validating.port.busy = true ∧ validating.run = .config ∧
    failedCheck validating.port.image = none ∧ (next .startValidationEnd validating).link.lfsr = 41 := by decide +kernel

/-! ## Witnesses: Cycle Tracker -/

/-- A blanked edge one tick before the end of blanking, and stray edges one tick outside the windows. -/
def blankedOne : State := { running with tracker := { running.tracker with blankEnd := ⟨some 100, none, none⟩ } }
def strayed : State := { locked with tracker := { locked.tracker with windowNow := .accepted } }

theorem witness_BlankedAndStrayEdgesAreDiscarded :
    blankedOne.working = true ∧ closeWindows 99 blankedOne.tracker = blankedOne.tracker ∧
    blankedOne.tracker.blankEnd.get .one = some 100 ∧ tickDiff 99 100 < 0 ∧
    strayed.working = true ∧ closeWindows 15625 strayed.tracker = strayed.tracker ∧
    strayed.tracker.mode = .locked ∧ strayed.tracker.ref = .one ∧ strayed.tracker.offset = some 0 ∧
    strayed.tracker.windowNow ≠ .awaiting ∧ strayed.tracker.next = some 16667 ∧
    (strayed.tracker.period / 16 : Nat) < (tickDiff 15625 16667 - 0).natAbs := by decide +kernel

theorem test_edge_at_the_window :
    (next (.crossingEdge .one 15626) strayed).tracker.windowNext = .accepted ∧
    (next (.crossingEdge .one 15626) strayed).tracker.correction = -260 ∧
    (next (.crossingEdge .one 15625) strayed).tracker.windowNext = .awaiting := by decide +kernel

theorem witness_NonReferenceEdgeIsAccepted :
    running.working = true ∧ running.tracker.mode ≠ .holdover ∧ Phase.two ≠ running.tracker.ref ∧
    closeWindows 100 running.tracker = running.tracker ∧
    (∀ b, ({ running with tracker := { running.tracker with blankEnd := ⟨none, some 100, none⟩ } } : State).tracker.blankEnd.get
      .two = some b → 0 ≤ tickDiff 100 b) ∧ running.tracker.blankEnd.get .two = none := by
  refine ⟨rfl, by decide, by decide, rfl, ?_, rfl⟩
  intro b h
  cases h
  decide

/-- SEEKING with three acceptances and a capture at tick 0. -/
def almostLocked : State :=
  { running with tracker := { running.tracker with accepts := 3, lastRef := some ⟨0, true⟩ } }

theorem witness_SeekCrossingMovesThePeriod :
    almostLocked.working = true ∧ almostLocked.tracker.mode = .seeking ∧
    almostLocked.tracker.blankEnd.get almostLocked.tracker.ref = none ∧ running.tracker.lastRef = none ∧
    (tickDiff 16927 0 - almostLocked.tracker.period).natAbs = almostLocked.tracker.period / 64 ∧
    (tickDiff 16928 0 - almostLocked.tracker.period).natAbs = almostLocked.tracker.period / 64 + 1 := by decide +kernel

theorem test_seek_locks :
    (next (.crossingEdge .one 16927) almostLocked).tracker.mode = .locked ∧
    (next (.crossingEdge .one 16927) almostLocked).tracker.period = 16699 ∧
    (next (.crossingEdge .one 16928) almostLocked).tracker.mode = .seeking ∧
    (next (.crossingEdge .one 16928) almostLocked).tracker.accepts = 1 := by decide +kernel

theorem witness_LockedCrossingCorrectsTheBoundary :
    locked.working = true ∧ locked.tracker.mode = .locked ∧ locked.tracker.offset = some 0 ∧
    locked.tracker.anchor = some 0 ∧ locked.tracker.next = some 16667 ∧ locked.tracker.windowNow = .awaiting ∧
    (tickDiff 1041 0 - 0).natAbs = locked.tracker.period / 16 ∧ closeWindows 1041 locked.tracker = locked.tracker ∧
    locked.tracker.blankEnd.get locked.tracker.ref = none := by decide +kernel

theorem test_locked_crossing_moves_the_boundary :
    (next (.crossingEdge .one 1041) locked).tracker.next = some 16927 ∧
    (next (.crossingEdge .one (0 - 1041)) locked).tracker.next = some 16407 := by decide +kernel

theorem witness_LockedCrossingCorrectsTheBoundary_coming :
    strayed.working = true ∧ strayed.tracker.mode = .locked ∧ strayed.tracker.offset = some 0 ∧
    strayed.tracker.anchor = some 0 ∧ strayed.tracker.next = some 16667 ∧ strayed.tracker.windowNow ≠ .awaiting ∧
    strayed.tracker.windowNext = .awaiting ∧ (tickDiff 15626 16667 - 0).natAbs = strayed.tracker.period / 16 ∧
    closeWindows 15626 strayed.tracker = strayed.tracker ∧
    strayed.tracker.blankEnd.get strayed.tracker.ref = none := by decide +kernel

/-- The part locked on a reference whose offset is to be learned. -/
def learning : State := { locked with tracker := { locked.tracker with offset := none } }

theorem witness_LockedCrossingCorrectsTheBoundary_learning :
    learning.working = true ∧ learning.tracker.mode = .locked ∧ learning.tracker.offset = none ∧
    learning.tracker.anchor = some 0 ∧ learning.tracker.next = some 16667 ∧
    learning.tracker.blankEnd.get learning.tracker.ref = none ∧ (tickDiff 8333 0).natAbs = learning.tracker.period / 2 ∧
    learning.tracker.period / 2 < (tickDiff 8334 0).natAbs ∧
    learning.tracker.period / 2 < (tickDiff (0 - 8334) 0).natAbs ∧ tickDiff (0 - 8334) 0 < 0 := by decide +kernel

/-- R11: the first edge fixes the offset against the nearer anchor and moves neither P nor the next boundary. -/
theorem test_offset_is_learned :
    (next (.crossingEdge .one 8333) learning).tracker.offset = some 8333 ∧
    (next (.crossingEdge .one 8334) learning).tracker.offset = some (-8333) ∧
    (next (.crossingEdge .one (0 - 8334)) learning).tracker.offset = some 8333 ∧
    (next (.crossingEdge .one 8334) learning).tracker.next = some 16667 := by decide +kernel

/-- HOLDOVER on an old valid cycle, and on a fresh one with a low voltage. -/
def adrift (age v : Nat) : State :=
  { running with tracker := { running.tracker with mode := .holdover, validAge := age, health := ⟨0, v, 0⟩ } }

theorem witness_HoldoverEndsAtAHealthyPhase :
    (adrift 4 0).working = true ∧ (adrift 4 0).tracker.mode = .holdover ∧ (adrift 4 0).tracker.blankEnd.get .two = none ∧
    4 ≤ (adrift 4 0).tracker.validAge ∧ image.vrefFloor ≤ (adrift 3 2000).tracker.health.get .two ∧
    (adrift 3 1999).tracker.validAge < 4 ∧ (adrift 3 1999).tracker.health.get .two < image.vrefFloor := by decide +kernel

theorem test_holdover_learns_the_offset :
    (next (.crossingEdge .two 5556) (adrift 3 2000)).tracker.offset = some 5556 ∧
    (next (.crossingEdge .two 11111) (adrift 3 2000)).tracker.offset = some (-5556) := by decide +kernel

theorem witness_HoldoverEndsAtAHealthyPhase_offset :
    (adrift 4 0).tracker.anchor = some 0 ∧ (adrift 4 0).tracker.next = some 16667 ∧
    (tickDiff 8333 0).natAbs = (adrift 4 0).tracker.period / 2 ∧
    (adrift 4 0).tracker.period / 2 < (tickDiff 8334 0).natAbs ∧ 0 < tickDiff 8334 0 ∧
    (adrift 4 0).tracker.period / 2 < (tickDiff (0 - 8334) 0).natAbs ∧ tickDiff (0 - 8334) 0 < 0 := by decide +kernel

theorem test_holdover_learns_the_nearer_anchor :
    (next (.crossingEdge .two 8333) (adrift 4 0)).tracker.offset = some 8333 ∧
    (next (.crossingEdge .two 8334) (adrift 4 0)).tracker.offset = some (-8333) ∧
    (next (.crossingEdge .two (0 - 8334)) (adrift 4 0)).tracker.offset = some 8333 := by decide +kernel

theorem witness_ReferenceMissCounts :
    locked.working = true ∧ locked.tracker.miss.get locked.tracker.ref ≤ 3 ∧ locked.tracker.windowNow = .awaiting ∧
    tickDiff (windowEnd locked.tracker 0 0 + 1) (windowEnd locked.tracker 0 16667) ≤ 0 := by decide +kernel

/-- The coming window of an offset so far below 0 that it closes before its boundary falls. -/
def early : State := { strayed with tracker := { strayed.tracker with offset := some (-1042) } }

theorem witness_ReferenceMissCounts_coming :
    early.working = true ∧ early.tracker.mode = .locked ∧ early.tracker.offset = some (-1042) ∧
    early.tracker.anchor = some 0 ∧ early.tracker.next = some 16667 ∧ early.tracker.miss.get early.tracker.ref ≤ 3 ∧
    early.tracker.windowNow ≠ .awaiting ∧ early.tracker.windowNext = .awaiting ∧
    (-1042 : Int) + (early.tracker.period / 16 : Nat) < 0 ∧
    (next .referenceMiss early).tracker.windowNext = .passed := by decide +kernel

/-- No window still to close, the ended cycle not valid and the valid-cycle age at its limit, with such counters. -/
def judging (mode : TrackerMode) (ref : Phase) (miss : PerPhase Nat) (run : Nat) : State :=
  { running with
    tracker := { running.tracker with
      mode := mode, ref := ref, offset := some 0, windowNow := .passed, windowNext := .awaiting, validAge := 4, miss := miss
      preferredRun := run, crossed := ⟨true, true, true⟩ }
    link := { running.link with windowOpen := false, receiverEnable := true }
    sampling := { running.sampling with patched := 31 } }

theorem witness_ReferenceMissCounts_boundary :
    (judging .locked .one ⟨3, 0, 0⟩ 0).working = true ∧ (judging .locked .one ⟨3, 0, 0⟩ 0).tracker.next = some 16667 ∧
    closeWindows 16667 (judging .locked .one ⟨3, 0, 0⟩ 0).tracker = (judging .locked .one ⟨3, 0, 0⟩ 0).tracker ∧
    missesAtBoundary (judging .locked .one ⟨3, 0, 0⟩ 0).tracker .one = 3 ∧ rank .one .two < rank .one .three ∧
    placesAfter .one .three .one = 1 ∧
    missesAtBoundary { (judging .seeking .one ⟨2, 0, 0⟩ 0).tracker with crossed := ⟨false, true, true⟩ } .one = 3 := by
  decide +kernel

/-- R4, R11, R12: the reference lost to the next healthy phase, to HOLDOVER, and back to the preferred phase at the eighth
boundary. -/
theorem test_boundary_evaluations :
    (next .cycleBoundary (judging .locked .one ⟨3, 2, 1⟩ 0)).tracker.ref = .three ∧
    (next .cycleBoundary (judging .locked .one ⟨3, 2, 2⟩ 0)).tracker.mode = .holdover ∧
    (next .cycleBoundary (judging .locked .two ⟨0, 0, 0⟩ 7)).tracker.ref = .one ∧
    (next .cycleBoundary (judging .locked .two ⟨0, 0, 0⟩ 6)).tracker.preferredRun = 7 := by decide +kernel

/-- Running, with so many cycles of the epoch fallen, and such a jump asked for. -/
def cycles (n : Nat) (jump : Option JumpTarget) : State :=
  { running with tracker := { running.tracker with cycleIndex := n, cycleCount := n, jump := jump } }

theorem witness_BoundaryMovesTheEpochCounter :
    (cycles 4 none).working = true ∧ (cycles 4 none).tracker.cycleCount + 1 < (cycles 4 none).tracker.epochLength ∧
    (cycles 5 none).tracker.epochLength ≤ (cycles 5 none).tracker.cycleCount + 1 ∧
    (cycles 0 (some ⟨9, 2⟩)).tracker.jump = some ⟨9, 2⟩ := by decide +kernel

/-- Locked with a pending correction, and with the reference missed three times and a healthy phase beside it. -/
def corrected : State :=
  { locked with
    tracker := { locked.tracker with correction := -260, validAge := 4 }
    sampling := { running.sampling with patched := 31 } }
def lostRef : State := { corrected with tracker := { corrected.tracker with miss := ⟨3, 0, 0⟩, windowNow := .passed } }

theorem witness_BoundaryMovesTheEpochCounter_next :
    corrected.working = true ∧ corrected.tracker.next = some 16667 ∧
    (next .cycleBoundary corrected).tracker.mode = .locked ∧ (next .cycleBoundary corrected).tracker.ref = .one ∧
    (next .cycleBoundary corrected).tracker.next = some 33074 ∧
    lostRef.tracker.mode = .locked ∧ (next .cycleBoundary lostRef).tracker.ref = .two ∧
    (next .cycleBoundary lostRef).tracker.next = some 33334 := by decide +kernel

/-- The last cycle of an epoch, its report window closed. -/
def lastCycle : State := { cycles 5 none with link := { running.link with windowOpen := false, receiverEnable := true } }

theorem test_boundary :
    (next .cycleBoundary lastCycle).tracker.epoch = 1 ∧
    (next .cycleBoundary lastCycle).tracker.anchor = some 16667 ∧
    (next .cycleBoundary (cycles 2 none)).link.windowOpen = false ∧
    (next .cycleBoundary (cycles 1 none)).link.windowOpen = true := by decide +kernel

/-- Two peers at the end of a count. -/
def quietPeer : PeerEntry :=
  { Init.freePeer with state := .active, id := 30, position := 30, reportSilence := 4, frameSilence := 4 }
def lostPeer : PeerEntry :=
  { Init.freePeer with state := .lost, id := 50, position := 50, reportSilence := 63, frameSilence := 63 }

/-- The last cycle of an epoch with no linkage entry, some records and peers, a trip under way, and so long a LISTEN. -/
def ageing (now : RunState) (listen timer : Nat) : State :=
  { lastCycle with
    run := now
    link := { lastCycle.link with hold := 5 }
    timeline := { running.timeline with listenCount := listen }
    peers := { running.peers with entries := quietPeer :: lostPeer :: List.replicate 14 Init.freePeer }
    register := ⟨[upRecord, { downRecord with frameAge := 11 }], []⟩
    linkage := { running.linkage with trip0 := ⟨.asserted, some 0, timer, some ⟨40, 60⟩, some ⟨41, 50⟩, true⟩ }
    port := Init.port { image with entries := [] } }

theorem witness_BoundaryMovesTheEpochCounter_counts :
    (ageing .run 0 3).working = true ∧ (ageing .run 0 3).port.image.entries = [] ∧ RegisterOk (ageing .run 0 3) ∧
    (ageing .run 0 3).link.windowOpen = false ∧ (ageing .run 0 3).tracker.jump = none ∧
    (ageing .run 0 3).tracker.epochLength ≤ (ageing .run 0 3).tracker.cycleCount + 1 ∧
    ((ageing .run 0 3).linkage.trip .trip0).state = .asserted ∧ (ageing .run 0 3).port.image.confirmTimeout = 12 ∧
    (ageing .listen 19 3).working = true ∧ (ageing .run 0 3).engine.discard = false ∧
    FreedByAge lostPeer ∧
    ({ ageing .run 0 3 with tracker := (cycles 0 (some ⟨9, 2⟩)).tracker } : State).tracker.jump ≠ none ∧
    ({ ageing .run 0 3 with tracker := (cycles 2 none).tracker } : State).tracker.cycleCount + 1 < 6 := by
  unfold RegisterOk FreedByAge
  decide +kernel

theorem test_boundary_counts :
    (next .cycleBoundary (ageing .run 0 3)).link.hold = 4 ∧
    ((next .cycleBoundary (ageing .run 0 3)).linkage.trip .trip0).timer = 4 ∧
    (next .cycleBoundary (ageing .run 0 3)).register.records.map (fun r => (r.key.claimant, r.standingAge, r.frameAge)) =
      [(30, 2, 2)] ∧
    (next .cycleBoundary (ageing .run 0 3)).peers.entries.map PeerEntry.state =
      .stale :: List.replicate 15 .free := by decide +kernel

theorem test_listen_count :
    (next .cycleBoundary (ageing .listen 18 3)).run = .listen ∧ (next .cycleBoundary (ageing .listen 19 3)).run = .run ∧
    ((next .cycleBoundary (ageing .run 0 11)).linkage.trip .trip0).state = .failed ∧
    (next .cycleBoundary (ageing .run 0 3)).link.queue.map QueueEntry.subject = [.report] := by decide +kernel

/-- A BACKUP entry of a wide zone, and its timer running on a heard claim. -/
def wideEntry : LinkageEntry := ⟨⟨0, 60⟩, true, true, .either, 1, false, true, false, .backup, 3, .same⟩
def onRecord (n : Nat) : EntryRuntime := ⟨false, false, .running n ⟨upRecord.key, none, upRecord.span⟩⟩

/-- The last cycle of an epoch, a BACKUP entry's timer running on a heard claim that stands. -/
def counting (n : Nat) : State :=
  { lastCycle with
    port := Init.port { image with entries := [wideEntry] }
    linkage := { running.linkage with entries := (onRecord n) :: List.replicate 7 Init.entryRuntime }
    register := ⟨[upRecord], []⟩ }

theorem witness_BoundaryMovesTheEpochCounter_backup :
    (counting 1).working = true ∧ (counting 1).run = .run ∧ (counting 1).link.windowOpen = false ∧
    (counting 1).tracker.epochLength ≤ (counting 1).tracker.cycleCount + 1 ∧
    (∀ o, ((counting 1).linkage.trip o).state ≠ .asserted) ∧ upRecord.own = false ∧ upRecord.frameAge + 1 < 12 ∧
    (counting 1).port.image.entries = [wideEntry] ∧ 1 + 1 < wideEntry.backupEpochs ∧
    SingleSatisfies (counting 1) wideEntry upRecord := by
  refine ⟨by decide +kernel, by decide +kernel, by decide +kernel, by decide +kernel, fun o => by cases o <;> decide +kernel,
    by decide +kernel, by decide +kernel, by decide +kernel, by decide +kernel, by decide +kernel, ?_, .inl ?_⟩
  · unfold InScope
    decide +kernel
  · unfold InForce
    decide +kernel

theorem test_backup_timer_counts :
    ((next .cycleBoundary (counting 1)).linkage.entries[0]?).map EntryRuntime.timer =
      some (.running 2 ⟨upRecord.key, none, upRecord.span⟩) ∧
    ((next .cycleBoundary (counting 2)).linkage.entries[0]?).map EntryRuntime.timer =
      some (.expired ⟨upRecord.key, none, upRecord.span⟩) := by decide +kernel

theorem witness_JumpBoundaryClearsTheOldTimeline :
    (cycles 0 (some ⟨9, 2⟩)).working = true ∧ (cycles 0 (some ⟨9, 3⟩)).tracker.jump = some ⟨9, 3⟩ ∧
    2 < image.w ∧ ¬ 3 < image.w ∧ listening.working = true ∧ listening.run = .listen ∧
    ({ listening with timeline := { listening.timeline with join := .pending } } : State).timeline.join = .pending := by
  decide +kernel

/-! ## Witnesses: sample port and Measurement Engine -/

theorem witness_SampleSetIsTakenOrDiscarded :
    running.working = true ∧ running.sampling.strobe.isSome = true ∧ running.sampling.hasSet = false ∧
    ({ running with sampling := { running.sampling with strobe := none } } : State).working = true ∧
    ({ running with sampling := { running.sampling with stalled := true } } : State).sampling.stalled = true := by
  decide +kernel

/-- At strobe 30, with so long a missing run. -/
def missing (n : Nat) : State :=
  { running with sampling := { running.sampling with strobe := some 30, missingRun := n } }

theorem witness_StrobeIsIssuedAndPatched :
    (missing 31).working = true ∧ (missing 31).sampling.strobe = some 30 ∧ (missing 31).sampling.hasSet = false ∧
    (missing 31).sampling.missingRun ≤ 32 ∧ (missing 32).sampling.missingRun ≤ 32 ∧
    32 ≤ (missing 32).sampling.missingRun ∧ (missing 32).sampling.stalled = false := by decide +kernel

theorem test_strobe_stalls :
    (next .sampleStrobe (missing 31)).sampling.stalled = true ∧ (next .sampleStrobe (missing 30)).sampling.stalled = false ∧
    (next .sampleStrobe (missing 30)).timebase = 16120 := by decide +kernel

theorem witness_RecordShowsTheLastCyclesTracker :
    (cycles 5 none).working = true ∧ (cycles 5 none).tracker.jump = none ∧
    (cycles 5 none).tracker.epochLength ≤ (cycles 5 none).tracker.cycleCount + 1 ∧
    (cycles 5 none).engine.discard = false := by decide +kernel

/-- Two closed cycles of an epoch, one not valid, with the sums of the other. -/
def summed : Engine :=
  { Init.engine with
    closed := [⟨⟨Init.allPhases 700, Init.allPhases 4600, 40⟩, true⟩, ⟨⟨Init.allPhases 1, Init.allPhases 1, 1⟩, false⟩]
    sums := ⟨Init.allPhases 700, Init.allPhases 4600, 40⟩, validCount := 1, previous := some ⟨1, false⟩ }

theorem witness_RecordShowsTheLastCyclesTracker_values : EpochOk (cycles 5 none).engine ∧ EpochOk summed := by
  refine ⟨⟨fun φ => ?_, rfl, rfl, rfl, rfl⟩, ⟨fun φ => ?_, by decide +kernel, by decide +kernel, by decide +kernel, rfl⟩⟩
  · cases φ <;> decide +kernel
  · cases φ <;> decide +kernel

/-! ## Witnesses: Detector and run state -/

theorem witness_ListenTimeoutEntersRun :
    ({ listening with timeline := { listening.timeline with listenCount := 20 } } : State).working = true ∧
    ({ listening with timeline := { listening.timeline with listenCount := 20 } } : State).run = .listen := by decide +kernel

/-- Running in an assessment state, with the four counters at one number. -/
def assessed (a : Assessment) (n : Nat) : State :=
  { running with detector := ⟨a, none, none, 0, n, n, n, n, false⟩ }

theorem witness_ReturnsToCalm :
    (assessed .blind 4).working = true ∧ (assessed .blind 4).detector.assessment = .blind ∧
    (assessed .blind 4).detector.blindRun = 4 ∧ (assessed .disturbed 8).detector.assessment = .disturbed ∧
    (assessed .disturbed 8).port.image.settleCount = (assessed .disturbed 8).detector.settle ∧
    (∀ r ∈ (assessed .disturbed 8).register.records, ¬ (r.own = true ∧ r.status = .standing)) ∧
    (assessed .disturbed 600).detector.forced = 600 ∧ (assessed .deenergized 8).detector.assessment = .deenergized ∧
    (assessed .deenergized 8).port.image.settleCount = (assessed .deenergized 8).detector.restore := by decide +kernel

theorem test_calm_not_yet :
    (next .blindExit (assessed .blind 3)).detector.assessment = .blind ∧
    (next .disturbanceClose (assessed .disturbed 7)).detector.assessment = .disturbed ∧
    (next .disturbanceTimeout (assessed .disturbed 599)).detector.assessment = .disturbed ∧
    (next .deenergizedRestored (assessed .deenergized 7)).detector.assessment = .deenergized := by decide +kernel

/-- At the last cycle of epoch 3, the ring holding epochs 0, 1 and 2, in an assessment state with the four counters at a number. -/
def handing (a : Assessment) (n : Nat) (v : Nat) : State :=
  { lastCycle with
    tracker := { lastCycle.tracker with epoch := 3 }
    engine := { Init.engine with ring := [flat 2 0 v, flat 1 0 0, flat 0 0 v] }
    detector := ⟨a, none, none, 0, n, n, n, n, false⟩
    port := tableless.port }

theorem witness_ReturnsToCalm_record :
    (handing .calm 0 4600).working = true ∧ (handing .calm 0 4600).tracker.jump = none ∧
    (handing .calm 0 4600).tracker.epochLength ≤ (handing .calm 0 4600).tracker.cycleCount + 1 ∧
    (handing .calm 0 4600).engine.discard = false ∧ (handing .calm 0 4600).link.windowOpen = false ∧
    (handing .calm 0 4600).link.sending = false ∧ (handing .calm 0 4600).port.image.entries = [] ∧
    (handing .blind 3 0).detector.assessment = .blind ∧ (handing .disturbed 7 0).detector.settle ≤ image.settleCount ∧
    (handing .deenergized 7 0).detector.restore ≤ image.settleCount := by decide +kernel

/-- The epoch's cycles valid but for the last one. -/
def valid6 (s : State) : State :=
  { s with engine := { s.engine with validCount := 6, closed := List.replicate 5 ⟨Init.zeroMeans, true⟩ } }

theorem test_record_handed :
    (next .cycleBoundary (handing .calm 0 4600)).detector.reference = some (flat 0 0 4600) ∧
    (next .cycleBoundary (valid6 (handing .calm 0 4600))).detector.assessment = .disturbed ∧
    (next .cycleBoundary (valid6 (handing .calm 0 4600))).detector.snapshot = some (flat 0 0 4600) ∧
    (next .cycleBoundary (valid6 (handing .calm 0 0))).detector.assessment = .calm ∧
    (next .cycleBoundary (valid6 (handing .blind 3 0))).detector.assessment = .calm ∧
    (next .cycleBoundary (valid6 (handing .disturbed 7 0))).detector.assessment = .calm ∧
    (next .cycleBoundary (valid6 (handing .disturbed 6 0))).detector.settle = 7 ∧
    (next .cycleBoundary (valid6 (handing .disturbed 6 4600))).detector.settle = 0 := by decide +kernel

/-- R47: where a change has closed the disturbance since the record before, the next record is not compared; the one after is. -/
def closedByChange (b : Bool) : State :=
  { handing .calm 0 4600 with detector := { (handing .calm 0 4600).detector with closedByChange := b } }

theorem test_record_after_a_close :
    (next .cycleBoundary (valid6 (closedByChange true))).detector.assessment = .calm ∧
    (next .cycleBoundary (valid6 (closedByChange true))).detector.closedByChange = false ∧
    (next .cycleBoundary (valid6 (closedByChange true))).detector.reference = some (flat 0 0 4600) ∧
    (next .cycleBoundary (valid6 (closedByChange false))).detector.assessment = .disturbed := by decide +kernel

theorem witness_ReturnsToCalm_closedByChange :
    (closedByChange true).detector.assessment = .calm ∧ (closedByChange true).detector.closedByChange = true ∧
    (closedByChange false).detector.closedByChange = false := by decide +kernel

/-- Ended and asserted trip records, in a part that can trip nothing. -/
def ended (a : Assessment) (n : Nat) : State :=
  { assessed a n with
    port := tableless.port
    linkage := { running.linkage with
      trip0 := ⟨.confirmed, some 0, 3, some ⟨40, 60⟩, some ⟨41, 50⟩, false⟩
      trip1 := ⟨.asserted, some 0, 3, some ⟨40, 60⟩, some ⟨41, 50⟩, true⟩ } }

theorem witness_CalmClearsTheTripLinkage :
    (ended .blind 4).working = true ∧ NoTripTable (ended .blind 4) ∧ (ended .blind 4).detector.blindRun = 4 ∧
    (ended .disturbed 8).port.image.settleCount = (ended .disturbed 8).detector.settle ∧
    (∀ r ∈ (ended .disturbed 8).register.records, ¬ (r.own = true ∧ r.status = .standing)) ∧
    (ended .disturbed 600).detector.forced = 600 ∧ (ended .deenergized 8).detector.restore = 8 ∧
    ((ended .blind 4).linkage.trip .trip0).state = .confirmed ∧ ((ended .blind 4).linkage.trip .trip1).state = .asserted := by
  unfold NoTripTable
  decide +kernel

/-- R168: an entry into CALM from each of the three states returns the ended record to IDLE. -/
theorem test_calm_idles_the_trips :
    ((next .blindExit (ended .blind 4)).linkage.trip .trip0).state = .idle ∧
    ((next .disturbanceClose (ended .disturbed 8)).linkage.trip .trip0).state = .idle ∧
    ((next .deenergizedRestored (ended .deenergized 8)).linkage.trip .trip0).state = .idle ∧
    ((next .blindExit (ended .blind 4)).linkage.trip .trip1).state = .asserted := by decide +kernel

/-! ## Witnesses: span link -/

/-- One queue entry of each class, none bound but to epoch 0. -/
def alertEntry : QueueEntry := ⟨.alert ⟨0, ⟨true, false, false⟩, Init.zeroMeans⟩, 0, 0, false, .noFrame⟩
def reportEntry : QueueEntry := ⟨.report (flat 0xFFFF 0 0), 0, 0, false, .noFrame⟩
def claimContent : ClaimContent := ⟨⟨41, 50⟩, .openConductor, ⟨true, false, false⟩, .u⟩
def claimEntry (mark : InFlightMark) (remaining : Nat) : QueueEntry := ⟨.claim claimContent false, 0, remaining, true, mark⟩

/-- Running with one entry queued, in an access state; and the same on a busy channel. -/
def queued (e : QueueEntry) (access : Access) : State :=
  { running with link := { running.link with queue := [e], access := access, candidate := some e.subject } }
def busyChannel (s : State) : State := { s with busyPin := true }

theorem witness_AlertAndHoldRunOut :
    (queued alertEntry .defer).working = true ∧ queueFind (queued alertEntry .defer).link.queue .alert = some alertEntry ∧
    (queued alertEntry .defer).link.alertsExpired ≤ 65535 ∧ epochDiff 2 alertEntry.bound = 2 ∧
    epochDiff 1 alertEntry.bound = 1 ∧ running.link.hold = 0 ∧ running.link.queue = [] := by decide +kernel

/-- The hold at 0 with a series due, its access still to be judged: a draw of 0 hands it over at once, another does not. -/
def holdless (lfsr : BitVec 16) : State :=
  { queued (claimEntry .noFrame 3) .idle with link := { (queued (claimEntry .noFrame 3) .idle).link with lfsr := lfsr } }

theorem witness_AlertAndHoldRunOut_queue :
    (holdless 41).working = true ∧ (holdless 41).link.hold = 0 ∧ (holdless 41).link.queue ≠ [] ∧
    (next .vigilanceHoldExpired (holdless 41)).link.sending = false ∧
    (next .vigilanceHoldExpired (holdless 82)).link.sending = true ∧ (holdless 82).link.sending = false := by decide +kernel

theorem test_alert_expires_at_two :
    (next .alertExpired { queued alertEntry .defer with tracker := { running.tracker with epoch := 2 } }).link.queue = [] ∧
    (next .alertExpired { queued alertEntry .defer with tracker := { running.tracker with epoch := 1 } }).link.queue.length = 1 := by
  decide +kernel

/-- A frame in flight, after so many timeouts and slots. -/
def inAir (q : List QueueEntry) (timeouts timer : Nat) : State :=
  { running with
    link := { running.link with
      queue := q, sending := true, receiverEnable := false, completionTimer := timer
      inFlight := some ⟨.claim .openConductor .u, [3#8]⟩ }
    fault := { running.fault with timeouts := timeouts } }

theorem witness_FramesComplete :
    (inAir [] 1 64).working = true ∧ (inAir [] 1 64).link.sending = true ∧ (inAir [] 2 64).fault.timeouts ≤ 3 ∧
    (inAir [] 2 64).fault.xcvrFault = false ∧ 64 ≤ (inAir [] 2 64).link.completionTimer ∧
    (claimEntry .current 2).isSeries = true ∧ (claimEntry .current 2).mark = .current ∧
    (claimEntry .superseded 1).mark = .superseded ∧
    (inAir [claimEntry .current 2] 0 0).link.inFlight = some ⟨(claimEntry .current 2).subject, [3#8]⟩ := by decide +kernel

theorem test_frames_complete :
    (next .txDone (inAir [claimEntry .current 2] 0 0)).link.queue = [{ claimEntry .noFrame 1 with due := false }] ∧
    (next .txDone (inAir [claimEntry .current 1] 0 0)).link.queue = [] ∧
    (next .txCompletionTimeout (inAir [] 2 64)).fault.xcvrFault = true ∧
    (next .txCompletionTimeout (inAir [] 1 64)).fault.xcvrFault = false := by decide +kernel

/-- A part with no linkage entry, its own series of a count and mark in flight. -/
def flying (e : QueueEntry) : State := { inAir [e] 0 64 with port := tableless.port }

theorem witness_FramesComplete_series :
    (flying (claimEntry .current 1)).working = true ∧ (flying (claimEntry .current 1)).link.sending = true ∧
    QueueOk (flying (claimEntry .current 1)).link.queue ∧ NoTripTable (flying (claimEntry .current 1)) ∧
    64 ≤ (flying (claimEntry .current 1)).link.completionTimer ∧
    queueFind (flying (claimEntry .current 1)).link.queue (claimEntry .current 1).subject = some (claimEntry .current 1) ∧
    queueFind (flying (claimEntry .superseded 4)).link.queue (claimEntry .current 1).subject =
      some (claimEntry .superseded 4) := by
  simp only [QueueOk, NoTripTable]
  decide +kernel

theorem witness_FramesComplete_noSeriesCloses : NoSeriesCloses (inAir [] 2 64) ∧
    NoSeriesCloses (flying (claimEntry .current 2)) := by
  refine ⟨fun f e hf he => ?_, fun f e hf he => ?_⟩
  · cases hf
    cases he
  · cases hf
    have found : queueFind (flying (claimEntry .current 2)).link.queue (.claim .openConductor .u) =
      some (claimEntry .current 2) := by decide
    cases he.symm.trans found
    decide

/-- A boundary within an epoch whose strobe completes the last frame of the RELEASE series of an own record. -/
def releaseEnding : State :=
  { flying { claimEntry .current 1 with item := .release claimContent } with
    tracker := (cycles 2 none).tracker
    link := { (inAir [{ claimEntry .current 1 with item := .release claimContent }] 0 63).link with windowOpen := false }
    register := ⟨[{ upRecord with key := ⟨image.stationId, .openConductor, .u⟩, own := true, status := .released }], []⟩ }

theorem witness_BoundaryMovesTheEpochCounter_closes :
    releaseEnding.working = true ∧ releaseEnding.port.image.entries = [] ∧ releaseEnding.link.windowOpen = false ∧
    releaseEnding.tracker.jump = none ∧ releaseEnding.tracker.cycleCount + 1 < releaseEnding.tracker.epochLength ∧
    releaseEnding.link.sending = true ∧ releaseEnding.link.access ≠ .backoff ∧ 64 ≤ releaseEnding.link.completionTimer + 1 ∧
    QueueOk releaseEnding.link.queue ∧
    { releaseEnding with link := { releaseEnding.link with completionTimer := 62 } }.link.completionTimer + 1 < 64 := by
  simp only [QueueOk]
  decide +kernel

/-- R56, R72, R141: the series and its RELEASED record leave at that strobe, and at no earlier one. -/
theorem test_release_closes_at_a_boundary :
    (next .cycleBoundary releaseEnding).link.queue = [] ∧ (next .cycleBoundary releaseEnding).register.records = [] ∧
    (next .cycleBoundary { releaseEnding with link := { releaseEnding.link with completionTimer := 62 } }).register =
      releaseEnding.register := by decide +kernel

theorem test_series_ends :
    (next .txDone (flying (claimEntry .current 1))).link.queue = [] ∧
    (next .txDone (flying (claimEntry .superseded 4))).link.queue.map QueueEntry.remaining = [4] ∧
    (next .txCompletionTimeout (flying (claimEntry .current 2))).fault.timeouts = 1 ∧
    (next .txDone { inAir [] 3 0 with fault := { running.fault with timeouts := 3, xcvrFault := true, impaired := true } }).fault =
      { running.fault with timeouts := 0, xcvrFault := false, impaired := false } := by decide +kernel

/-- R70, R78: the close of its window takes a queued REPORT and abandons its backoff, whatever opens at the same boundary. -/
theorem test_window_close_abandons_the_backoff :
    (shutWindow 0 (queued reportEntry .backoff)).link.queue = [] ∧
    (shutWindow 0 (queued reportEntry .backoff)).link.access = .idle ∧
    (shutWindow 0 (queued reportEntry .backoff)).link.reportsMissed = 1 := by decide +kernel

theorem posture_of_queued : PostureOk (queued alertEntry .backoff) ∧ PostureOk (queued (claimEntry .noFrame 3) .defer) := by
  unfold PostureOk
  decide +kernel

/-- The same backoff with so many slots left. -/
def backingOff (n : Nat) : State :=
  { queued alertEntry .backoff with link := { (queued alertEntry .backoff).link with backoff := n } }

theorem witness_StrobeIsIssuedAndPatched_counts :
    (inAir [] 0 62).sampling.strobe = some 0 ∧ (inAir [] 0 62).link.sending = true ∧ (inAir [] 0 62).link.access ≠ .backoff ∧
    (inAir [] 0 62).link.completionTimer + 1 < 64 ∧ 64 ≤ (inAir [] 0 63).link.completionTimer + 1 ∧
    PostureOk (backingOff 1) ∧ (backingOff 1).link.sending = false ∧ (backingOff 1).link.access = .backoff ∧
    backoffStands (backingOff 1) = true ∧ (backingOff 2).link.backoff = 2 ∧ (busyChannel (backingOff 1)).busyPin = true := by
  unfold PostureOk
  decide +kernel

theorem test_strobe_counts :
    (next .sampleStrobe (inAir [] 0 62)).link.completionTimer = 63 ∧
    (next .sampleStrobe (inAir [] 0 63)).link.sending = false ∧ (next .sampleStrobe (backingOff 2)).link.backoff = 1 ∧
    (next .sampleStrobe (backingOff 1)).link.sending = true ∧
    (next .sampleStrobe (busyChannel (backingOff 1))).link.access = .defer := by decide +kernel

/-- In a reception, its timer at a number. -/
def hearing (timer : Nat) : State :=
  { running with link := { running.link with receiving := true, latch := some ⟨0, 0⟩, receptionTimer := timer } }

theorem test_strobe_counts_a_reception :
    (next .sampleStrobe (hearing 62)).link.receptionTimer = 63 ∧ (next .sampleStrobe (hearing 63)).link.receiving = false ∧
    (next .referenceMiss (hearing 62)).link = (hearing 62).link := by decide +kernel

theorem witness_BackoffEndHandsOverOrDefers :
    (queued alertEntry .backoff).working = true ∧ (queued alertEntry .backoff).run = .run ∧
    (queued alertEntry .backoff).link.sending = false ∧ (queued alertEntry .backoff).link.access = .backoff ∧
    (queued alertEntry .backoff).link.backoff = 0 ∧ candidateEntry (queued alertEntry .backoff) = some alertEntry ∧
    eligible (queued alertEntry .backoff) alertEntry = true ∧ (queued alertEntry .backoff).busyPin = false ∧
    eligible (busyChannel (queued reportEntry .backoff)) reportEntry = true ∧
    eligible (queued (claimEntry .noFrame 3) .backoff) (claimEntry .noFrame 3) = true := by decide +kernel

theorem test_backoff_end :
    (next .backoffEnd (queued alertEntry .backoff)).link.sending = true ∧
    (next .backoffEnd (queued alertEntry .backoff)).link.queue = [] ∧
    (next .backoffEnd (busyChannel (queued alertEntry .backoff))).link.access = .defer := by decide +kernel

theorem witness_IdleChannelDrawsABackoff :
    (41#16) ≠ 0 ∧ (queued (claimEntry .noFrame 3) .defer).working = true ∧ (queued (claimEntry .noFrame 3) .defer).run = .run ∧
    (queued (claimEntry .noFrame 3) .defer).link.access = .defer ∧
    firstEligible (queued (claimEntry .noFrame 3) .defer) = some (claimEntry .noFrame 3) ∧
    backoffSlots 0 (lfsrStep 41#16) = 2 ∧ backoffSlots 0 (lfsrStep 82#16) = 0 := by decide +kernel

theorem witness_ReceptionLatchesTheTimeline :
    listening.working = true ∧ listening.run = .listen ∧ running.link.queue = [] ∧ running.link.receiverEnable = true ∧
    ({ running with link := { running.link with receiving := true, receptionTimer := 64 } } : State).link.receiving = true ∧
    (64 : Nat) ≤ ({ running with link := { running.link with receptionTimer := 64 } } : State).link.receptionTimer := by
  decide +kernel

/-- In RUN with a series queued: its backoff drawn or waiting, a reception begins; a draw of 0 at once takes it. -/
theorem witness_ReceptionLatchesTheTimeline_queue :
    (holdless 41).run = .run ∧ (holdless 41).link.queue ≠ [] ∧ (holdless 41).link.receiverEnable = true ∧
    (next .rxStart (holdless 41)).link.receiving = true ∧ (next .rxStart (holdless 82)).link.receiving = false ∧
    (next .rxStart (busyChannel (holdless 82))).link.receiving = true := by decide +kernel

/-- A header of a station upstream at 30, of the own segment, at the own epoch and strobe. -/
def upstream (flags : BitVec 8) : Header := ⟨7, 30, 30, 0, 0, 6, flags⟩
def reportPayload : ReportPayload := ⟨⟨Init.allPhases 100, Init.allPhases 4600, 30⟩, 5, 6, .one, .locked, false⟩
def reportFrame (h : Header) : List Byte := putFrame ⟨h, .report reportPayload⟩

theorem witness_DroppedFramesAreCountedOnce :
    running.working = true ∧ receiveFilter image [] = .dropped .crc ∧
    receiveFilter image (reportFrame { upstream 0 with segment := 8 }) = .dropped .foreignSegment ∧
    receiveFilter image (reportFrame { upstream 0 with sender := 41 }) = .dropped .ownId ∧
    receiveFilter image (reportFrame { upstream 0 with stamp := 192 }) = .dropped .malformed ∧
    receiveFilter image (([6#8] : List Byte) ++ List.replicate 11 0#8 ++ put16 (crc16 ([6#8] ++ List.replicate 11 0#8)).toNat) =
      .dropped .unknownKind ∧
    receiveFilter image (([2#8] : List Byte) ++ List.replicate 11 0#8 ++ put16 (crc16 ([2#8] ++ List.replicate 11 0#8)).toNat) =
      .dropped .length := by decide +kernel

theorem witness_FramesReadBackAsTheyWerePut :
    headerPlaced (upstream 255) ∧ headerPlaced { upstream 0 with stamp := 191, position := 4095, sender := 65534 } ∧
    payloadPlaced (.report reportPayload) ∧ payloadPlaced (.claim claimContent true) ∧
    (upstream 0).segment = image.segment ∧ (upstream 0).sender ≠ image.stationId := by
  simp only [headerPlaced, payloadPlaced, meansPlaced, claimPlaced]
  decide +kernel

/-- The layout of section 4.3, written out byte by byte: a CLAIM of station 30 at 41, open conductor on phase 1, end U. -/
theorem test_claim_frame_bytes :
    (putFrame ⟨{ upstream 0x81 with epoch := 0x0203, stamp := 0x21 }, .claim claimContent false⟩).take 20 =
      [3#8, 7#8, 0#8, 30#8, 0#8, 30#8, 2#8, 3#8, 0#8, 0x21#8, 6#8, 0x81#8, 0#8, 41#8, 0#8, 50#8, 1#8, 1#8, 1#8, 0#8] := by
  decide +kernel

/-! ## Witnesses: Peer Table and Timeline Unit -/

/-- The entry of a station upstream at 30, and of one downstream at 50. -/
def peer30 (state : PeerState) (silence : Nat) : PeerEntry :=
  { Init.freePeer with
    state := state, id := 30, position := 30, aligned := true, reportSilence := silence, frameSilence := silence, age := 6 }
def peer50 : PeerEntry := { Init.freePeer with state := .active, id := 50, position := 50, aligned := true }

/-- Running, with an entry for station 30 in slot 0, adjacent upstream, and its timing source where it may be one. -/
def knowing (e : PeerEntry) : State :=
  { running with
    peers := { running.peers with entries := running.peers.entries.set 0 e, adjacentUp := some 0 }
    timeline := { running.timeline with source := timingSource 41 [e] } }

theorem witness_PeersAgeOut :
    (knowing { peer30 .heard 20 with tally := 2 }).working = true ∧
    (knowing { peer30 .heard 20 with tally := 2 }).peers.entries[0]? = some { peer30 .heard 20 with tally := 2 } ∧
    (knowing (peer30 .active 5)).peers.entries[0]? = some (peer30 .active 5) ∧
    (knowing (peer30 .stale 20)).peers.entries[0]? = some (peer30 .stale 20) ∧
    (knowing (peer30 .lost 64)).peers.entries[0]? = some (peer30 .lost 64) ∧ (peer30 .lost 64).pinned = 0 ∧
    running.fault.silence < 10 ∧ running.fault.silent = false := by decide +kernel

theorem test_peers_not_yet :
    (peerAt (next (.peerStale 0) (knowing (peer30 .active 4))) 0).state = .active ∧
    (peerAt (next (.peerLost 0) (knowing (peer30 .stale 19))) 0).state = .stale ∧
    (peerAt (next (.peerFreed 0) (knowing (peer30 .lost 63))) 0).state = .lost ∧
    (peerAt (next (.probationWindowPassed 0) (knowing { peer30 .heard 1 with tally := 1, age := 5 })) 0).tally = 1 := by
  decide +kernel

theorem witness_AdjacentPeerIsTheNearestUsable :
    evaluateSide 41 .up [peer30 .active 0, peer50] = some 0 ∧ evaluateSide 41 .down [peer30 .active 0, peer50] = some 1 ∧
    evaluateSide 41 .up [peer50] = none ∧
    evaluateSide 41 .up [{ peer30 .active 0 with position := 35 }, { peer30 .stale 9 with pinned := 1 }] = some 1 := by
  decide +kernel

/-- R111: a jump that closes an OPEN window evaluates the adjacency, as any close does; with the window closed it does not. -/
theorem test_jump_close_evaluates_adjacency :
    (jumpWindow ⟨9, 3⟩ { knowing (peer30 .active 0) with peers := { (knowing (peer30 .active 0)).peers with adjacentUp := none } }).peers.adjacentUp
      = some 0 ∧
    (jumpWindow ⟨9, 3⟩ { knowing (peer30 .lost 0) with link := { running.link with windowOpen := false } }).peers.adjacentUp =
      some 0 ∧
    (jumpWindow ⟨9, 3⟩ (knowing (peer30 .lost 0))).peers.adjacentUp = none := by decide +kernel

theorem witness_ReportActsOnItsSendersEntry :
    (knowing (peer30 .active 0)).working = true ∧ (knowing (peer30 .active 0)).fault.silent = false ∧
    receiveFilter image (reportFrame (upstream 0)) = .valid ⟨upstream 0, .report reportPayload⟩ ∧
    slotOf (knowing (peer30 .active 0)).peers.entries 30 = some 0 ∧
    (peerAt (knowing (peer30 .active 0)) 0).position = (upstream 0).position ∧
    receiveFilter image (reportFrame (upstream 8)) = .valid ⟨upstream 8, .report reportPayload⟩ ∧
    (upstream 8).invalid = true ∧ (upstream 0).invalid = false ∧
    slotOf (knowing { peer30 .heard 0 with tally := 2 }).peers.entries 30 = some 0 := by decide +kernel

/-- Reports 16 and 17 stamp positions ahead. -/
def ahead (n : Nat) : Header := { upstream 0 with stamp := n }

theorem test_report_alignment :
    (peerAt (next (.reportReceived (reportFrame (ahead 16))) (knowing (peer30 .active 0))) 0).aligned = true ∧
    (peerAt (next (.reportReceived (reportFrame (ahead 17))) (knowing (peer30 .active 0))) 0).aligned = false ∧
    (peerAt (next (.reportReceived (reportFrame (upstream 0))) (knowing { peer30 .heard 0 with tally := 2 })) 0).state = .active ∧
    (peerAt (next (.reportReceived (reportFrame (upstream 0))) (knowing { peer30 .heard 0 with tally := 1 })) 0).state = .heard := by
  decide +kernel

/-- A newcomer's place: taken by the own position or by another entry; free; and every slot held by entries. -/
def crowded (pinned position : Nat) : State :=
  { running with peers := { running.peers with
      entries := List.replicate 16 { peer30 .active 0 with id := 99, position := position, pinned := pinned } } }

theorem witness_ReportActsOnItsSendersEntry_newcomer :
    running.working = true ∧ running.fault.silent = false ∧
    slotOf running.peers.entries (upstream 0).sender = none ∧ slotOf (crowded 0 20).peers.entries 30 = none ∧
    running.peers.conflicts.length ≤ 8 ∧ running.peers.refusals ≤ 65535 ∧
    PositionTaken (crowded 0 30) 30 30 ∧ PositionTaken running 30 41 ∧ ¬ PositionTaken running 30 30 ∧
    chooseSlot 41 30 running.peers.entries = some 0 ∧ chooseSlot 41 30 (crowded 0 20).peers.entries = some 0 ∧
    chooseSlot 41 30 (crowded 1 20).peers.entries = none ∧ chooseSlot 41 30 (crowded 0 52).peers.entries = none := by
  simp only [PositionTaken]
  decide +kernel

theorem witness_ReportActsOnItsSendersEntry_evictable :
    Evictable 41 (fun e => e.state = .active ∨ e.state = .heard) (crowded 0 20).peers.entries 0 :=
  ⟨_, rfl, by decide +kernel⟩

/-- Station 30 known at 35, and reporting from 30. -/
def moving (pinned : Nat) (other : PeerEntry) : State :=
  { knowing { peer30 .active 0 with position := 35, pinned := pinned } with
    peers := { running.peers with entries :=
      (running.peers.entries.set 0 { peer30 .active 0 with position := 35, pinned := pinned }).set 1 other } }

theorem witness_ReportActsOnItsSendersEntry_moved :
    (moving 0 Init.freePeer).working = true ∧ slotOf (moving 0 Init.freePeer).peers.entries 30 = some 0 ∧
    (peerAt (moving 0 Init.freePeer) 0).position ≠ (upstream 0).position ∧
    ¬ PositionTaken (moving 0 Init.freePeer) 30 30 ∧ PositionTaken (moving 0 { peer50 with position := 30 }) 30 30 ∧
    0 < (peerAt (moving 1 Init.freePeer) 0).pinned := by
  simp only [PositionTaken]
  decide +kernel

theorem witness_ReportActsOnItsSendersEntry_one_slot (j : Nat) (e : PeerEntry)
    (h : (moving 0 Init.freePeer).peers.entries[j]? = some e) (hs : e.state ≠ .free) : j = 0 := by
  have slots : ∀ k : Fin 16, (peerAt (moving 0 Init.freePeer) k.val).state ≠ .free → k.val = 0 := by decide +kernel
  obtain ⟨hj, _⟩ := List.getElem?_eq_some_iff.mp h
  refine slots ⟨j, hj⟩ ?_
  simpa [peerAt, List.getD_eq_getElem?_getD, h] using hs

theorem test_moved :
    (peerAt (next (.reportReceived (reportFrame (upstream 0))) (moving 0 Init.freePeer)) 0).position = 30 ∧
    (peerAt (next (.reportReceived (reportFrame (upstream 0))) (moving 1 Init.freePeer)) 0).position = 35 ∧
    (peerAt (next (.reportReceived (reportFrame (upstream 0))) (moving 0 { peer50 with position := 30 })) 0).state = .free := by
  decide +kernel

/-- Running in an assessment state beside station 30, and a frame of it with such a payload. -/
def beside (a : Assessment) : State :=
  { knowing (peer30 .active 0) with detector := { Init.detector with assessment := a, reference := some (flat 0 1 1) } }
def frameOf (p : Payload) : List Byte := putFrame ⟨upstream 0, p⟩
def alertContent : AlertContent := ⟨4, ⟨true, false, false⟩, ⟨Init.allPhases 700, Init.allPhases 4600, 40⟩⟩

theorem witness_DroppedFramesAreCountedOnce_order :
    ¬ Malformed (reportFrame (upstream 0)) ∧ Malformed (reportFrame { upstream 0 with stamp := 192 }) ∧
    Malformed (frameOf (.claim { claimContent with span := ⟨41, 41⟩ } false)) ∧
    crcMatches (reportFrame { upstream 0 with segment := 8, stamp := 192 }) = true ∧
    receiveFilter image (reportFrame { upstream 0 with segment := 8, stamp := 192 }) = .dropped .malformed ∧
    receiveFilter image (reportFrame { upstream 0 with segment := 8, sender := 41 }) = .dropped .foreignSegment := by
  refine ⟨?_, Or.inl (by decide +kernel), Or.inr (Or.inr (Or.inr (Or.inl (by decide +kernel)))), ?_, ?_, ?_⟩
  · rintro (h | h | h | h | h) <;> revert h <;> (try simp only [MeansOutOfRange]) <;> decide +kernel
  all_goals decide +kernel

theorem witness_AlertSetsTheSnapshotAndOpensForSympathy :
    (beside .calm).working = true ∧ (beside .blind).fault.silent = false ∧
    receiveFilter image (frameOf (.alert alertContent)) = .valid ⟨upstream 0, .alert alertContent⟩ ∧
    slotOf (beside .calm).peers.entries 30 = some 0 ∧ (peerAt (beside .calm) 0).position = 30 ∧
    (beside .calm).peers.adjacentUp = some 0 ∧ (beside .calm).detector.assessment = .calm ∧
    (beside .blind).detector.assessment = .blind ∧ (beside .disturbed).detector.assessment = .disturbed := by decide +kernel

theorem test_alert_opens :
    (next (.alertReceived (frameOf (.alert alertContent))) (beside .calm)).detector.snapshot = some (flat 0 1 1) ∧
    (next (.alertReceived (frameOf (.alert alertContent))) (beside .calm)).link.hold = 20 := by decide +kernel

theorem witness_SourceReportMovesTheTimeline :
    (beside .calm).run = .run ∧ (beside .calm).fault.silent = false ∧ (upstream 0).n = image.n ∧
    receiveFilter image (reportFrame (ahead 17)) = .valid ⟨ahead 17, .report reportPayload⟩ ∧
    (peerAt (beside .calm) 0).state = .active ∧ (peerAt (beside .calm) 0).mismatched = false ∧
    timingSource 41 (beside .calm).peers.entries = some 30 ∧ (beside .calm).timeline.source = some 30 ∧
    (beside .calm).timeline.slewGuard = false ∧ (beside .calm).timeline.jumpPending = none ∧
    receiveFilter image (reportFrame { ahead 40 with epoch := 2 }) = .valid ⟨{ ahead 40 with epoch := 2 }, .report reportPayload⟩ ∧
    epochDiff 2 (deliveryLatch (beside .disturbed)).epoch = 2 := by decide +kernel

theorem test_timeline :
    (next (.reportReceived (reportFrame (ahead 17))) (beside .calm)).tracker.slew = .shorten ∧
    (next (.reportReceived (reportFrame (ahead 16))) (beside .calm)).tracker.slew = .noSlew ∧
    (next (.reportReceived (reportFrame { ahead 40 with epoch := 2 })) (beside .calm)).tracker.jump = some ⟨2, 1⟩ ∧
    (next (.reportReceived (reportFrame { ahead 40 with epoch := 2 })) (beside .disturbed)).tracker.jump = none := by decide +kernel

theorem witness_FirstUpstreamReportJoins :
    listening.working = true ∧ listening.run = .listen ∧ listening.timeline.join = .opened ∧
    receiveFilter image (reportFrame (upstream 0)) = .valid ⟨upstream 0, .report reportPayload⟩ ∧
    (upstream 0).n = image.n ∧ (upstream 0).position < image.position := by decide +kernel



/-! ## Witnesses: Continuity Assessor and Claim Register -/

theorem witness_CellsMoveByTheTable :
    Init.clearCell.state = .clear ∧ (Cell.move 2 .isTrue Init.clearCell).state = .watch ∧
    (Cell.move 2 .isTrue (Cell.move 2 .isTrue Init.clearCell)).state = .held ∧
    (Cell.move 2 .isFalse (Cell.move 2 .isTrue (Cell.move 2 .isTrue Init.clearCell))).state = .fading := by decide +kernel

/-- The boundary that closes the window in epoch 0, the ring holding the record of the epoch before, with so much residual, and an
adjacent upstream peer whose record of it has another; its cells at one watch. -/
def closing (own peer : Nat) : State :=
  { cycles 2 none with
    port := tableless.port
    engine := { Init.engine with ring := [{ flat 0xFFFF 100 4600 with means := ⟨Init.allPhases 100, Init.allPhases 4600, own⟩ }] }
    peers := (knowing { peer30 .active 0 with
      ring := [⟨0xFFFF, ⟨Init.allPhases 100, Init.allPhases 4600, peer⟩, 1600, 6, .one, .locked, false, false, false⟩] }).peers
    detector := { Init.detector with assessment := .disturbed }
    assessor := { Init.assessor with groundUp := { Init.clearCell with state := .watch, condition := 1 } } }

theorem witness_CellsMoveByTheTable_close :
    (closing 0 700).working = true ∧ (closing 0 700).tracker.jump = none ∧
    (closing 0 700).tracker.cycleCount + 1 < (closing 0 700).tracker.epochLength ∧ (closing 0 700).link.windowOpen = true ∧
    (closing 0 700).tracker.cycleIndex + 1 = (closing 0 700).port.image.w ∧ image.w < image.n ∧
    (validRecord (closing 0 700).engine.ring ((closing 0 700).tracker.epoch - 1)).isSome = true ∧
    (closing 0 700).port.image.entries = [] ∧ (closing 0 700).register.records = [] ∧
    (closing 0 700).peers.adjacentUp = evaluateSide 41 .up (closing 0 700).peers.entries ∧
    (closing 0 700).peers.adjacentDown = evaluateSide 41 .down (closing 0 700).peers.entries ∧
    image.vdead < image.vlive := by decide +kernel

theorem witness_CellsMoveByTheTable_raise :
    Wanted (next .cycleBoundary (closing 0 700)).assessor .ground .d (some ⟨false, false, false⟩) ∧
    Wanted (next .cycleBoundary (closing 0 700)).assessor .ground .u none ∧
    (next .cycleBoundary (closing 0 700)).register.records.map ClaimRecord.span = [⟨30, 41⟩] ∧
    (next .cycleBoundary (closing 700 700)).register.records = [] := by
  simp only [Wanted, Wanted.ground, Stands]
  decide +kernel

/-- A claim record with its ages at one number, in a part that can trip nothing. -/
def claimRecord (own : Bool) (status : ClaimStatus) (age : Nat) : ClaimRecord :=
  ⟨⟨if own then 41 else 30, .openConductor, .u⟩, if own then 41 else 30, if own then ⟨41, 50⟩ else ⟨30, 41⟩,
    ⟨true, false, false⟩, status, own, 0, 0, age, age, age, false, false⟩
def holding (r : ClaimRecord) : State := { tableless with register := ⟨[r], []⟩ }

theorem register_of_holding : RegisterOk (holding (claimRecord false .standing 3)) ∧
    RegisterOk (holding (claimRecord true .standing 8)) ∧ RegisterOk tableless := by
  unfold RegisterOk
  decide +kernel

/-- The claim of station 30 on the span down to 41. -/
def heardContent (mask : PerPhase Bool) : ClaimContent := ⟨⟨30, 41⟩, .openConductor, mask, .u⟩

theorem witness_HeardClaimsActByStatus :
    tableless.working = true ∧ NoTripTable tableless ∧ tableless.fault.silent = false ∧
    receiveFilter tableless.port.image (frameOf (.claim (heardContent ⟨true, false, false⟩) true)) =
      .valid ⟨upstream 0, .claim (heardContent ⟨true, false, false⟩) true⟩ ∧
    receiveFilter tableless.port.image (frameOf (.release (heardContent ⟨true, false, false⟩) false)) =
      .valid ⟨upstream 0, .release (heardContent ⟨true, false, false⟩) false⟩ ∧
    findRecord tableless.register.records ⟨30, .openConductor, .u⟩ = none ∧
    findRecord (holding (claimRecord false .standing 3)).register.records ⟨30, .openConductor, .u⟩ =
      some (claimRecord false .standing 3) ∧
    (heardContent ⟨true, false, false⟩).span.up = (upstream 0).position := by
  unfold NoTripTable
  decide +kernel

theorem test_heard_claims :
    (next (.claimReceived (frameOf (.claim (heardContent ⟨true, false, false⟩) false))) tableless).detector.assessment = .disturbed ∧
    (next (.claimReceived (frameOf (.claim (heardContent ⟨true, true, false⟩) false)))
      (holding (claimRecord false .standing 3))).register.records.map ClaimRecord.standingAge = [0] ∧
    (next (.claimReceived (frameOf (.claim (heardContent ⟨true, false, false⟩) false)))
      (holding (claimRecord false .covered 3))).register.records = [claimRecord false .covered 3] ∧
    (next (.releaseReceived (frameOf (.release (heardContent ⟨true, false, false⟩) false)))
      (holding (claimRecord false .standing 3))).register.records.map ClaimRecord.status = [.released] := by decide +kernel

/-- Eight heard records, the first of such a status, the others COVERED, in a part that can trip nothing. -/
def full (first : ClaimStatus) : State :=
  { tableless with register := ⟨(List.range 8).map (fun k => { claimRecord false (if k = 0 then first else .covered) 3 with
      key := ⟨50 + k, .openConductor, .u⟩ }), []⟩ }

theorem witness_HeardClaimsActByStatus_full :
    RegisterOk (full .standing) ∧ RegisterOk (full .covered) ∧
    findRecord (full .standing).register.records ⟨30, .openConductor, .u⟩ = none ∧
    ((full .standing).register.records.filter (fun r => !r.own)).length = 8 := by
  unfold RegisterOk
  decide +kernel

theorem witness_HeardClaimsActByStatus_released :
    GivesWay (full .released) { claimRecord false .released 3 with key := ⟨50, .openConductor, .u⟩ } := by
  refine Or.inl ?_
  unfold IsFirst
  decide +kernel

theorem witness_HeardClaimsActByStatus_standing :
    GivesWay (full .standing) { claimRecord false .standing 3 with key := ⟨50, .openConductor, .u⟩ } := by
  refine Or.inr ⟨by decide +kernel, by decide +kernel, ⟨rfl, rfl, rfl, ?_, ?_⟩, ?_⟩
  · rintro ⟨x, hx, c, hc, _⟩
    have off : ∀ y ∈ (full .standing).linkage.entries, y.timer.candidate = none := by decide +kernel
    exact absurd ((off x hx).symm.trans hc) (by simp)
  · rintro ⟨q, hq, _⟩
    exact absurd hq List.not_mem_nil
  · intro x hx
    exact absurd (show x ∈ ([] : List ClaimRecord) from hx) List.not_mem_nil

/-- R145: with eight heard records held, the one that gives way leaves, or the new claim overflows. -/
theorem test_full_register :
    (next (.claimReceived (frameOf (.claim (heardContent ⟨true, false, false⟩) false))) (full .standing)).register.records.length = 8 ∧
    (next (.claimReceived (frameOf (.claim (heardContent ⟨true, false, false⟩) false))) (full .standing)).port.events.map Event.kind =
      [.claimExpired, .claimHeard, .disturbanceOpen] ∧
    (next (.claimReceived (frameOf (.claim (heardContent ⟨true, false, false⟩) false))) (full .covered)).port.events.map Event.kind =
      [.claimOverflow] := by decide +kernel

theorem witness_ClaimsAreRefreshedAndExpire :
    (holding (claimRecord true .standing 8)).working = true ∧ NoTripTable (holding (claimRecord true .standing 8)) ∧
    findRecord (holding (claimRecord true .standing 8)).register.records ⟨41, .openConductor, .u⟩ =
      some (claimRecord true .standing 8) ∧ (claimRecord true .standing 8).own = true ∧
    findRecord (holding (claimRecord false .standing 12)).register.records ⟨30, .openConductor, .u⟩ =
      some (claimRecord false .standing 12) ∧ (claimRecord false .standing 12).own = false ∧
    (holding (claimRecord false .standing 12)).register.pairs =
      pairsOf (holding (claimRecord false .standing 12)).register.records := by
  unfold NoTripTable
  decide +kernel

theorem test_claim_ages :
    (next (.claimRefresh .openConductor .u) (holding (claimRecord true .standing 8))).link.queue.length = 1 ∧
    (next (.claimRefresh .openConductor .u) (holding (claimRecord true .standing 7))).link.queue = [] ∧
    (next (.claimExpired ⟨30, .openConductor, .u⟩) (holding (claimRecord false .standing 12))).register.records = [] ∧
    (next (.claimExpired ⟨30, .openConductor, .u⟩) (holding (claimRecord false .standing 11))).register.records.length = 1 := by
  decide +kernel

/-- A part whose OPEN DOWN cells stand on phase 1 where `held`, beside station 50, holding such records. -/
def mirroring (held : Bool) (rs : List ClaimRecord) : State :=
  { tableless with
    peers := { running.peers with entries := running.peers.entries.set 0 peer50, adjacentDown := some 0 }
    assessor := { Init.assessor with
      openDown := { Init.assessor.openDown with p1 := if held then { Init.clearCell with state := .held } else Init.clearCell } }
    detector := { Init.detector with assessment := .disturbed, settle := 8 }
    register := ⟨rs, []⟩ }

theorem witness_ClaimsAreRefreshedAndExpire_mirror :
    NoTripTable (mirroring true []) ∧ RegisterOk (mirroring true []) ∧
    Wanted (mirroring true []).assessor .openConductor .u (some ⟨true, false, false⟩) ∧
    Wanted (mirroring false []).assessor .openConductor .u none ∧
    (mirroring true []).peers.adjacent .down = some 0 ∧
    RegisterOk (mirroring true [claimRecord true .released 1]) ∧ RegisterOk (mirroring false [claimRecord true .standing 1]) ∧
    findRecord (mirroring false [claimRecord true .standing 1]).register.records ⟨41, .openConductor, .u⟩ =
      some (claimRecord true .standing 1) ∧
    (mirroring false [claimRecord true .standing 1]).detector.assessment = .disturbed ∧
    image.settleCount ≤ (mirroring false [claimRecord true .standing 1]).detector.settle := by
  refine ⟨?_, ?_, ⟨⟨.one, rfl⟩, fun φ => ?_⟩, fun φ => ?_, ?_, ?_, ?_, ?_, ?_, ?_⟩
  · simp only [NoTripTable]; decide +kernel
  · simp only [RegisterOk]; decide +kernel
  · cases φ <;> simp only [Stands] <;> decide +kernel
  · cases φ <;> simp only [Stands] <;> decide +kernel
  all_goals ((try simp only [RegisterOk]); decide +kernel)

theorem test_mirror :
    (handOff 5 .openConductor .u (mirroring true [])).register.records.map ClaimRecord.raiseEpoch = [5] ∧
    (handOff 5 .openConductor .u (mirroring false [claimRecord true .standing 1])).detector.assessment = .calm ∧
    (handOff 5 .openConductor .u (mirroring true [{ claimRecord true .standing 1 with mask := ⟨true, true, false⟩ }])).register.records.map
      ClaimRecord.refreshEpoch = [5] ∧
    handOff 5 .openConductor .u (mirroring true [claimRecord true .covered 1]) = mirroring true [claimRecord true .covered 1] := by
  decide +kernel

/-! ## Witnesses: Trip Linkage and fault unit -/

/-- A TRIPPED frame's content with such a result. -/
def trippedContent (r : TripResult) : TrippedContent := ⟨r, .trip0, ⟨25, 60⟩, ⟨30, 41⟩⟩

theorem witness_TrippedFramesAct :
    tableless.working = true ∧ NoTripTable tableless ∧ tableless.fault.silent = false ∧ tableless.linkage.trips.length ≤ 8 ∧
    receiveFilter tableless.port.image (frameOf (.tripped (trippedContent .success))) =
      .valid ⟨upstream 0, .tripped (trippedContent .success)⟩ ∧
    receiveFilter tableless.port.image (frameOf (.tripped (trippedContent .failed))) =
      .valid ⟨upstream 0, .tripped (trippedContent .failed)⟩ ∧ (upstream 0).position < tableless.port.image.position := by
  unfold NoTripTable
  decide +kernel

/-- A part that heard such a TRIPPED before, its register holding a heard record in the TRIPPED's zone and an own one. -/
def tripHearing (own : ClaimStatus) (settle : Nat) (trips : List TripItem) : State :=
  { tableless with
    detector := { Init.detector with assessment := .disturbed, settle := settle }
    register := ⟨[claimRecord true own 1, claimRecord false .standing 1], []⟩
    linkage := { running.linkage with trips := trips } }

theorem witness_TrippedFramesAct_zone :
    (tripHearing .standing 3 []).working = true ∧ NoTripTable (tripHearing .standing 3 []) ∧
    (tripHearing .standing 3 []).detector.settle < image.settleCount ∧
    InZone (trippedContent .success).zone (claimRecord true .standing 1).span ∧
    InZone (trippedContent .success).zone (claimRecord false .standing 1).span ∧
    (tripHearing .standing 3 []).register.pairs = pairsOf (tripHearing .standing 3 []).register.records := by
  unfold NoTripTable
  decide +kernel

/-- R148, R149, R167: whichever block comes first, the zone is covered, an own RELEASED record goes at an entry to DEENERGIZED, a
FAILED covers nothing, and only a TRIPPED that matches no item is recorded. -/
theorem test_tripped_blocks : ∀ order < 6,
    (trippedBlocks order (upstream 0) (trippedContent .success) (tripHearing .released 3 [])).register.records.map
      ClaimRecord.status = [.covered] ∧
    (trippedBlocks order (upstream 0) (trippedContent .success) (tripHearing .standing 3 [])).register.records.map
      ClaimRecord.status = [.covered, .covered] ∧
    (trippedBlocks order (upstream 0) (trippedContent .failed) (tripHearing .standing 3 [])).register.records.map
      ClaimRecord.status = [.standing, .standing] ∧
    (trippedBlocks order (upstream 0) (trippedContent .failed) (tripHearing .standing 3 [])).port.events.map Event.kind =
      [.trippedHeard] ∧
    (trippedBlocks order (upstream 0) (trippedContent .failed)
      (tripHearing .standing 3 [⟨30, trippedContent .failed⟩])).port.events = [] := by decide +kernel

/-- The one entry in the roles and requirements the statements speak of, and an own record in its zone. -/
def entryOf (req : Requirement) (role : Role) : LinkageEntry :=
  ⟨⟨40, 60⟩, true, true, req, 1, false, true, false, role, 2, .same⟩
def armed (e : LinkageEntry) (pen : Bool) (r : EntryRuntime) : State :=
  { running with
    penPin := pen
    port := Init.port { image with entries := [e] }
    linkage := { running.linkage with pen := pen, entries := running.linkage.entries.set 0 r }
    register := ⟨[claimRecord true .standing 1], []⟩ }

/-- The candidate of that record. -/
def itsCandidate : Candidate := singleCandidate (claimRecord true .standing 1)

theorem witness_SatisfiedEntryActsByPen :
    (armed (entryOf .delayed .primary) false Init.entryRuntime).working = true ∧
    (armed (entryOf .delayed .primary) false Init.entryRuntime).linkage.entries[0]? = some Init.entryRuntime ∧
    Init.entryRuntime.spent = false ∧ running.linkage.trip0.state = .idle ∧ running.linkage.open0 = false ∧
    chosenCandidate (armed (entryOf .delayed .primary) false Init.entryRuntime) (entryOf .delayed .primary) =
      some itsCandidate ∧
    (armed (entryOf .delayed .primary) true Init.entryRuntime).linkage.pen = true ∧ running.fault.impaired = false ∧
    chosenCandidate (armed (entryOf .delayed .primary) true Init.entryRuntime) (entryOf .delayed .primary) =
      some itsCandidate ∧
    inScope (entryOf .delayed .primary) running.linkage.trips itsCandidate = true ∧
    (entryOf .delayed .primary).delay ≤ (claimRecord true .standing 1).standingAge := by decide +kernel

theorem test_entry_acts_by_pen :
    (next (.penChange true) (armed (entryOf .either .primary) false Init.entryRuntime)).linkage.trip0.driven = true ∧
    (next (.penChange false) (armed (entryOf .either .primary) true Init.entryRuntime)).linkage.trip0.driven = false ∧
    (next (.delayEnd 0) (armed (entryOf .delayed .primary) true Init.entryRuntime)).linkage.trip0.state = .asserted := by
  decide +kernel

/-- R156, R157: with a pair and two single records standing, BOTH and EITHER take the pair, whose span alone is in a narrow zone,
and a mask that the entry's map check does not find in the map leaves BOTH unsatisfied. -/
theorem test_chosen_candidate :
    (chosenCandidate agreed { entryOf .both .primary with zone := ⟨41, 50⟩ }).map Candidate.span = some ⟨41, 50⟩ ∧
    (chosenCandidate agreed { entryOf .either .primary with zone := ⟨30, 60⟩ }).map Candidate.partner =
      some (some downRecord.key) ∧
    chosenCandidate agreed { entryOf .both .primary with zone := ⟨41, 50⟩, mapCheck := true } = none ∧
    chosenCandidate { agreed with register := ⟨[upRecord], []⟩ } { entryOf .both .primary with zone := ⟨0, 60⟩ } = none := by
  decide +kernel

theorem witness_SatisfiedEntryActsByPen_candidates :
    (agreed.register.records.map ClaimRecord.key).Nodup ∧ (pairsOf agreed.register.records).length = 1 := by decide +kernel

/-- R157: a heard record that reaches its d, and its expiry, at one boundary satisfies the entry there before it leaves. -/
theorem test_delay_ends_at_the_expiry :
    let s := ageRegister (armed { entryOf .delayed .primary with zone := ⟨0, 4095⟩, delay := 12 } true Init.entryRuntime)
    let t := ageRegister { armed { entryOf .delayed .primary with zone := ⟨0, 4095⟩, delay := 12 } true Init.entryRuntime with
      register := ⟨[claimRecord false .standing 11], []⟩ }
    s.linkage.trip0.state = .idle ∧ t.linkage.trip0.state = .asserted ∧ t.register.records = [] := by decide +kernel

/-- TRIP0 asserted, its confirm timer at a number. -/
def tripping (timer : Nat) : State :=
  { running with linkage := { running.linkage with
      trip0 := ⟨.asserted, some 0, timer, some ⟨40, 60⟩, some ⟨41, 50⟩, true⟩ } }

theorem witness_AssertedTripEndsConfirmedOrFailed :
    (tripping 12).working = true ∧ (tripping 12).run = .run ∧ ((tripping 12).linkage.trip .trip0).state = .asserted ∧
    ((tripping 12).linkage.trip .trip0).zone = some ⟨40, 60⟩ ∧ ((tripping 12).linkage.trip .trip0).span = some ⟨41, 50⟩ ∧
    (tripping 12).linkage.opened .trip1 = false ∧
    (tripping 12).port.image.confirmTimeout = 12 ∧ ((tripping 11).linkage.trip .trip0).timer < 12 := by decide +kernel

/-- The tripping station of the usual case: DISTURBED with its settle counter full, its own claim in the trip's zone. -/
def trippingOwn (timer : Nat) : State :=
  { tripping timer with
    detector := { running.detector with assessment := .disturbed, settle := 8 }
    register := ⟨[claimRecord true .standing 3], []⟩
    port := tableless.port }

theorem witness_AssertedTripEndsConfirmedOrFailed_own :
    (trippingOwn 3).working = true ∧ (trippingOwn 3).port.image.settleCount ≤ (trippingOwn 3).detector.settle ∧
    (∃ r ∈ (trippingOwn 3).register.records, r.own = true ∧ r.status = .standing) ∧
    (∀ r ∈ (trippingOwn 3).register.records, r.own = true ∧ r.status = .standing → InZone ⟨40, 60⟩ r.span) ∧
    (trippingOwn 3).port.image.entries = [] ∧
    (trippingOwn 3).register.pairs = pairsOf (trippingOwn 3).register.records := by decide +kernel

/-- R47, R148, R168: the SUCCESS covers the own claim, the disturbance closes, and the confirmed record returns to IDLE. -/
theorem test_own_trip_closes :
    (next (.openConfirmChange .trip0 true) (trippingOwn 3)).detector.assessment = .calm ∧
    ((next (.openConfirmChange .trip0 true) (trippingOwn 3)).linkage.trip .trip0).state = .idle ∧
    ((next (.tripFailed .trip0) (trippingOwn 12)).linkage.trip .trip0).state = .failed ∧
    (next (.tripFailed .trip0) (trippingOwn 12)).detector.assessment = .disturbed := by decide +kernel

theorem test_trip_ends :
    ((next (.openConfirmChange .trip0 true) (tripping 3)).linkage.trip .trip0).state = .confirmed ∧
    ((next (.tripFailed .trip0) (tripping 12)).linkage.trip .trip0).state = .failed ∧
    ((next (.tripFailed .trip0) (tripping 11)).linkage.trip .trip0).state = .asserted := by decide +kernel

/-- A backup timer at a number, on the record's candidate. -/
def backing (n : Nat) (pen wouldTrip : Bool) : State :=
  armed (entryOf .either .backup) pen ⟨false, wouldTrip, .running n itsCandidate.forTimer⟩

theorem witness_BackupTimerExpiresAtItsCount :
    (backing 2 true false).working = true ∧ (backing 2 true false).run = .run ∧
    (backing 2 true false).linkage.entries[0]? = some ⟨false, false, .running 2 itsCandidate.forTimer⟩ ∧
    (entryOf .either .backup).backupEpochs = 2 ∧ (backing 2 true false).linkage.pen = true ∧
    (backing 2 false true).linkage.entries[0]? = some ⟨false, true, .running 2 itsCandidate.forTimer⟩ ∧
    (backing 2 false true).linkage.pen = false := by decide +kernel

theorem test_backup_trip :
    (next (.backupTrip 0) (backing 2 true false)).linkage.trip0.state = .asserted ∧
    (next (.backupTrip 0) (backing 1 true false)).linkage.trip0.state = .idle ∧
    (next (.backupTrip 0) (backing 2 false true)).linkage.trip0.state = .idle := by decide +kernel

theorem test_backup_without_pen :
    (next (.backupTrip 0) (backing 2 false false)).linkage.entries[0]? = some ⟨false, true, .expired itsCandidate.forTimer⟩ ∧
    (next (.backupTrip 0) (backing 2 false false)).linkage.trip0.state = .idle := by decide +kernel

/-- The entry of that record with its timer in some state, under such a level of PEN. -/
def timing (timer : BackupTimer) (pen : Bool) : State := armed (entryOf .either .backup) pen ⟨false, false, timer⟩

theorem witness_BackupTimerExpiresAtItsCount_evaluation :
    (timing .off false).working = true ∧ (timing .off false).run = .run ∧ (entryOf .either .backup).role = .backup ∧
    (timing .off false).linkage.entries[0]? = some ⟨false, false, .off⟩ ∧ (timing .off false).linkage.open0 = false ∧
    (timing .off false).linkage.open1 = false ∧ true ≠ (timing .off false).linkage.pen ∧
    chosenCandidate (timing .off false) (entryOf .either .backup) = some itsCandidate ∧
    chosenCandidate (timing .off false) (entryOf .both .backup) = none := by decide +kernel

/-- R161: an evaluation starts a timer, keeps its count on another candidate, and acts where it is EXPIRED. -/
theorem test_timer_evaluations :
    (next (.penChange true) (timing .off false)).linkage.entries[0]? = some ⟨false, false, .running 0 itsCandidate.forTimer⟩ ∧
    (next (.penChange true) (timing (.running 1 ⟨upRecord.key, none, ⟨41, 42⟩⟩) false)).linkage.entries[0]? =
      some ⟨false, false, .running 1 itsCandidate.forTimer⟩ ∧
    (next (.penChange true) (timing (.expired itsCandidate.forTimer) false)).linkage.trip0.state = .asserted ∧
    (next (.penChange true) { timing (.running 1 itsCandidate.forTimer) false with register := ⟨[], []⟩ }).linkage.entries[0]? =
      some ⟨false, false, .off⟩ := by decide +kernel

/-- A TRIPPED for a zone that holds the timer's candidate. -/
def overTimer (r : TripResult) : TrippedContent := ⟨r, .trip0, ⟨41, 50⟩, ⟨41, 50⟩⟩

theorem witness_BackupTimerExpiresAtItsCount_tripped :
    (timing (.running 1 itsCandidate.forTimer) true).fault.silent = false ∧
    (timing (.running 1 itsCandidate.forTimer) true).linkage.trips.length < 8 ∧
    receiveFilter image (frameOf (.tripped (overTimer .failed))) = .valid ⟨upstream 0, .tripped (overTimer .failed)⟩ ∧
    receiveFilter image (frameOf (.tripped (overTimer .success))) = .valid ⟨upstream 0, .tripped (overTimer .success)⟩ ∧
    InZone (overTimer .failed).zone itsCandidate.span ∧ ¬ InZone ⟨40, 49⟩ itsCandidate.span ∧
    (timing (.running 1 itsCandidate.forTimer) true).detector.assessment ≠ .disturbed ∧
    (candidates (timing (.running 1 itsCandidate.forTimer) true).register).find? (fun y =>
      y.key = itsCandidate.key && y.partner = none &&
        satisfies (timing (.running 1 itsCandidate.forTimer) true) (entryOf .either .backup) y) = some itsCandidate := by
  decide +kernel

/-- R162: FAILED expires a running timer at once and its entry acts; SUCCESS cancels it. -/
theorem test_timer_by_tripped :
    (linkageTripped 30 (overTimer .failed) (timing (.running 1 itsCandidate.forTimer) true)).linkage.trip0.state = .asserted ∧
    (timersByTripped (overTimer .success) (timing (.running 1 itsCandidate.forTimer) true)).linkage.entries[0]? =
      some ⟨false, false, .off⟩ := by decide +kernel

/-- The fault unit with such counts, and an ACTIVE peer. -/
def faulty (busy silence : Nat) (silent : Bool) : State :=
  { knowing (peer30 .active 0) with fault := { running.fault with
      busyEpochs := busy, silence := silence, livePeers := true, silent := silent, impaired := silent } }

theorem witness_JammedAndSilentImpairTheLink :
    (faulty 2 0 false).working = true ∧ (faulty 2 0 false).fault.jammed = false ∧ (faulty 2 0 false).fault.busyEpochs = 2 ∧
    (faulty 2 0 false).run = .run ∧ (faulty 2 0 false).link.sending = false ∧ (faulty 0 10 false).fault.silence = 10 ∧
    (faulty 0 10 false).fault.livePeers = true ∧ (faulty 0 10 false).fault.silent = false ∧
    (faulty 0 9 true).fault.silence ≠ 10 ∧ (faulty 0 9 true).fault.silent = true := by decide +kernel

theorem test_fault_unit :
    (next .jammedSet (faulty 1 0 false)).fault.jammed = false ∧ (next .jammedSet (faulty 2 0 false)).fault.impaired = true ∧
    (next .silentSet (faulty 0 9 false)).fault.silent = false ∧ (next .silentSet (faulty 0 9 true)).fault.silent = false := by
  decide +kernel

/-- The end of an epoch, its window closed, with such a busy line. -/
def jamming (busy unbroken jammed : Bool) (count : Nat) : State :=
  { lastCycle with
    busyPin := busy
    port := tableless.port
    fault := { running.fault with busyUnbroken := unbroken, busyEpochs := count, jammed := jammed, impaired := jammed } }

theorem witness_JammedAndSilentImpairTheLink_boundary :
    (jamming true true false 1).working = true ∧
    (jamming true true false 1).tracker.epochLength ≤ (jamming true true false 1).tracker.cycleCount + 1 ∧
    (jamming true true false 1).fault.busyEpochs ≤ 2 ∧ (jamming true true false 1).tracker.jump = none ∧
    (jamming true true false 1).link.windowOpen = false ∧ (jamming true true false 1).link.sending = false ∧
    (jamming true true false 1).port.image.entries = [] ∧ (jamming true true false 1).register.pairs = [] := by decide +kernel

/-- R171: two busy epochs set JAMMED, a break restarts the count, and an idle line at the boundary clears it. -/
theorem test_busy_epochs :
    (epochBusy (jamming true true false 1)).fault.jammed = true ∧
    (next .cycleBoundary (jamming true true false 0)).fault.busyEpochs = 1 ∧
    (next .cycleBoundary (jamming true false false 1)).fault.busyEpochs = 0 ∧
    (next .cycleBoundary (jamming false true true 2)).fault.impaired = false ∧
    (next .cycleBoundary (jamming true true true 2)).fault.jammed = true := by decide +kernel

/-- R176: JAMMED clearing and SILENT setting at one boundary race, and each order records its own. -/
def bothFaults : State :=
  { jamming false true true 2 with fault := { (jamming false true true 2).fault with silence := 9, livePeers := true } }

theorem test_two_faults_at_one_boundary :
    (jamChanging bothFaults && silentChanging bothFaults) = true ∧
    (epochBusy (epochSilence bothFaults)).port.events.map Event.kind = [.linkImpaired, .linkRestored] ∧
    (epochSilence (epochBusy bothFaults)).port.events.map Event.kind = [.linkRestored, .linkImpaired] := by decide +kernel

end Sys2Proof.Tests
end

/-! The frame `Within` (Laws/Within) for the operations that an evaluation does not reach: register, Detector, cells, peers and series,
in the order of their chapters. -/

namespace Sys2Proof.Machine

/-- Both branches keep. -/
theorem Within.ite {c : Prop} [Decidable c] {s t u : State} (ht : Within s t) (hu : Within s u) :
    Within s (if c then t else u) := by
  split
  · exact ht
  · exact hu

/-! ## Register and Detector (Chapters 3 and 8) -/

theorem keeps_judgeAgreement : Keeps judgeAgreement := fun s => by constructor <;> rfl

theorem keeps_placeRecord (r : ClaimRecord) : Keeps (placeRecord r) := fun s =>
  ((keeps_setRecords (fun s => appendRecord r s.register.records) s).trans (keeps_judgeAgreement _)).trans
    (keeps_rejudgePairs _)

theorem keeps_enterDisturbed (c : OpenCause) (x : EventSubject) (n : Option EpochRecord) : Keeps (enterDisturbed c x n) :=
  fun s => by constructor <;> rfl

theorem keeps_requestDisturbance (c : OpenCause) (x : EventSubject) : Keeps (requestDisturbance c x) := by
  intro s
  unfold requestDisturbance
  split
  · exact keeps_enterDisturbed _ _ _ s
  · exact keeps_enterDisturbed _ _ _ s
  · exact Within.refl s
  · exact Within.refl s

theorem keeps_openOwn (m : CauseMask) (r : EpochRecord) : Keeps (openOwn m r) := by
  intro s
  dsimp only [openOwn]
  split
  · exact (keeps_enterDisturbed _ _ _ s).trans (by constructor <;> rfl)
  · exact keeps_enterDisturbed _ _ _ s

theorem keeps_handBlind (e : EpochRecord) : Keeps (handBlind e) := fun s =>
  have counted := keeps_setDetector (fun s => { s.detector with
    blindRun := if e.invalid then 0 else raise Config.blindExitRun s.detector.blindRun }) s
  .ite (counted.trans (keeps_leaveBlind _)) counted

theorem keeps_handCalm (e : EpochRecord) : Keeps (handCalm e) := by
  intro s
  unfold handCalm
  split
  · dsimp only
    split
    · exact keeps_openOwn _ _ s
    · exact Within.refl s
  · exact Within.refl s

theorem keeps_moveForced : Keeps moveForced := fun s =>
  have counted := keeps_setDetector (fun s => { s.detector with
    forced := if s.register.records.isEmpty then raise Config.forcedCloseRun s.detector.forced else 0 }) s
  .ite (counted.trans (keeps_forceClose _)) counted

theorem keeps_handDisturbed (e : EpochRecord) : Keeps (handDisturbed e) := fun s =>
  have tested := (keeps_setDetector (fun s => { s.detector with
    settle := if quiet s.port.image s.engine.ring e then raise s.port.image.settleCount s.detector.settle else 0 }) s).trans
      (keeps_testClose _)
  .ite (tested.trans (keeps_moveForced _)) tested

theorem keeps_handDeenergized (e : EpochRecord) : Keeps (handDeenergized e) := fun s =>
  have counted := keeps_setDetector (fun s => { s.detector with
    restore := if restored s.port.image e then raise s.port.image.settleCount s.detector.restore else 0 }) s
  .ite (counted.trans (keeps_restoreLine _)) counted

/-- An own record handed to the Detector keeps everything `Within` names (R38 to R51). -/
theorem keeps_handRecord (e : EpochRecord) : Keeps (handRecord e) := by
  intro s
  have take : Within s (takeReference e s) := by constructor <;> rfl
  dsimp only [handRecord]
  split
  · exact take.trans (keeps_handBlind e _)
  · split
    · exact take
    · exact take.trans (keeps_handCalm e _)
  · exact take.trans (keeps_handDisturbed e _)
  · exact take.trans (keeps_handDeenergized e _)

theorem keeps_registerDeenergized : Keeps registerDeenergized := fun s =>
  (keeps_coverRecords _ s).trans (keeps_removeRecords _ _)

theorem keeps_enterDeenergized (n p : Nat) : Keeps (enterDeenergized n p) := by
  intro s
  unfold enterDeenergized
  split
  · exact keeps_setDetector (fun s => { s.detector with restore := 0 }) s
  · exact ((keeps_setDetector (fun s => { s.detector with
      assessment := .deenergized, blindRun := 0, settle := 0, forced := 0, restore := 0 }) s).trans
        (keeps_record _ _ _ _ _)).trans (keeps_registerDeenergized _)

theorem keeps_returnToBlind : Keeps returnToBlind := by
  intro s
  dsimp only [returnToBlind]
  split <;> constructor <;> rfl

theorem keeps_refreshSeries (e : EpochNum) (r : ClaimRecord) : Keeps (refreshSeries e r) := fun s => by constructor <;> rfl

theorem keeps_refreshAll (rs : List ClaimRecord) : Keeps (refreshAll rs) := by
  induction rs with
  | nil => exact Within.refl
  | cons r rs ih =>
    intro s
    refine Within.trans ?_ (ih _)
    split
    · exact keeps_refreshSeries _ _ s
    · exact Within.refl s

theorem keeps_refreshIfDue (key : ClaimKey) : Keeps (refreshIfDue key) := by
  intro s
  unfold refreshIfDue
  split
  · split
    · exact keeps_refreshSeries _ _ s
    · exact Within.refl s
  · exact Within.refl s

theorem keeps_expireClaim (key : ClaimKey) : Keeps (expireClaim key) := by
  intro s
  unfold expireClaim
  split
  · split
    · refine Within.trans ?_ (keeps_removeRecords _ _)
      split
      · exact keeps_record _ _ _ _ s
      · exact Within.refl s
    · exact Within.refl s
  · exact Within.refl s

theorem keeps_expireEach (keys : List ClaimKey) : Keeps (expireEach keys) := by
  induction keys with
  | nil => exact Within.refl
  | cons key keys ih => exact fun s => (keeps_reporting (keeps_expireClaim key) s).trans (ih _)

/-- The register's ageing keeps everything `Within` names (R140, R147). -/
theorem keeps_ageRegister : Keeps ageRegister := fun s =>
  ((keeps_reporting (keeps_setRecords (fun s => s.register.records.map ageRecord)) s).trans
    (keeps_reporting (fun s => keeps_refreshAll _ s) _)).trans (keeps_expireEach _ _)

theorem keeps_evictClaim (r : ClaimRecord) : Keeps (evictClaim r) := by
  intro s
  dsimp only [evictClaim]
  split
  · exact (keeps_removeRecords _ s).trans (keeps_record _ _ _ _ _)
  · exact keeps_removeRecords _ s

theorem keeps_enterHeard (h : Header) (c : ClaimContent) : Keeps (enterHeard h c) := fun s =>
  ((keeps_record _ _ _ _ s).trans (keeps_placeRecord _ _)).trans (keeps_requestDisturbance _ _ _)

theorem keeps_admitClaim (h : Header) (c : ClaimContent) : Keeps (admitClaim h c) := by
  intro s
  unfold admitClaim
  split
  · split
    · exact (keeps_evictClaim _ s).trans (keeps_enterHeard h c _)
    · exact keeps_record _ _ _ _ s
  · exact keeps_enterHeard h c s

theorem keeps_renewClaim (h : Header) (c : ClaimContent) (b : Bool) (r : ClaimRecord) : Keeps (renewClaim h c b r) := by
  intro s
  dsimp only [renewClaim]
  split
  · exact keeps_setRecords (fun s => modifyRecord r.key (fun _ => _) s.register.records) s
  · split
    · exact ((keeps_setRecords (fun s => modifyRecord r.key (fun _ => _) s.register.records) s).trans
        (keeps_judgeAgreement _)).trans (keeps_rejudgePairs _)
    · exact keeps_placeRecord _ s

theorem keeps_returnClaim (h : Header) (c : ClaimContent) : Keeps (returnClaim h c) := fun s =>
  (keeps_record _ _ _ _ s).trans (keeps_placeRecord _ _)

theorem keeps_takeClaim (h : Header) (c : ClaimContent) (b : Bool) : Keeps (takeClaim h c b) := by
  intro s
  unfold takeClaim
  split
  · split
    · exact keeps_admitClaim h c s
    · split
      · exact keeps_renewClaim h c b _ s
      · exact keeps_returnClaim h c s
      · exact Within.refl s
  · exact Within.refl s

theorem keeps_takeRelease (h : Header) (c : ClaimContent) : Keeps (takeRelease h c) := by
  intro s
  unfold takeRelease
  split
  · split
    · split
      · exact ((keeps_setRecords (fun s => modifyRecord _ _ s.register.records) s).trans (keeps_record _ _ _ _ _)).trans
          (keeps_rejudgePairs _)
      · exact Within.refl s
    · exact Within.refl s
  · exact Within.refl s

/-! ## Own records and the assessment (Chapter 7) -/

theorem keeps_raiseOwn (e : EpochNum) (c : ClaimContent) : Keeps (raiseOwn e c) := by
  intro s
  dsimp only [raiseOwn]
  have raised := fun r => ((keeps_placeRecord r s).trans
    (keeps_record .claimRaised (.claim r.key) (some r.span) (.mask c.mask) _)).trans (keeps_offerSeries (.claim c false) _)
  split
  · exact (raised _).trans (keeps_requestDisturbance _ _ _)
  · exact raised _

theorem keeps_changeMask (e : EpochNum) (key : ClaimKey) (m : PerPhase Bool) : Keeps (changeMask e key m) := by
  intro s
  unfold changeMask
  split
  · exact (((keeps_setRecords (fun s => modifyRecord _ _ s.register.records) s).trans (keeps_refreshSeries _ _ _)).trans
      (keeps_judgeAgreement _)).trans (keeps_rejudgePairs _)
  · exact Within.refl s

theorem keeps_releaseOwn (key : ClaimKey) : Keeps (releaseOwn key) := by
  intro s
  unfold releaseOwn
  split
  · exact (((((keeps_setRecords (fun s => modifyRecord _ _ s.register.records) s).trans (keeps_offerSeries _ _)).trans
      (keeps_record _ _ _ _ _)).trans (keeps_rejudgePairs _)).trans (keeps_unpin _ _)).trans (keeps_testCloseOnChange _)
  · exact Within.refl s

theorem keeps_raiseClaim (e : EpochNum) (k : ClaimKind) (f : SpanEnd) (m : PerPhase Bool) : Keeps (raiseClaim e k f m) := by
  intro s
  unfold raiseClaim
  split
  · exact (by constructor <;> rfl : Within s (pin _ s)).trans (keeps_reporting (keeps_raiseOwn _ _) _)
  · exact Within.refl s

theorem keeps_handOff (e : EpochNum) (k : ClaimKind) (f : SpanEnd) : Keeps (handOff e k f) := by
  intro s
  dsimp only [handOff]
  split
  · exact keeps_raiseClaim _ _ _ _ s
  · split
    · exact keeps_raiseClaim _ _ _ _ s
    · split
      · exact Within.refl s
      · exact keeps_reporting (keeps_changeMask _ _ _) s
    · exact Within.refl s
  · split
    · exact keeps_reporting (keeps_releaseOwn _) s
    · exact Within.refl s
  · exact Within.refl s

theorem keeps_mirrorClaims (e : EpochNum) : Keeps (mirrorClaims e) := fun s =>
  (((keeps_handOff e _ _ s).trans (keeps_handOff e _ _ _)).trans (keeps_handOff e _ _ _)).trans (keeps_handOff e _ _ _)

theorem keeps_recordLocated (n : Nat) (a b : Option Span) : Keeps (recordLocated n a b) := by
  intro s
  unfold recordLocated
  split
  · exact keeps_record _ _ _ _ s
  · exact Within.refl s

theorem keeps_setAssessor (f : State → Assessor) : Keeps (fun s => s.setAssessor (f s)) := fun s => by constructor <;> rfl

theorem keeps_takeMap (r : EpochRecord) : Keeps (takeMap r) := fun s =>
  (((((by constructor <;> rfl : Within s (s.setAssessor _)).trans (keeps_recordLocated _ _ _ _)).trans
    (keeps_recordLocated _ _ _ _)).trans (keeps_recordLocated _ _ _ _)).trans (keeps_recordLocated _ _ _ _)).trans
    (keeps_reporting keeps_judgeAgreement _)

theorem keeps_moveCells (o : EpochRecord) : Keeps (moveCells o) := fun s => by constructor <;> rfl

/-- An assessment keeps everything `Within` names (R116). -/
theorem keeps_assess (x : EpochNum) : Keeps (assess x) := by
  intro s
  unfold assess
  split
  · exact (((keeps_takeMap _ s).trans (keeps_moveCells _ _)).trans (keeps_mirrorClaims _ _)).trans (keeps_evaluateTrips _)
  · exact keeps_evaluateTrips s

/-! ## Peers (Chapter 6) -/

theorem keeps_modifyPeer (k : Nat) (f : PeerEntry → PeerEntry) : Keeps (modifyPeer k f) := fun s => by constructor <;> rfl

theorem keeps_setAdjacent (x : Side) (k : Option Nat) : Keeps (setAdjacent x k) := by
  intro s
  unfold setAdjacent
  split
  · exact Within.refl s
  · constructor <;> rfl

theorem keeps_evaluateAdjacency : Keeps evaluateAdjacency := fun s => (keeps_setAdjacent _ _ s).trans (keeps_setAdjacent _ _ _)

theorem keeps_dropAdjacent (k : Nat) : Keeps (dropAdjacent k) := fun s =>
  have up : Within s (if s.peers.adjacentUp = some k then setAdjacent .up none s else s) :=
    .ite (keeps_setAdjacent _ _ s) (Within.refl s)
  .ite (up.trans (keeps_setAdjacent _ _ _)) up

theorem keeps_freeSlot (k : Nat) : Keeps (freeSlot k) := fun s => (keeps_modifyPeer _ _ s).trans (keeps_dropAdjacent _ _)

theorem keeps_evict (k : Nat) : Keeps (evict k) := by
  intro s
  dsimp only [evict]
  split
  · exact Within.refl s
  · split
    · exact keeps_dropAdjacent _ s
    · exact (keeps_dropAdjacent _ s).trans (keeps_record _ _ _ _ _)

theorem keeps_setConflicts (f : State → List Nat) : Keeps (fun s => setConflicts s (f s)) := fun s => by constructor <;> rfl

theorem keeps_judgeMismatch (k : Nat) (h : Header) : Keeps (judgeMismatch k h) := by
  intro s
  dsimp only [judgeMismatch]
  split
  · exact (keeps_modifyPeer _ _ s).trans (keeps_record _ _ _ _ _)
  · exact keeps_modifyPeer _ _ s

theorem keeps_reportActs (k : Nat) (h : Header) (p : ReportPayload) : Keeps (reportActs k h p) := by
  intro s
  dsimp only [reportActs]
  split
  · exact (keeps_modifyPeer _ _ s).trans (keeps_record _ _ _ _ _)
  · exact keeps_modifyPeer _ _ s

theorem keeps_setMark (id : Nat) (b : Bool) : Keeps (setMark id b) := by
  intro s
  unfold setMark
  split
  · exact keeps_modifyPeer _ _ s
  · exact Within.refl s

theorem keeps_loseSlot (k : Nat) : Keeps (loseSlot k) := fun s => (keeps_modifyPeer _ _ s).trans (keeps_record _ _ _ _ _)

theorem keeps_moveSlot (k : Nat) : Keeps (moveSlot k) := by
  intro s
  dsimp only [moveSlot]
  split
  · exact keeps_modifyPeer _ _ s
  · split
    · exact keeps_loseSlot k s
    · split
      · exact keeps_freeSlot k s
      · exact Within.refl s

/-! ## Trip Linkage, series and the tracker's events (Chapters 1, 4 and 9) -/

theorem keeps_linkageTripped (n : Nat) (c : TrippedContent) : Keeps (linkageTripped n c) := by
  intro s
  have taken := keeps_takeIntoTripList n c s
  have heard : Within s (if tripKnown s.linkage.trips n c then takeIntoTripList n c s
      else record (takeIntoTripList n c s) .trippedHeard (.station n) (some c.span) (.trip c.result c.output)) :=
    .ite taken (taken.trans (keeps_record _ _ _ _ _))
  dsimp only [linkageTripped]
  generalize (if tripKnown s.linkage.trips n c then takeIntoTripList n c s
      else record (takeIntoTripList n c s) .trippedHeard (.station n) (some c.span) (.trip c.result c.output)) = t at heard
  exact .ite ((heard.trans (keeps_timersByTripped c t)).trans (keeps_evaluateTrips _)) heard

theorem keeps_raiseConfirms : Keeps raiseConfirms := fun s => by constructor <;> rfl

theorem keeps_raiseTimers : Keeps raiseTimers := by
  intro s
  unfold raiseTimers
  split
  · constructor <;> rfl
  · exact Within.refl s

theorem keeps_expireBackups (es : List LinkageEntry) (k : Nat) : Keeps (expireBackups k es) := by
  induction es generalizing k with
  | nil => exact Within.refl
  | cons e es ih => exact fun s => (keeps_expireBackup k e s).trans (ih _ _)

/-- The Linkage's timers at a boundary keep everything `Within` names (R161, R163, R165). -/
theorem keeps_linkageTimers (kind : BoundaryKind) : Keeps (linkageTimers kind) := fun s =>
  have raised := keeps_raiseConfirms s
  have timers : Within s (if kind.begins then
      expireBackups 0 (raiseConfirms s).port.image.entries (raiseTimers (raiseConfirms s))
        else raiseConfirms s) :=
    .ite ((raised.trans (keeps_raiseTimers _)).trans (keeps_expireBackups _ _ _)) raised
  (timers.trans (keeps_failIfDue .trip0 _)).trans (keeps_failIfDue .trip1 _)

theorem keeps_releaseClosed (k : ClaimKind) (f : SpanEnd) : Keeps (releaseClosed k f) := fun s =>
  (keeps_removeRecords _ s).trans (keeps_testCloseOnChange _)

theorem keeps_tellOwner (x : QueueSubject) : Keeps (tellOwner x) := by
  intro s
  unfold tellOwner
  split
  · exact keeps_reporting (keeps_releaseClosed _ _) s
  · exact Within.refl s

/-- A completed frame's series, advanced or closed, keeps everything `Within` names (R72). -/
theorem keeps_completeSeries (x : QueueSubject) : Keeps (completeSeries x) := by
  intro s
  unfold completeSeries
  split
  · split
    · exact Within.refl s
    · split
      · exact (keeps_setQueue (fun s => queueRemove x s.link.queue) s).trans (keeps_tellOwner x _)
      · exact keeps_setQueue (fun s => queueModify x advanceSeries s.link.queue) s
  · exact Within.refl s

theorem keeps_recordTracker (es : List TrackerEvent) : Keeps (recordTracker es) := by
  induction es with
  | nil => exact Within.refl
  | cons e es ih => exact fun s => (keeps_record _ _ _ _ s).trans (ih _)

end Sys2Proof.Machine

/-! The frame `CoreKept`: what every block operation outside the Cycle Tracker, the sample port and the station port leaves as it
stands. It is `Within` with engine, fault unit, timeline, link, run state and free choices given up. -/

namespace Sys2Proof.Machine

/-- `t` keeps the tracker, the sample port, the timebase, the input levels, the waiting commands, and of the station port all but the
Event Queue with its line. -/
structure CoreKept (s t : State) : Prop where
  resetHeld : t.resetHeld = s.resetHeld
  timebase : t.timebase = s.timebase
  penPin : t.penPin = s.penPin
  openPin0 : t.openPin0 = s.openPin0
  openPin1 : t.openPin1 = s.openPin1
  busyPin : t.busyPin = s.busyPin
  tracker : t.tracker = s.tracker
  sampling : t.sampling = s.sampling
  pending : t.pending = s.pending
  port : t.port = { s.port with
    events := t.port.events, eventSequence := t.port.eventSequence, attention := t.port.attention }

namespace CoreKept

theorem refl (s : State) : CoreKept s s := by constructor <;> rfl

theorem trans {s t u : State} (h : CoreKept s t) (k : CoreKept t u) : CoreKept s u where
  resetHeld := k.resetHeld.trans h.resetHeld
  timebase := k.timebase.trans h.timebase
  penPin := k.penPin.trans h.penPin
  openPin0 := k.openPin0.trans h.openPin0
  openPin1 := k.openPin1.trans h.openPin1
  busyPin := k.busyPin.trans h.busyPin
  tracker := k.tracker.trans h.tracker
  sampling := k.sampling.trans h.sampling
  pending := k.pending.trans h.pending
  port := by rw [k.port, h.port]

theorem ite {c : Prop} [Decidable c] {s t u : State} (ht : CoreKept s t) (hu : CoreKept s u) :
    CoreKept s (if c then t else u) := by
  split
  · exact ht
  · exact hu

/-- A change of the link alone keeps the core. -/
theorem of_link {s t : State} (h : t = { s with link := t.link }) : CoreKept s t := by
  rw [h]
  constructor <;> rfl

theorem image {s t : State} (h : CoreKept s t) : t.port.image = s.port.image := by rw [h.port]

end CoreKept

theorem Within.coreKept {s t : State} (h : Within s t) : CoreKept s t where
  resetHeld := h.resetHeld
  timebase := h.timebase
  penPin := h.penPin
  openPin0 := h.openPin0
  openPin1 := h.openPin1
  busyPin := h.busyPin
  tracker := h.tracker
  sampling := h.sampling
  pending := h.pending
  port := h.port

/-- A function whose result always keeps its argument's core. -/
def KeepsCore (f : State → State) : Prop := ∀ s, CoreKept s (f s)

theorem Keeps.core {f : State → State} (h : Keeps f) : KeepsCore f := fun s => (h s).coreKept

theorem KeepsCore.reporting {f : State → State} (h : KeepsCore f) : KeepsCore (reporting f) := fun s =>
  .ite (h s) ((h s).trans (keeps_evaluateTrips.core _))

theorem keepsCore_setFault (f : State → FaultUnit) : KeepsCore (fun s => s.setFault (f s)) := fun s => by constructor <;> rfl

theorem keepsCore_setTimeline (f : State → Timeline) : KeepsCore (fun s => s.setTimeline (f s)) :=
  fun s => by constructor <;> rfl

theorem keepsCore_setLink (f : State → Link) : KeepsCore (fun s => s.setLink (f s)) := fun s => by constructor <;> rfl

theorem keepsCore_setEngine (f : State → Engine) : KeepsCore (fun s => s.setEngine (f s)) := fun s => by constructor <;> rfl

theorem keepsCore_record (k : EventKind) (x : EventSubject) (y : Option Span) (d : Detail) :
    KeepsCore (fun s => record s k x y d) := (keeps_record k x y d).core

/-! ## Fault unit and Peer Table (Chapters 6 and 10) -/

theorem keepsCore_judgeImpaired : KeepsCore judgeImpaired := fun s =>
  .ite (.refl s) ((keepsCore_setFault (fun s => { s.fault with impaired := _ }) s).trans (keeps_evaluateTrips.core _))

theorem keepsCore_judgeSilent : KeepsCore judgeSilent := fun s =>
  .ite (.refl s) (.ite
    (((keepsCore_setFault (fun s => { s.fault with silent := true }) s).trans (keepsCore_record _ _ _ _ _)).trans
      (keepsCore_judgeImpaired _))
    (((keepsCore_setFault (fun s => { s.fault with silent := false }) s).trans (keepsCore_record _ _ _ _ _)).trans
      (keepsCore_judgeImpaired _)))

theorem keepsCore_frameHeard : KeepsCore frameHeard := fun s =>
  (keepsCore_setFault (fun s => { s.fault with silence := 0 }) s).trans (keepsCore_judgeSilent _)

theorem keepsCore_missReport (p : QueueEntry → Bool) : KeepsCore (missReport p) := fun s => .of_link (missReport_eq p s)

theorem keepsCore_setJammed : KeepsCore setJammed := fun s =>
  (((keepsCore_setFault (fun s => { s.fault with jammed := true }) s).trans (keepsCore_missReport _ _)).trans
    (keepsCore_record _ _ _ _ _)).trans (keepsCore_judgeImpaired _)

theorem keepsCore_clearJammed : KeepsCore clearJammed := fun s =>
  ((keepsCore_setFault (fun s => { s.fault with jammed := false, busyEpochs := 0, busyUnbroken := false }) s).trans
    (keepsCore_record _ _ _ _ _)).trans (keepsCore_judgeImpaired _)

theorem keepsCore_epochBusy : KeepsCore epochBusy := fun s =>
  have counted := keepsCore_setFault (fun s => { s.fault with
    busyEpochs := if s.fault.busyUnbroken then raise Config.jamEpochs s.fault.busyEpochs else 0
    busyUnbroken := s.busyPin }) s
  .ite (.ite (.refl s) (keepsCore_clearJammed s)) (.ite (counted.trans (keepsCore_setJammed _)) counted)

theorem keepsCore_epochSilence : KeepsCore epochSilence := fun s =>
  (keepsCore_setFault (fun s => { s.fault with silence := _ }) s).trans (keepsCore_judgeSilent _)

theorem keepsCore_judgeSource : KeepsCore judgeSource := fun s => .ite (.refl s) (by constructor <;> rfl)

theorem keepsCore_tableChanged : KeepsCore tableChanged := fun s =>
  ((keepsCore_judgeSource s).trans (keepsCore_setFault (fun t => { t.fault with livePeers := _ }) _)).trans
    (keepsCore_judgeSilent _)

theorem admitPeer_coreKept (id p : Nat) (s : State) : CoreKept s (admitPeer id p s).1 := by
  unfold admitPeer
  split
  · split
    · exact .refl s
    · exact (keepsCore_record _ _ _ _ s).trans
        ((keeps_setConflicts (fun _ => conflictAdd id s.peers.conflicts)).core _)
  · split
    · exact by constructor <;> rfl
    · exact (((keeps_evict _).core s).trans ((keeps_modifyPeer _ _).core _)).trans
        (((keeps_setConflicts (fun t => t.peers.conflicts.filter (· ≠ id))).core _).trans (keepsCore_tableChanged _))

theorem moved_coreKept (k id p : Nat) (s : State) : CoreKept s (moved k id p s).1 := by
  dsimp only [moved]
  split
  · exact keepsCore_record _ _ _ _ s
  · split
    · exact (((keeps_freeSlot _).core s).trans (keepsCore_record _ _ _ _ _)).trans
        (((keeps_setConflicts (fun t => conflictAdd id t.peers.conflicts)).core _).trans (keepsCore_tableChanged _))
    · exact (((keeps_modifyPeer _ _).core s).trans ((keeps_dropAdjacent _).core _)).trans (keepsCore_tableChanged _)

theorem findEntry_coreKept (h : Header) (s : State) : CoreKept s (findEntry h s).1 := by
  have judged : ∀ t k, CoreKept s t → CoreKept s (judgeMismatch k h t) :=
    fun t k found => found.trans ((keeps_judgeMismatch k h).core t)
  unfold findEntry
  cases slotOf s.peers.entries h.sender with
  | none =>
    have found := admitPeer_coreKept h.sender h.position s
    generalize admitPeer h.sender h.position s = r at found ⊢
    obtain ⟨t, _ | k⟩ := r
    · exact found
    · exact judged t k found
  | some k =>
    by_cases hp : (peerAt s k).position = h.position
    · simp only [if_pos hp]
      exact judged s k (.refl s)
    · simp only [if_neg hp]
      have found := moved_coreKept k h.sender h.position s
      generalize moved k h.sender h.position s = r at found ⊢
      obtain ⟨t, _ | k⟩ := r
      · exact found
      · exact judged t k found

theorem keepsCore_tableReport (h : Header) (p : ReportPayload) : KeepsCore (tableReport h p) := by
  intro s
  have found := findEntry_coreKept h s
  unfold tableReport
  split
  · next heq => rw [heq] at found; exact (found.trans ((keeps_reportActs _ _ _).core _)).trans (keepsCore_tableChanged _)
  · next heq => rw [heq] at found; exact found.trans (keepsCore_tableChanged _)

theorem keepsCore_tableOther (h : Header) : KeepsCore (tableOther h) := by
  intro s
  have found := findEntry_coreKept h s
  unfold tableOther
  split
  · next heq => rw [heq] at found; exact (found.trans ((keeps_modifyPeer _ _).core _)).trans (keepsCore_tableChanged _)
  · next heq => rw [heq] at found; exact found.trans (keepsCore_tableChanged _)

theorem keepsCore_tableAlert (h : Header) (c : AlertContent) : KeepsCore (tableAlert h c) := by
  intro s
  have found := findEntry_coreKept h s
  unfold tableAlert
  split
  · next t k heq =>
    rw [heq] at found
    have acted : CoreKept s (tableChanged (modifyPeer k (fun e => { e with snapshot := some c }) (otherActs k h t))) :=
      ((found.trans ((keeps_modifyPeer _ _).core _)).trans ((keeps_modifyPeer _ _).core _)).trans (keepsCore_tableChanged _)
    exact .ite (acted.trans ((keeps_requestDisturbance _ _).core _)) acted
  · next heq => rw [heq] at found; exact found.trans (keepsCore_tableChanged _)

theorem keepsCore_agePeers : KeepsCore agePeers := fun s =>
  ((by constructor <;> rfl : CoreKept s (s.setEntries _)).trans
    ((keeps_foldl (fun s k => moveSlot k s) (fun k => keeps_moveSlot k) _).core _)).trans (keepsCore_tableChanged _)

theorem keepsCore_ageTables : KeepsCore ageTables := fun s => (keepsCore_agePeers s).trans (keeps_ageRegister.core _)

/-! ## Span link (Chapter 4) -/

theorem keepsCore_settle : KeepsCore settle := fun s => .of_link (settle_eq s)

theorem keepsCore_expireAlert : KeepsCore expireAlert := fun s => .ite (by constructor <;> rfl) (.refl s)

theorem keepsCore_abandonBackoff : KeepsCore abandonBackoff := fun s => .of_link (abandonBackoff_eq s)

theorem keepsCore_completeFrame : KeepsCore completeFrame := by
  intro s
  have ready : CoreKept s (readyAgain s) := by constructor <;> rfl
  unfold completeFrame
  split
  · exact ready.trans ((keeps_completeSeries _).core _)
  · exact ready

theorem keepsCore_countTimeout : KeepsCore countTimeout := fun s =>
  have counted := keepsCore_setFault (fun s => { s.fault with timeouts := raise Config.faultTimeouts s.fault.timeouts }) s
  .ite (((counted.trans (keepsCore_setFault (fun t => { t.fault with xcvrFault := true }) _)).trans
    (keepsCore_record _ _ _ _ _)).trans (keepsCore_judgeImpaired _)) counted

theorem keepsCore_clearTimeouts : KeepsCore clearTimeouts := fun s =>
  have cleared := keepsCore_setFault (fun s => { s.fault with timeouts := 0 }) s
  .ite (((cleared.trans (keepsCore_setFault (fun t => { t.fault with xcvrFault := false }) _)).trans
    (keepsCore_record _ _ _ _ _)).trans (keepsCore_judgeImpaired _)) cleared

theorem keepsCore_completeIfDue : KeepsCore completeIfDue := fun s =>
  .ite ((keepsCore_completeFrame s).trans (keepsCore_countTimeout _)) (.refl s)

theorem keepsCore_endReceptionIfDue : KeepsCore endReceptionIfDue := fun s => .ite (by constructor <;> rfl) (.refl s)

/-- The end of a backoff changes the link alone. -/
theorem endBackoffIfDue_eq (s : State) : endBackoffIfDue s = { s with link := (endBackoffIfDue s).link } := by
  unfold endBackoffIfDue endBackoff
  split
  · split
    · split <;> rfl
    · rfl
  · rfl

/-- The counts of a strobe keep the core (R56, R59, R78). -/
theorem keepsCore_strobeTimers : KeepsCore strobeTimers := fun s =>
  (((keepsCore_setLink (fun s => countStrobe s.link) s).trans (keepsCore_completeIfDue _)).trans
    (keepsCore_endReceptionIfDue _)).trans (.of_link (endBackoffIfDue_eq _))

/-! ## The boundary (Chapters 1 to 5) -/

theorem keepsCore_enterRun : KeepsCore enterRun := fun s =>
  (by constructor <;> rfl : CoreKept s { s with run := .run, timeline := _ }).trans (keeps_evaluateTrips.core _)

theorem keepsCore_countListen : KeepsCore countListen := fun s =>
  have counted := keepsCore_setTimeline (fun s => { s.timeline with
    listenCount := raise Config.listenEpochs s.timeline.listenCount }) s
  .ite (.ite (counted.trans (keepsCore_enterRun _)) counted) (.refl s)

theorem keepsCore_completeJoin : KeepsCore completeJoin := fun s => .ite (keepsCore_enterRun s) (.refl s)

theorem keepsCore_closeWindow (x : EpochNum) : KeepsCore (closeWindow x) := fun s =>
  ((CoreKept.of_link (shutWindow_eq x s)).trans (keeps_evaluateAdjacency.core _)).trans ((keeps_assess x).core _)

theorem keepsCore_takeRecord (r : EpochRecord) : KeepsCore (takeRecord r) := fun s =>
  have handed := (keepsCore_setEngine (fun s => { s.engine with ring := ringInsert r s.engine.ring }) s).trans
    ((keeps_reporting (keeps_handRecord r)).core _)
  .ite (handed.trans (by constructor <;> rfl)) handed

theorem keepsCore_endAccumulation (e : EpochNum) (b : Bool) (φ : Phase) (m : TrackerMode) :
    KeepsCore (endAccumulation e b φ m) := fun s =>
  have begun := keepsCore_setEngine (fun s => beginEpoch false s.engine) s
  .ite begun (begun.trans (keepsCore_takeRecord _ _))

theorem KeepsCore.eitherOrder {f g : State → State} (hf : KeepsCore f) (hg : KeepsCore g) (race : State → Bool)
    (order : Nat → Bool) : KeepsCore (fun s => eitherOrder (race s) order f g s) := by
  intro s
  have chosen : CoreKept s { s with choices := s.choices + 1 } := by constructor <;> rfl
  cases h : race s with
  | false => simpa only [h, eitherOrder_of_no_race] using (hg s).trans (hf _)
  | true =>
    rcases eitherOrder_of_race (order := order) (f := f) (g := g) (s := s) rfl with e | e <;> simp only [h, e]
    · exact (chosen.trans (hf _)).trans (hg _)
    · exact (chosen.trans (hg _)).trans (hf _)

theorem keepsCore_silenceAnd {f : State → State} (h : KeepsCore f) : KeepsCore (silenceAnd f) :=
  keepsCore_epochSilence.eitherOrder h (fun s => jamChanging s && silentChanging s) _

theorem keepsCore_busyAndRecord {f : State → State} (h : KeepsCore f) : KeepsCore (busyAndRecord f) :=
  keepsCore_epochBusy.eitherOrder h jamComing _

theorem keepsCore_recordAndClose (x : EpochNum) {f : State → State} (h : KeepsCore f) : KeepsCore (recordAndClose x f) :=
  fun s => .ite ((keepsCore_closeWindow x).eitherOrder h (fun _ => true) _ s) (h s)

theorem keepsCore_fallHold : KeepsCore fallHold := fun s => by constructor <;> rfl

theorem keepsCore_openWindow : KeepsCore openWindow := fun s => by constructor <;> rfl

theorem keepsCore_boundaryContinues : KeepsCore boundaryContinues := fun s => .ite (keepsCore_closeWindow _ s) (.refl s)

theorem keepsCore_boundaryEnds (e : EpochNum) (b : Bool) (φ : Phase) (m : TrackerMode) : KeepsCore (boundaryEnds e b φ m) := by
  intro s
  have begun : CoreKept s (if b then s.setTimeline { s.timeline with slewGuard := false } else s) :=
    .ite (by constructor <;> rfl) (.refl s)
  have aged := (((begun.trans (keepsCore_countListen _)).trans (keepsCore_fallHold _)).trans (keepsCore_expireAlert _)).trans
    (keepsCore_ageTables _)
  exact (aged.trans (keepsCore_silenceAnd (keepsCore_busyAndRecord (keepsCore_recordAndClose e
    (keepsCore_endAccumulation e b φ m))) _)).trans (keepsCore_openWindow _)

theorem keepsCore_leaveWindow : KeepsCore leaveWindow := fun s =>
  .ite ((keepsCore_setLink (fun s => { s.link with windowOpen := false }) s).trans (keeps_evaluateAdjacency.core _)) (.refl s)

theorem keepsCore_jumpWindow (x : JumpTarget) : KeepsCore (jumpWindow x) := fun s =>
  .ite ((keepsCore_leaveWindow s).trans (keepsCore_openWindow _)) (keepsCore_leaveWindow s)

theorem keepsCore_jumpQueue (x : JumpTarget) : KeepsCore (jumpQueue x) := fun s =>
  (keepsCore_missReport _ s).trans (by constructor <;> rfl)

theorem keepsCore_timelineJump (x : JumpTarget) : KeepsCore (timelineJump x) := fun s => by constructor <;> rfl

theorem keepsCore_boundaryJumps (x : JumpTarget) : KeepsCore (boundaryJumps x) := by
  intro s
  have cleared := ((((keepsCore_setEngine (fun s => engineJump x.cycle s.engine) s).trans (keepsCore_jumpQueue x _)).trans
    (keepsCore_jumpWindow x _)).trans (keepsCore_timelineJump x _)).trans (keeps_returnToBlind.core _)
  have entered := ((cleared.trans ((keeps_setAssessor (fun t => assessorJump t.assessor)).core _)).trans
    ((keeps_reporting keeps_judgeAgreement).core _)).trans (keepsCore_completeJoin _)
  exact ((entered.trans (keepsCore_fallHold _)).trans
    (keepsCore_ageTables _)).trans (keepsCore_silenceAnd keepsCore_epochBusy _)

/-! ## Delivered frames (Chapter 4) -/

theorem keepsCore_takeAlert (h : Header) (p : Payload) (l : Stamp) : KeepsCore (takeAlert h p l) := by
  intro s
  unfold takeAlert
  split
  · exact ((keepsCore_frameHeard s).trans (by constructor <;> rfl)).trans (keepsCore_tableAlert _ _ _)
  · exact .refl s

theorem tableOther_coreKept (h : Header) (s : State) : CoreKept s (tableOther h (setHold (frameHeard s))) :=
  ((keepsCore_frameHeard s).trans (by constructor <;> rfl)).trans (keepsCore_tableOther _ _)

theorem keepsCore_takeClaimFrame (h : Header) (p : Payload) (l : Stamp) : KeepsCore (takeClaimFrame h p l) := by
  intro s
  unfold takeClaimFrame
  split
  · exact (tableOther_coreKept h s).trans ((keeps_reporting (keeps_takeClaim _ _ _)).core _)
  · exact .refl s

theorem keepsCore_takeReleaseFrame (h : Header) (p : Payload) (l : Stamp) : KeepsCore (takeReleaseFrame h p l) := by
  intro s
  unfold takeReleaseFrame
  split
  · exact (tableOther_coreKept h s).trans ((keeps_reporting (keeps_takeRelease _ _)).core _)
  · exact .refl s

theorem keepsCore_detectorTripped (h : Header) (c : TrippedContent) : KeepsCore (detectorTripped h c) := fun s =>
  .ite ((keeps_reporting (keeps_enterDeenergized _ _)).core s) (.refl s)

theorem keepsCore_trippedBlocks (n : Nat) (h : Header) (c : TrippedContent) : KeepsCore (trippedBlocks n h c) := by
  intro s
  have d := keepsCore_detectorTripped h c
  have r := (keeps_reporting (keeps_coverZone c)).core
  have l := (keeps_linkageTripped h.sender c).core
  dsimp only [trippedBlocks]
  split
  · exact ((d s).trans (r _)).trans (l _)
  · exact ((d s).trans (l _)).trans (r _)
  · exact ((r s).trans (d _)).trans (l _)
  · exact ((r s).trans (l _)).trans (d _)
  · exact ((l s).trans (d _)).trans (r _)
  · exact ((l s).trans (r _)).trans (d _)

theorem keepsCore_takeTripped (h : Header) (p : Payload) (l : Stamp) : KeepsCore (takeTripped h p l) := by
  intro s
  unfold takeTripped
  split
  · exact ((tableOther_coreKept h s).trans (by constructor <;> rfl)).trans (keepsCore_trippedBlocks _ _ _ _)
  · exact .refl s

end Sys2Proof.Machine

/-! The Cycle Tracker's operations, each said once, and the period estimate: every command keeps P in its range (O9). -/

namespace Sys2Proof.Machine

/-! ## Time carried forward -/

@[simp] theorem advanceTo_tracker (s : State) (t : Tick) : (advanceTo s t).tracker = s.tracker := by rw [advanceTo_eq]
@[simp] theorem advanceTo_port (s : State) (t : Tick) : (advanceTo s t).port = s.port := by rw [advanceTo_eq]
@[simp] theorem advanceToSome_tracker (s : State) (t : Option Tick) : (advanceToSome s t).tracker = s.tracker := by
  rw [advanceToSome_eq]
@[simp] theorem advanceToSome_sampling (s : State) (t : Option Tick) : (advanceToSome s t).sampling = s.sampling := by
  rw [advanceToSome_eq]
@[simp] theorem advanceToSome_engine (s : State) (t : Option Tick) : (advanceToSome s t).engine = s.engine := by
  rw [advanceToSome_eq]
@[simp] theorem advanceToSome_port (s : State) (t : Option Tick) : (advanceToSome s t).port = s.port := by
  rw [advanceToSome_eq]
@[simp] theorem advanceToSome_link (s : State) (t : Option Tick) : (advanceToSome s t).link = s.link := by
  rw [advanceToSome_eq]

/-! ## Windows and boundaries (R5, R8, R14) -/

/-- The windows that close change their marks, the reference's miss counter and the accepted mark of the last capture (R8). -/
theorem closeWindows_eq (t : Tick) (k : Tracker) : closeWindows t k = { k with
    miss := (closeWindows t k).miss, lastRef := (closeWindows t k).lastRef
    windowNow := (closeWindows t k).windowNow, windowNext := (closeWindows t k).windowNext } := by
  unfold closeWindows
  split
  · dsimp only
    split <;> split <;> rfl
  · rfl

/-- Only a LOCKED tracker has windows to close (R8). -/
theorem closeWindows_of_not_locked {k : Tracker} (h : k.mode ≠ .locked) (t : Tick) : closeWindows t k = k := by
  unfold closeWindows
  split
  · contradiction
  · rfl

/-- A tracker whose offset is UNLEARNED has no window to close (R8, R11). -/
theorem closeWindows_of_unlearned {k : Tracker} (h : k.offset = none) (t : Tick) : closeWindows t k = k := by
  unfold closeWindows
  split
  · next ho _ _ => exact absurd (h.symm.trans ho) (by simp)
  · rfl

theorem windowsClosed_eq (k : Tracker) : windowsClosed k = { k with
    miss := (windowsClosed k).miss, lastRef := (windowsClosed k).lastRef
    windowNow := (windowsClosed k).windowNow, windowNext := (windowsClosed k).windowNext } := by
  unfold windowsClosed
  split
  · exact closeWindows_eq _ k
  · rfl

/-- The epoch counter's move changes the epoch counter alone (R14, R16). -/
theorem advanceEpoch_eq (image : Image) (k : Tracker) : advanceEpoch image k = { k with
    epoch := (advanceEpoch image k).epoch, cycleIndex := (advanceEpoch image k).cycleIndex
    cycleCount := (advanceEpoch image k).cycleCount, epochLength := (advanceEpoch image k).epochLength
    slewed := (advanceEpoch image k).slewed, slew := (advanceEpoch image k).slew, jump := (advanceEpoch image k).jump } := by
  unfold advanceEpoch
  split <;> rfl

/-- The evaluations of a boundary change state, reference, offset and their counters, and the next boundary (R4, R11 to R13). -/
theorem evaluateReference_eq (image : Image) (k : Tracker) :
    (evaluateReference image k).1 = { k with
      mode := (evaluateReference image k).1.mode, ref := (evaluateReference image k).1.ref
      offset := (evaluateReference image k).1.offset, accepts := (evaluateReference image k).1.accepts
      miss := (evaluateReference image k).1.miss, lastRef := (evaluateReference image k).1.lastRef
      preferredRun := (evaluateReference image k).1.preferredRun, next := (evaluateReference image k).1.next } := by
  unfold evaluateReference
  split
  · unfold seekSwitch
    split <;> rfl
  · split
    · unfold abandon
      split <;> rfl
    · unfold preferredReturn
      split
      · rfl
      · split
        · split <;> rfl
        · rfl
  · rfl

/-! ## The ended cycle -/

/-- What the patch makes of the sample port and the engine depends on these two alone (R18). -/
theorem patchStrobe_congr {s t : State} (hs : s.sampling = t.sampling) (he : s.engine = t.engine) :
    (patchStrobe s).sampling = (patchStrobe t).sampling ∧ (patchStrobe s).engine = (patchStrobe t).engine := by
  unfold patchStrobe
  rw [hs, he]
  split
  · dsimp only
    split <;> exact ⟨rfl, rfl⟩
  · exact ⟨hs, he⟩

/-- The patch changes the sample port, the engine and the Event Queue (R18, R19). -/
theorem patchStrobe_eq (s : State) : patchStrobe s = { s with
    sampling := (patchStrobe s).sampling, engine := (patchStrobe s).engine, port := (patchStrobe s).port } := by
  unfold patchStrobe
  split
  · dsimp only
    split <;> rfl
  · rfl

@[simp] theorem patchStrobe_image (s : State) : (patchStrobe s).port.image = s.port.image := by
  unfold patchStrobe
  split
  · dsimp only
    split <;> rfl
  · rfl

@[simp] theorem patchStrobe_tracker (s : State) : (patchStrobe s).tracker = s.tracker := by rw [patchStrobe_eq]

@[simp] theorem patchStrobe_link (s : State) : (patchStrobe s).link = s.link := by rw [patchStrobe_eq]

/-- The tracker at a boundary as its evaluations find it: the boundary fallen, the epoch counter moved, the health inputs taken from the
ended cycle, and the misses counted (R2, R4, R5, R8, R9, R14). -/
def trackerJudged (s : State) : Tracker :=
  countMisses (updateHealth (cycleValid (patchStrobe s).sampling) (magnitudes (patchStrobe s).engine.acc).v
    (trackerFalls s.port.image (windowsClosed s.tracker)))

/-- The state of a boundary before the Linkage's timers and the evaluations. -/
def cycleEnded (s : State) : State :=
  endCycle ((advanceToSome s s.tracker.next).setTracker (trackerFalls s.port.image (windowsClosed s.tracker)))

theorem countMisses_cycleEnded (s : State) : countMisses (cycleEnded s).tracker = trackerJudged s := by
  have settled := patchStrobe_congr
    (s := (advanceToSome s s.tracker.next).setTracker (trackerFalls s.port.image (windowsClosed s.tracker))) (t := s)
    (by simp) (by simp)
  unfold cycleEnded endCycle trackerJudged
  dsimp only
  rw [settled.1, settled.2, patchStrobe_tracker, State.setTracker_tracker]

@[simp] theorem cycleEnded_image (s : State) : (cycleEnded s).port.image = s.port.image := by
  simp [cycleEnded, endCycle]

@[simp] theorem cycleEnded_link (s : State) : (cycleEnded s).link = s.link := by
  simp [cycleEnded, endCycle]

/-- The evaluations of a boundary made on what the Linkage's timers leave. -/
theorem evaluateTracker_tracker (kind : BoundaryKind) (s : State) :
    (evaluateTracker (linkageTimers kind (cycleEnded s))).tracker =
      (evaluateReference s.port.image (trackerJudged s)).1 := by
  have timers := (keeps_linkageTimers kind (cycleEnded s)).coreKept
  have image : (linkageTimers kind (cycleEnded s)).port.image = s.port.image := timers.image.trans (cycleEnded_image s)
  unfold evaluateTracker
  dsimp only
  rw [(keeps_recordTracker _ _).tracker, State.setTracker_tracker, timers.tracker, countMisses_cycleEnded, image]

/-- The tracker after a boundary is what the evaluations make of it: no block moves it again (R5, R10 to R13). -/
theorem boundaryBody_tracker (s : State) :
    (boundaryBody s).tracker = (evaluateReference s.port.image (trackerJudged s)).1 := by
  have tail : ∀ t, (strobeTimers (abandonBackoff (judgePosture (beginCycle t)))).tracker = t.tracker := fun t =>
    (keepsCore_strobeTimers _).tracker.trans (keepsCore_abandonBackoff _).tracker
  have body : ∀ kind, boundaryKind (windowsClosed s.tracker) = kind → (boundaryBody s).tracker =
      (evaluateTracker (linkageTimers kind (cycleEnded s))).tracker := by
    intro kind hk
    unfold boundaryBody
    simp only [advanceToSome_tracker, advanceToSome_port, hk]
    cases kind with
    | continues => exact (tail _).trans (keepsCore_boundaryContinues _).tracker
    | epochEnds e b => exact (tail _).trans (keepsCore_boundaryEnds _ _ _ _ _).tracker
    | jumps x => exact (tail _).trans (keepsCore_boundaryJumps _ _).tracker
  exact (body _ rfl).trans (evaluateTracker_tracker _ s)

/-! ## The period estimate (section 1.1, R3, R7) -/

/-- An eighth, truncated toward zero, lies between 0 and the whole. -/
theorem tdiv_eight_between (d : Int) : (0 ≤ d → 0 ≤ d.tdiv 8 ∧ d.tdiv 8 ≤ d) ∧ (d ≤ 0 → d ≤ d.tdiv 8 ∧ d.tdiv 8 ≤ 0) := by
  have nonneg : ∀ e : Int, 0 ≤ e → 0 ≤ e.tdiv 8 ∧ e.tdiv 8 ≤ e := by
    intro e he
    rw [Int.tdiv_eq_ediv_of_nonneg he]
    omega
  refine ⟨nonneg d, fun hd => ?_⟩
  have := nonneg (-d) (by omega)
  rw [Int.neg_tdiv] at this
  omega

theorem periodInWindow_iff {k : Tracker} {m : Int} : periodInWindow k m = true ↔
    15000 ≤ m ∧ m ≤ 22500 ∧ (m - k.period).natAbs ≤ k.period / 64 := by
  simp only [periodInWindow, Bool.and_eq_true, decide_eq_true_eq, and_assoc]
  exact Iff.rfl

theorem periodOk_iff {k : Tracker} : PeriodOk k ↔ 15000 ≤ k.period ∧ k.period ≤ 22500 := by
  unfold PeriodOk Config.periodMin Config.periodMax
  omega

/-- P moved toward a measured period in its range stays in it. -/
theorem movedPeriod_ok {k : Tracker} (h : PeriodOk k) {m : Int} (hm : periodInWindow k m = true) :
    Config.periodMin ≤ movedPeriod k m ∧ (movedPeriod k m : Int) ≤ Config.periodMax := by
  obtain ⟨low, high⟩ := periodOk_iff.mp h
  obtain ⟨mlow, mhigh, -⟩ := periodInWindow_iff.mp hm
  have eighth := tdiv_eight_between (m - k.period)
  unfold movedPeriod Config.periodMin Config.periodMax
  omega

theorem updatedPeriod_ok {k : Tracker} (h : PeriodOk k) (t : Tick) :
    Config.periodMin ≤ updatedPeriod t k ∧ (updatedPeriod t k : Int) ≤ Config.periodMax := by
  unfold updatedPeriod
  split
  · dsimp only
    split
    · next hm => exact movedPeriod_ok h (Bool.and_eq_true_iff.mp hm).2
    · exact h
  · exact h

theorem seekCrossing_periodOk {k : Tracker} (h : PeriodOk k) (t : Tick) : PeriodOk (seekCrossing t k) := by
  unfold seekCrossing PeriodOk
  cases measuredPeriod k t with
  | none => dsimp only; split <;> exact h
  | some m =>
    dsimp only
    split
    · next hm => split <;> exact movedPeriod_ok h hm
    · split <;> exact h

theorem lockedCrossing_periodOk {k : Tracker} (h : PeriodOk k) (t : Tick) (o : Int) : PeriodOk (lockedCrossing t o k) := by
  unfold lockedCrossing
  split
  · split
    · exact updatedPeriod_ok h t
    · split
      · exact updatedPeriod_ok h t
      · exact h
  · exact h

/-- Learning the offset moves offset, windows and the reference's capture, and nothing else (R11). -/
theorem learnOffset_eq (t : Tick) (k : Tracker) : learnOffset t k = { acceptCrossing k.ref t k with
    offset := (learnOffset t k).offset, windowNow := (learnOffset t k).windowNow
    windowNext := (learnOffset t k).windowNext, lastRef := some ⟨t, true⟩ } := by
  unfold learnOffset
  split
  · dsimp only
    split
    · rfl
    · split <;> rfl
  · rfl

@[simp] theorem learnOffset_period (t : Tick) (k : Tracker) : (learnOffset t k).period = k.period := by
  rw [learnOffset_eq]
  rfl

theorem holdoverCrossing_period (image : Image) (φ : Phase) (t : Tick) (k : Tracker) :
    (holdoverCrossing image φ t k).1.period = k.period := by
  unfold holdoverCrossing
  dsimp only
  split
  · exact learnOffset_period _ _
  · rfl

/-- Every edge keeps P in its range (R3, R7). -/
theorem edge_periodOk {k : Tracker} (h : PeriodOk k) (image : Image) (φ : Phase) (t : Tick) :
    PeriodOk (edge image φ t k).1 := by
  have closed : PeriodOk (closeWindows t k) := by rw [closeWindows_eq]; exact h
  unfold edge
  split
  · exact h
  · dsimp only
    split
    · unfold PeriodOk
      rw [holdoverCrossing_period]
      exact closed
    · dsimp only
      split
      · exact seekCrossing_periodOk closed t
      · exact closed
    · split
      · split
        · unfold PeriodOk
          rw [learnOffset_period]
          exact closed
        · exact lockedCrossing_periodOk closed t _
      · exact closed

/-- The boundary leaves P as it stands (R5). -/
theorem boundaryBody_period (s : State) : (boundaryBody s).tracker.period = s.tracker.period := by
  rw [boundaryBody_tracker, evaluateReference_eq]
  have health : ∀ b v k, (updateHealth b v k).period = k.period := by
    intro b v k
    unfold updateHealth
    split <;> rfl
  change (updateHealth _ _ (advanceEpoch _ (fall _))).period = _
  rw [health, advanceEpoch_eq, windowsClosed_eq]
  rfl

theorem takeEdge_tracker (φ : Phase) (t : Tick) (s : State) :
    (takeEdge φ t s).tracker = (edge s.port.image φ t s.tracker).1 := by
  unfold takeEdge
  dsimp only
  rw [(keeps_recordTracker _ _).tracker]
  simp

/-- A REPORT taken by the Timeline Unit moves at most the pending jump and slew of the tracker (R85, R87, R91). -/
theorem timelineReport_period (h : Header) (l : Stamp) (s : State) :
    (timelineReport h l s).tracker.period = s.tracker.period := by
  have marked : (setMark h.sender (alignedBy s.port.image.n h l) s).tracker = s.tracker := (keeps_setMark _ _ s).tracker
  have join : ∀ t : State, (listenJoin h t).tracker.period = t.tracker.period := by
    intro t
    unfold listenJoin
    split <;> rfl
  have jump : ∀ t : State, (sourceJump h t).tracker.period = t.tracker.period := by
    intro t
    unfold sourceJump
    split
    · rfl
    · split <;> rfl
  have slew : ∀ (e : Int) (t : State), (sourceSlew e t).tracker.period = t.tracker.period := by
    intro e t
    unfold sourceSlew
    dsimp only
    split <;> rfl
  have source : ∀ t : State, (sourceReport h l t).tracker.period = t.tracker.period := by
    intro t
    unfold sourceReport
    dsimp only
    split
    · exact jump _
    · exact slew _ _
    · rfl
  unfold timelineReport
  dsimp only
  split
  · rw [marked]
  · rw [join, marked]
  · split
    · rw [source, marked]
    · rw [marked]

theorem takeReport_period (h : Header) (p : Payload) (l : Stamp) (s : State) :
    (takeReport h p l s).tracker.period = s.tracker.period := by
  unfold takeReport
  split
  · rw [timelineReport_period, (keepsCore_tableReport _ _ _).tracker, (keepsCore_frameHeard _).tracker]
  · rfl

/-! ## Every command -/

/-- A function keeps P in its range. -/
def KeepsPeriod (f : State → State) : Prop := ∀ s, PeriodOk s.tracker → PeriodOk (f s).tracker

theorem KeepsPeriod.of_tracker {f : State → State} (h : ∀ s, (f s).tracker = s.tracker) : KeepsPeriod f := by
  intro s hs
  rw [h]
  exact hs

theorem KeepsPeriod.of_period {f : State → State} (h : ∀ s, (f s).tracker.period = s.tracker.period) : KeepsPeriod f := by
  intro s hs
  unfold PeriodOk
  rw [h]
  exact hs

theorem KeepsCore.keepsPeriod {f : State → State} (h : KeepsCore f) : KeepsPeriod f := .of_tracker fun s => (h s).tracker

theorem Keeps.keepsPeriod {f : State → State} (h : Keeps f) : KeepsPeriod f := h.core.keepsPeriod

theorem KeepsPeriod.ite {f g : State → State} (p : State → Prop) [DecidablePred p] (hf : KeepsPeriod f)
    (hg : KeepsPeriod g) : KeepsPeriod (fun s => if p s then f s else g s) := by
  intro s hs
  dsimp only
  split
  · exact hf s hs
  · exact hg s hs

theorem keepsPeriod_id : KeepsPeriod (fun s => s) := fun _ h => h

theorem KeepsPeriod.comp {f g : State → State} (hf : KeepsPeriod f) (hg : KeepsPeriod g) : KeepsPeriod (fun s => f (g s)) :=
  fun s hs => hf _ (hg s hs)

theorem KeepsPeriod.whileWorking {f : State → State} (h : KeepsPeriod f) : KeepsPeriod (whileWorking f) :=
  .ite (fun s => s.working = true) (keepsCore_settle.keepsPeriod.comp h) keepsPeriod_id

/-- A reset, and the START instant, set P to its start value (R20). -/
theorem initTracker_periodOk (image : Image) : PeriodOk (Init.tracker image) := by
  unfold PeriodOk Init.tracker
  dsimp only
  split <;> decide

theorem keepsPeriod_transact {act : State → Reply × State} (h : ∀ s, (act s).2.tracker = s.tracker) :
    KeepsPeriod (transact act) := by
  refine .of_tracker fun s => ?_
  unfold transact
  split
  · rfl
  · dsimp only
    split
    · rfl
    · rw [State.setPort_tracker, h, State.setPort_tracker]

theorem keepsPeriod_deliver (kind : Nat) {act : Header → Payload → Stamp → State → State}
    (h : ∀ x p l, KeepsPeriod (act x p l)) (frame : List Byte) : KeepsPeriod (deliver kind act frame) := by
  intro s hs
  unfold deliver
  split
  · exact hs
  · split
    · exact h _ _ _ (endReception s) hs
    · exact hs

theorem keepsPeriod_endValidation : KeepsPeriod endValidation := by
  intro s hs
  unfold endValidation
  split
  · split
    · exact hs
    · exact keepsCore_settle.keepsPeriod _ (initTracker_periodOk s.port.image)
  · exact hs

theorem keepsPeriod_missReference : KeepsPeriod missReference := .of_period fun s => by
  unfold missReference
  split
  · dsimp only
    rw [State.setTracker_tracker, closeWindows_eq, advanceTo_tracker]
  · rfl

theorem keepsPeriod_takePen (level : Bool) : KeepsPeriod (takePen level) := .of_tracker fun s => by
  unfold takePen
  split
  · rfl
  · exact (keeps_evaluateTrips _).tracker

theorem keepsPeriod_takeOpen (o : Output) (level : Bool) :
    KeepsPeriod (fun s => takeOpen o level (setOpenPin o level s)) := .of_tracker fun s => by
  have held : (holdOpen o level (setOpenPin o level s)).tracker = s.tracker := by cases o <;> rfl
  dsimp only [takeOpen]
  split
  · exact (keeps_confirmTrip keeps_evaluateTrips o _).tracker.trans held
  · exact held

/-- Every command keeps P in its range (R3, R7, R20). -/
theorem exec_periodOk (c : Instr) {s t : State} (h : PeriodOk s.tracker) (ht : exec c s = .next t) : PeriodOk t.tracker := by
  have reads : ∀ reply : State → Reply, KeepsPeriod (transact (readOnly reply)) := fun _ => keepsPeriod_transact fun _ => rfl
  have working : ∀ {f : State → State}, KeepsPeriod f → t = whileWorking f s → PeriodOk t.tracker :=
    fun hf e => e ▸ hf.whileWorking s h
  cases c with
  | powerOnReset => cases ht; exact initTracker_periodOk _
  | resetPin => cases ht; exact initTracker_periodOk _
  | resetPinAsserted => cases ht; exact initTracker_periodOk _
  | reset =>
    cases ht
    unfold commandReset
    split
    · exact h
    · exact initTracker_periodOk _
  | getStatus => cases ht; exact reads _ s h
  | getRecord k => cases ht; exact reads _ s h
  | getPeer k => cases ht; exact reads _ s h
  | getClaims => cases ht; exact reads _ s h
  | getMap => cases ht; exact reads _ s h
  | badCommand => cases ht; exact reads _ s h
  | popEvent =>
    cases ht
    refine keepsPeriod_transact (fun s => ?_) s h
    unfold popEvent
    split <;> rfl
  | loadConfig image =>
    cases ht
    refine keepsPeriod_transact (fun s => ?_) s h
    unfold loadConfig
    split <;> rfl
  | start =>
    cases ht
    refine keepsPeriod_transact (fun s => ?_) s h
    unfold startValidation
    split <;> rfl
  | startValidationEnd =>
    cases ht
    exact KeepsPeriod.ite (fun s => s.resetHeld = true) keepsPeriod_id keepsPeriod_endValidation s h
  | crossingEdge φ at_ =>
    cases ht
    exact working (fun s hs => by rw [takeEdge_tracker]; exact edge_periodOk hs _ _ _) rfl
  | referenceMiss => cases ht; exact working keepsPeriod_missReference rfl
  | cycleBoundary => cases ht; exact working (.of_period boundaryBody_period) rfl
  | sampleStrobe =>
    cases ht
    refine working (.of_tracker fun s => ?_) rfl
    unfold nextStrobe
    split
    · split
      · refine (keepsCore_strobeTimers _).tracker.trans ?_
        rw [patchStrobe_eq]
        exact advanceToSome_tracker _ _
      · rfl
    · rfl
  | sampleStall => cases ht; exact working (.of_tracker fun s => by split <;> rfl) rfl
  | sampleSetArrival set =>
    cases ht
    refine working (.of_tracker fun s => ?_) rfl
    unfold takeSampleSet resumeSampling
    split
    · dsimp only
      split <;> rfl
    · rfl
  | listenTimeout =>
    cases ht
    exact working (.ite (fun s => listenDue s = true) keepsCore_enterRun.keepsPeriod keepsPeriod_id) rfl
  | disturbanceClose => cases ht; exact working (keeps_reporting keeps_testClose).keepsPeriod rfl
  | disturbanceTimeout =>
    cases ht
    exact working (keeps_reporting (.ite forceDue keeps_forceClose .id)).keepsPeriod rfl
  | blindExit => cases ht; exact working (keeps_reporting (.ite blindExitDue keeps_leaveBlind .id)).keepsPeriod rfl
  | deenergizedRestored =>
    cases ht
    exact working (keeps_reporting (.ite restoreDue keeps_restoreLine .id)).keepsPeriod rfl
  | alertExpired => cases ht; exact working keepsCore_expireAlert.keepsPeriod rfl
  | vigilanceHoldExpired => cases ht; exact working (.of_tracker fun s => by split <;> rfl) rfl
  | probationWindowPassed k => cases ht; exact working (keeps_modifyPeer _ _).keepsPeriod rfl
  | peerStale k =>
    cases ht
    exact working (.ite _ (keepsCore_tableChanged.keepsPeriod.comp (keeps_modifyPeer _ _).keepsPeriod) keepsPeriod_id) rfl
  | peerLost k =>
    cases ht
    exact working (.ite _ (keepsCore_tableChanged.keepsPeriod.comp (keeps_loseSlot _).keepsPeriod) keepsPeriod_id) rfl
  | peerFreed k =>
    cases ht
    exact working (.ite _ (keepsCore_tableChanged.keepsPeriod.comp (keeps_freeSlot _).keepsPeriod) keepsPeriod_id) rfl
  | claimRefresh k f =>
    cases ht
    exact working (keeps_reporting (keeps_refreshIfDue (ownKey s k f))).keepsPeriod rfl
  | claimExpired key => cases ht; exact working (keeps_reporting (keeps_expireClaim key)).keepsPeriod rfl
  | delayEnd k =>
    cases ht
    exact working (.ite (fun s => delayEnded s k = true) keeps_evaluateTrips.keepsPeriod keepsPeriod_id) rfl
  | backupTrip k =>
    cases ht
    refine working (.of_tracker fun s => ?_) rfl
    split
    · exact (keeps_expireBackup _ _ s).tracker
    · rfl
  | jammedSet =>
    cases ht
    exact working (.ite (fun s => jamDue s = true) keepsCore_setJammed.keepsPeriod keepsPeriod_id) rfl
  | silentSet => cases ht; exact working keepsCore_judgeSilent.keepsPeriod rfl
  | txDone =>
    cases ht
    exact working (keepsCore_clearTimeouts.keepsPeriod.comp
      (.ite (fun s => s.link.sending = true) keepsCore_completeFrame.keepsPeriod keepsPeriod_id)) rfl
  | txCompletionTimeout => cases ht; exact working keepsCore_completeIfDue.keepsPeriod rfl
  | backoffEnd => cases ht; exact working (.of_tracker fun s => by rw [endBackoffIfDue_eq]) rfl
  | channelBusyChange level =>
    cases ht
    have watched : KeepsPeriod (watchBusy level) := .of_tracker fun s => by unfold watchBusy; split <;> rfl
    exact watched.whileWorking _ h
  | rxStart => cases ht; exact working (.of_tracker fun s => by unfold takeRxStart; split <;> rfl) rfl
  | receptionTimeout => cases ht; exact working keepsCore_endReceptionIfDue.keepsPeriod rfl
  | reportReceived frame =>
    cases ht
    exact working (keepsPeriod_deliver 1 (fun x p l => .of_period (takeReport_period x p l)) frame) rfl
  | alertReceived frame =>
    cases ht
    exact working (keepsPeriod_deliver 2 (fun x p l => (keepsCore_takeAlert x p l).keepsPeriod) frame) rfl
  | claimReceived frame =>
    cases ht
    exact working (keepsPeriod_deliver 3 (fun x p l => (keepsCore_takeClaimFrame x p l).keepsPeriod) frame) rfl
  | releaseReceived frame =>
    cases ht
    exact working (keepsPeriod_deliver 4 (fun x p l => (keepsCore_takeReleaseFrame x p l).keepsPeriod) frame) rfl
  | trippedReceived frame =>
    cases ht
    exact working (keepsPeriod_deliver 5 (fun x p l => (keepsCore_takeTripped x p l).keepsPeriod) frame) rfl
  | receivedFrameDropped frame =>
    cases ht
    exact working (keepsPeriod_deliver 0 (fun _ _ _ => keepsPeriod_id) frame) rfl
  | penChange level =>
    cases ht
    exact KeepsPeriod.ite (f := fun s => { s with penPin := level }) (fun s => s.resetHeld = true) (.of_tracker fun _ => rfl)
      (keepsCore_settle.keepsPeriod.comp (keepsPeriod_takePen level)) s h
  | openConfirmChange o level =>
    cases ht
    exact KeepsPeriod.ite (fun s => s.resetHeld = true) (.of_tracker fun s => by cases o <;> rfl)
      (keepsCore_settle.keepsPeriod.comp (keepsPeriod_takeOpen o level)) s h
  | tripFailed o => cases ht; exact working (keeps_failIfDue o).keepsPeriod rfl

/-- Settles O9: with a command waiting by `exec_periodOk`; a step with none moves the timebase or the queue alone. -/
theorem periodInvariant : Obligations.PeriodInvariant := by
  intro s t h hstep
  unfold step at hstep
  split at hstep
  · cases hstep
    unfold idle
    split <;> exact h
  · next c rest _ => exact exec_periodOk c (s := { s with pending := rest }) h hstep

end Sys2Proof.Machine

/-! Crossing edges (R1 to R13): what the tracker makes of an edge in each of its states, and the statements O24 to O28. -/

namespace Sys2Proof

@[simp] theorem PerPhase.get_set_same {α : Type} (m : PerPhase α) (φ : Phase) (a : α) : (m.set φ a).get φ = a := by
  cases φ <;> rfl

@[simp] theorem PerPhase.get_set_ne {α : Type} (m : PerPhase α) {φ ψ : Phase} (a : α) (h : ψ ≠ φ) :
    (m.set φ a).get ψ = m.get ψ := by
  cases φ <;> cases ψ <;> simp [PerPhase.set, PerPhase.get] at h ⊢

end Sys2Proof

namespace Sys2Proof.Machine

/-- A tick time moved by a natural number of ticks. -/
theorem tickAdd_natCast (t : Tick) (n : Nat) : tickAdd t n = t + BitVec.ofNat 32 n := by
  rw [tickAdd, BitVec.ofInt_natCast]

/-- A count raised is the count plus 1, saturating. -/
theorem raise_eq (cap n : Nat) : raise cap n = min cap (n + 1) := by
  unfold raise
  split <;> omega

/-- An accepted crossing blanks its input for floor(P/4) (R1). -/
theorem acceptCrossing_eq (φ : Phase) (t : Tick) (k : Tracker) : acceptCrossing φ t k = { k with
    miss := k.miss.set φ 0, crossed := k.crossed.set φ true
    blankEnd := k.blankEnd.set φ (some (t + BitVec.ofNat 32 (k.period / 4))) } := by
  unfold acceptCrossing Tracker.blanking
  rw [tickAdd_natCast]

/-! ## Which edges are captured -/

theorem blanked_eq_true {φ : Phase} {t b : Tick} {k : Tracker} (hb : k.blankEnd.get φ = some b) (h : tickDiff t b < 0) :
    blanked φ t k = true := by
  simp [blanked, hb, h]

theorem blanked_eq_false {φ : Phase} {t : Tick} {k : Tracker}
    (h : ∀ b, k.blankEnd.get φ = some b → 0 ≤ tickDiff t b) : blanked φ t k = false := by
  unfold blanked
  split
  · next b hb => exact decide_eq_false (Int.not_lt.mpr (h b hb))
  · rfl

theorem edge_of_blanked {image : Image} {φ : Phase} {t : Tick} {k : Tracker} (h : blanked φ t k = true) :
    edge image φ t k = (k, []) := by
  rw [edge, if_pos h]

theorem edge_of_seeking {image : Image} {t : Tick} {k : Tracker} (hm : k.mode = .seeking)
    (hb : blanked k.ref t k = false) : edge image k.ref t k = (seekCrossing t k, []) := by
  simp [edge, hb, closeWindows_of_not_locked (k := k) (by simp [hm]), hm]

theorem edge_of_holdover {image : Image} {φ : Phase} {t : Tick} {k : Tracker} (hm : k.mode = .holdover)
    (hb : blanked φ t k = false) : edge image φ t k = holdoverCrossing image φ t k := by
  simp [edge, hb, closeWindows_of_not_locked (k := k) (by simp [hm]), hm]

theorem edge_of_unlearned {image : Image} {t : Tick} {k : Tracker} (hm : k.mode = .locked) (ho : k.offset = none)
    (hb : blanked k.ref t k = false) : edge image k.ref t k = (learnOffset t k, []) := by
  simp [edge, hb, closeWindows_of_unlearned ho, hm, ho]

theorem edge_of_locked {image : Image} {t : Tick} {offset : Int} {k : Tracker} (hm : k.mode = .locked)
    (ho : k.offset = some offset) (hc : closeWindows t k = k) (hb : blanked k.ref t k = false) :
    edge image k.ref t k = (lockedCrossing t offset k, []) := by
  simp [edge, hb, hc, hm, ho]

theorem edge_of_nonreference {image : Image} {φ : Phase} {t : Tick} {k : Tracker} (hm : k.mode ≠ .holdover)
    (hφ : φ ≠ k.ref) (hc : closeWindows t k = k) (hb : blanked φ t k = false) :
    edge image φ t k = (acceptCrossing φ t k, []) := by
  unfold edge
  simp only [hb, hc, Bool.false_eq_true, if_false, hφ]
  cases h : k.mode with
  | holdover => contradiction
  | seeking => rfl
  | locked => rfl

/-! ## A reference edge of a LOCKED tracker (R5 to R8) -/

theorem inWindow_iff {k : Tracker} {t anchor : Tick} {offset : Int} :
    inWindow k t offset anchor = true ↔ (tickDiff t anchor - offset).natAbs ≤ k.period / 16 := by
  unfold inWindow Tracker.halfWindow
  exact decide_eq_true_iff

/-- Inside the awaited window of the fallen anchor. -/
theorem lockedCrossing_early {k : Tracker} {t anchor next : Tick} {offset : Int} (ha : k.anchor = some anchor)
    (hn : k.next = some next) (hw : k.windowNow = .awaiting)
    (he : (tickDiff t anchor - offset).natAbs ≤ k.period / 16) :
    lockedCrossing t offset k = { acceptCrossing k.ref t k with
      period := updatedPeriod t k
      next := some (tickAdd anchor (updatedPeriod t k + (tickDiff t anchor - offset).tdiv 4))
      lastRef := some ⟨t, true⟩, windowNow := .accepted } := by
  simp only [lockedCrossing, ha, hn, hw, inWindow_iff.mpr he, phaseError, decide_true, Bool.and_self, if_true]

/-- Inside the awaited window of the coming anchor, and not in that of the fallen one. -/
theorem lockedCrossing_late {k : Tracker} {t anchor next : Tick} {offset : Int} (ha : k.anchor = some anchor)
    (hn : k.next = some next)
    (hearly : ¬ (k.windowNow = .awaiting ∧ (tickDiff t anchor - offset).natAbs ≤ k.period / 16))
    (hw : k.windowNext = .awaiting) (he : (tickDiff t next - offset).natAbs ≤ k.period / 16) :
    lockedCrossing t offset k = { acceptCrossing k.ref t k with
      period := updatedPeriod t k
      correction := (tickDiff t next - offset).tdiv 4
      lastRef := some ⟨t, true⟩, windowNext := .accepted } := by
  have h : ¬ (decide (k.windowNow = .awaiting) && inWindow k t offset anchor) = true := by
    rwa [Bool.and_eq_true, decide_eq_true_eq, inWindow_iff]
  simp only [lockedCrossing, ha, hn, if_neg h]
  simp only [hw, inWindow_iff.mpr he, phaseError, decide_true, Bool.and_self, if_true]

/-- Outside every awaited window the edge is a stray (R8). -/
theorem lockedCrossing_stray {k : Tracker} {t : Tick} {offset : Int}
    (hnow : k.windowNow = .awaiting → ∀ a, k.anchor = some a → k.period / 16 < (tickDiff t a - offset).natAbs)
    (hnext : k.windowNext = .awaiting → ∀ b, k.next = some b → k.period / 16 < (tickDiff t b - offset).natAbs) :
    lockedCrossing t offset k = k := by
  unfold lockedCrossing
  split
  · next a b ha hb =>
    have now : ¬ (decide (k.windowNow = .awaiting) && inWindow k t offset a) = true := by
      rw [Bool.and_eq_true, decide_eq_true_eq, inWindow_iff]
      rintro ⟨h, h'⟩
      have := hnow h a ha
      omega
    have next : ¬ (decide (k.windowNext = .awaiting) && inWindow k t offset b) = true := by
      rw [Bool.and_eq_true, decide_eq_true_eq, inWindow_iff]
      rintro ⟨h, h'⟩
      have := hnext h b hb
      omega
    rw [if_neg now, if_neg next]
  · rfl

theorem updatedPeriod_follows (k : Tracker) (t : Tick) : PeriodFollows k t (updatedPeriod t k) := by
  unfold updatedPeriod
  refine ⟨fun h => ?_, fun c hc ha => ?_⟩
  · split
    · next c hc => simp [h c hc]
    · rfl
  · simp only [hc, ha, Bool.true_and]
    refine ⟨fun h => ?_, fun h => ?_⟩
    · rw [if_pos (periodInWindow_iff.mpr h), movedPeriod]
    · rw [if_neg (fun hw => h (periodInWindow_iff.mp hw))]

/-! ## The offset learned (R11) -/

/-- The learned offset is the capture less the nearer anchor. -/
theorem learnOffset_offset {k : Tracker} {t anchor next : Tick} (ha : k.anchor = some anchor) (hn : k.next = some next) :
    let d := tickDiff t anchor
    (d.natAbs ≤ k.period / 2 → (learnOffset t k).offset = some d) ∧
    (k.period / 2 < d.natAbs → 0 < d → (learnOffset t k).offset = some (tickDiff t next)) ∧
    (k.period / 2 < d.natAbs → d < 0 → (learnOffset t k).offset = some (d + k.period)) := by
  simp only [learnOffset, ha, hn, Tracker.offsetLimit, Int.toNat_natCast]
  refine ⟨fun h => ?_, fun h hpos => ?_, fun h hneg => ?_⟩
  · rw [if_pos h]
  · rw [if_neg (by omega), if_pos hpos]
  · rw [if_neg (by omega), if_neg (by omega)]

/-! ## The command -/

/-- A crossing edge taken by a working part: the tracker, its cycle's state set and its events, and the re-judging. -/
theorem exec_crossingEdge {s : State} (hw : s.working = true) (φ : Phase) (t : Tick) :
    exec (.crossingEdge φ t) s = .next (settle (takeEdge φ t s)) := by
  change Host.Outcome.next _ = _
  rw [whileWorking_of_working hw]

theorem State.working_run {s : State} (h : s.working = true) : s.run ≠ .config := by
  unfold State.working at h
  simpa using (Bool.and_eq_true_iff.mp h).2

/-- An edge with its tracker and events said. -/
theorem takeEdge_eq {s : State} {φ : Phase} {at_ : Tick} {k : Tracker} {es : List TrackerEvent}
    (h : edge s.port.image φ at_ s.tracker = (k, es)) : takeEdge φ at_ s = recordTracker es { s with
      timebase := (advanceTo s at_).timebase, tracker := k
      engine := { s.engine with cycleModes := addMode k.mode s.engine.cycleModes } } := by
  unfold takeEdge
  dsimp only
  rw [advanceTo_port, advanceTo_tracker, h, advanceTo_eq]

/-- An edge that brings no event moves the tracker as `edge` says, the timebase, and the cycle's state set; the link does what it does of
itself (R1, R25). -/
theorem exec_crossingEdge_of_no_event {s : State} {φ : Phase} {at_ : Tick} {k : Tracker} (hw : s.working = true)
    (h : edge s.port.image φ at_ s.tracker = (k, [])) :
    ∃ t, exec (.crossingEdge φ at_) s = .next t ∧ t.tracker = k ∧
      t = { s with timebase := t.timebase, tracker := t.tracker, link := t.link,
                   engine := { s.engine with cycleModes := t.engine.cycleModes } } ∧ LinkSettled s.link t := by
  have taken : takeEdge φ at_ s = { s with
      timebase := (advanceTo s at_).timebase, tracker := k
      engine := { s.engine with cycleModes := addMode k.mode s.engine.cycleModes } } := takeEdge_eq h
  have run : (takeEdge φ at_ s).run ≠ .config := by rw [taken]; exact State.working_run hw
  have link : (takeEdge φ at_ s).link = s.link := by rw [taken]
  refine ⟨_, exec_crossingEdge hw φ at_, ?_, ?_, link ▸ settle_linkSettled run⟩
  · rw [settle_eq, taken]
  · rw [settle_eq, taken]

/-- Settles O24: `edge` answers the tracker as it stands, blanked or stray. -/
theorem blankedAndStrayEdgesAreDiscarded : Obligations.BlankedAndStrayEdgesAreDiscarded := by
  intro φ at_ s hw hc hedge
  have discarded : edge s.port.image φ at_ s.tracker = (s.tracker, []) := by
    cases hb : blanked φ at_ s.tracker with
    | true => exact edge_of_blanked hb
    | false =>
      rcases hedge with ⟨b, hb', hlt⟩ | ⟨hm, rfl, offset, ho, hnow, hnext⟩
      · rw [blanked_eq_true hb' hlt] at hb
        contradiction
      · rw [edge_of_locked hm ho hc hb, lockedCrossing_stray hnow hnext]
  obtain ⟨t, ht, hk, frame, link⟩ := exec_crossingEdge_of_no_event hw discarded
  exact ⟨t, ht, hk, by rw [hk] at frame; exact frame, link⟩

/-- Settles O25: an edge that is not the reference's is only accepted. -/
theorem nonReferenceEdgeIsAccepted : Obligations.NonReferenceEdgeIsAccepted := by
  intro φ at_ s hw hm hφ hc hb
  obtain ⟨t, ht, hk, frame, link⟩ :=
    exec_crossingEdge_of_no_event hw (edge_of_nonreference hm hφ hc (blanked_eq_false hb))
  exact ⟨t, ht, hk.trans (acceptCrossing_eq φ at_ s.tracker), frame, link⟩

/-! ## Seek crossings (R3) -/

/-- P and the acceptance count after a seek crossing. -/
def seekMoved (t : Tick) (k : Tracker) : Nat × Nat :=
  match measuredPeriod k t with
  | some m => if periodInWindow k m then (movedPeriod k m, raise 4 k.accepts) else (k.period, 1)
  | none => (k.period, 1)

/-- A seek crossing with its acceptance count below 4 stays in SEEKING; the fourth enters LOCKED. -/
theorem seekCrossing_eq (t : Tick) (k : Tracker) : seekCrossing t k =
    let taken : Tracker := { acceptCrossing k.ref t k with
      period := (seekMoved t k).1, accepts := (seekMoved t k).2, lastRef := some ⟨t, true⟩
      next := some (t + BitVec.ofNat 32 (seekMoved t k).1) }
    if (seekMoved t k).2 = 4 then
      { taken with mode := .locked, offset := some 0, windowNow := .passed, windowNext := .awaiting }
    else taken := by
  unfold seekCrossing seekMoved
  cases measuredPeriod k t with
  | none => simp only [tickAdd_natCast]
  | some m =>
    dsimp only
    split <;> simp only [tickAdd_natCast]

theorem seekMoved_of_no_capture {t : Tick} {k : Tracker} (h : k.lastRef = none) : seekMoved t k = (k.period, 1) := by
  simp [seekMoved, measuredPeriod, h]

theorem seekMoved_of_capture {t : Tick} {k : Tracker} {c : RefCapture} (h : k.lastRef = some c) :
    let m := tickDiff t c.tick
    (15000 ≤ m ∧ m ≤ 22500 ∧ (m - k.period).natAbs ≤ k.period / 64 →
      seekMoved t k = (((k.period : Int) + (m - k.period).tdiv 8).toNat, min 4 (k.accepts + 1))) ∧
    (¬ (15000 ≤ m ∧ m ≤ 22500 ∧ (m - k.period).natAbs ≤ k.period / 64) → seekMoved t k = (k.period, 1)) := by
  simp only [seekMoved, measuredPeriod, h, Option.map_some]
  refine ⟨fun hm => ?_, fun hm => ?_⟩
  · rw [if_pos (periodInWindow_iff.mpr hm), movedPeriod, raise_eq]
  · rw [if_neg (fun hw => hm (periodInWindow_iff.mp hw))]

/-- What every seek crossing leaves, whether it locks or not. -/
theorem seekCrossing_fields (t : Tick) (k : Tracker) :
    (seekCrossing t k).miss = k.miss.set k.ref 0 ∧ (seekCrossing t k).lastRef = some ⟨t, true⟩ ∧
    (seekCrossing t k).next = some (t + BitVec.ofNat 32 (seekMoved t k).1) ∧
    (seekCrossing t k).anchor = k.anchor ∧ (seekCrossing t k).period = (seekMoved t k).1 ∧
    (seekCrossing t k).accepts = (seekMoved t k).2 := by
  rw [seekCrossing_eq]
  dsimp only
  split <;> exact ⟨rfl, rfl, rfl, rfl, rfl, rfl⟩

theorem seekCrossing_locks {t : Tick} {k : Tracker} (h : (seekMoved t k).2 = 4) :
    (seekCrossing t k).mode = .locked ∧ (seekCrossing t k).offset = some 0 ∧
    currentAnchor (seekCrossing t k) = (seekCrossing t k).next := by
  rw [seekCrossing_eq]
  dsimp only
  rw [if_pos h]
  exact ⟨rfl, rfl, rfl⟩

theorem seekCrossing_seeks_on {t : Tick} {k : Tracker} (h : (seekMoved t k).2 ≠ 4) :
    (seekCrossing t k).mode = k.mode := by
  rw [seekCrossing_eq]
  dsimp only
  rw [if_neg h]
  rfl

/-- Settles O26: `seekMoved` gives P and the count in each of the three cases. -/
theorem seekCrossingMovesThePeriod : Obligations.SeekCrossingMovesThePeriod := by
  intro at_ s hw hm hb
  obtain ⟨t, ht, hk, frame, link⟩ := exec_crossingEdge_of_no_event hw (edge_of_seeking hm (blanked_eq_false hb))
  obtain ⟨hmiss, hlast, hnext, hanchor, hperiod, haccepts⟩ := seekCrossing_fields at_ s.tracker
  refine ⟨t, ht, ?_, ?_, ?_, ?_, fun h => ?_, fun c hc => ⟨fun h => ?_, fun h => ?_⟩, fun h => ?_, fun h => ?_,
    by rw [frame], by rw [frame], by rw [frame], by rw [frame], by rw [frame], by rw [frame], by rw [frame], by rw [frame],
    by rw [frame], link⟩
  all_goals rw [hk] at *
  · rw [hmiss, PerPhase.get_set_same]
  · exact hlast
  · rw [hnext, hperiod]
  · exact hanchor
  · rw [hperiod, haccepts, seekMoved_of_no_capture h]
    exact ⟨rfl, rfl⟩
  · rw [hperiod, haccepts, (seekMoved_of_capture hc).1 h]
    exact ⟨rfl, rfl⟩
  · rw [hperiod, haccepts, (seekMoved_of_capture hc).2 h]
    exact ⟨rfl, rfl⟩
  · exact seekCrossing_locks (haccepts.symm.trans h)
  · exact (seekCrossing_seeks_on (fun h' => h (haccepts.trans h'))).trans hm

/-- Settles O27: the early window before the late one, and the offset learned where it is UNLEARNED. -/
theorem lockedCrossingCorrectsTheBoundary : Obligations.LockedCrossingCorrectsTheBoundary := by
  refine ⟨?_, ?_⟩
  · intro at_ anchor next offset s hw hm ho ha hn hc hb early late hin
    obtain ⟨t, ht, hk, -, -⟩ := exec_crossingEdge_of_no_event hw (edge_of_locked hm ho hc (blanked_eq_false hb))
    refine ⟨t, ht, ?_⟩
    rw [hk]
    by_cases he : early
    · rw [lockedCrossing_early ha hn he.1 he.2]
      exact ⟨PerPhase.get_set_same _ _ _, rfl, ha, fun _ => ⟨rfl, rfl, rfl, rfl⟩, fun h => absurd he h,
        updatedPeriod_follows _ _, hm, ho, rfl, rfl, rfl⟩
    · have hl : late := hin.resolve_left he
      rw [lockedCrossing_late ha hn he hl.1 hl.2]
      exact ⟨PerPhase.get_set_same _ _ _, rfl, ha, fun h => absurd h he, fun _ => ⟨rfl, rfl, hn, rfl⟩,
        updatedPeriod_follows _ _, hm, ho, rfl, rfl, rfl⟩
  · intro at_ anchor next s hw hm ho ha hn hb
    obtain ⟨t, ht, hk, frame, link⟩ := exec_crossingEdge_of_no_event hw (edge_of_unlearned hm ho (blanked_eq_false hb))
    refine ⟨t, ht, ?_, ?_, frame, link⟩
    · rw [hk]
      exact learnOffset_offset ha hn
    · rw [hk, learnOffset_eq, acceptCrossing_eq]

/-! ## HOLDOVER (R13) -/

/-- After its own accepted crossing a phase is healthy by its voltage, or where the last valid cycle is too old to tell (R10). -/
theorem healthy_acceptCrossing {image : Image} {φ : Phase} {t : Tick} {k : Tracker} :
    healthy image (acceptCrossing φ t k) φ = true ↔ 4 ≤ k.validAge ∨ image.vrefFloor ≤ k.health.get φ := by
  change (if k.validAge < 4 then decide (image.vrefFloor ≤ k.health.get φ)
    else decide ((k.miss.set φ 0).get φ ≤ 1)) = true ↔ _
  rw [PerPhase.get_set_same]
  split
  · rw [decide_eq_true_iff]
    omega
  · exact iff_of_true (by decide) (.inl (by omega))

/-- A healthy phase ends HOLDOVER with the event of it. -/
theorem holdoverCrossing_of_healthy {image : Image} {φ : Phase} {t : Tick} {k : Tracker}
    (h : healthy image (acceptCrossing φ t k) φ = true) : holdoverCrossing image φ t k =
      ({ learnOffset t { acceptCrossing φ t k with ref := φ } with mode := .locked, preferredRun := 0 },
        [(.holdoverExit, φ)]) := by
  unfold holdoverCrossing
  dsimp only
  rw [if_pos h]

/-- A crossing of any other phase is only accepted. -/
theorem holdoverCrossing_of_unhealthy {image : Image} {φ : Phase} {t : Tick} {k : Tracker}
    (h : ¬ healthy image (acceptCrossing φ t k) φ = true) :
    holdoverCrossing image φ t k = (acceptCrossing φ t k, []) := by
  unfold holdoverCrossing
  dsimp only
  rw [if_neg h]

/-- Settles O28: the healthy phase takes the reference and learns its offset; any other crossing is only accepted. -/
theorem holdoverEndsAtAHealthyPhase : Obligations.HoldoverEndsAtAHealthyPhase := by
  intro φ at_ s hw hm hb
  have crossed : edge s.port.image φ at_ s.tracker = holdoverCrossing s.port.image φ at_ s.tracker :=
    edge_of_holdover hm (blanked_eq_false hb)
  refine ⟨_, exec_crossingEdge hw φ at_, ?_⟩
  by_cases hh : healthy s.port.image (acceptCrossing φ at_ s.tracker) φ = true
  · have taken := takeEdge_eq (crossed.trans (holdoverCrossing_of_healthy hh))
    have hport : (settle (takeEdge φ at_ s)).port = (record s .holdoverExit .absent none (.phase φ)).port := by
      rw [settle_eq, taken]
      refine record_port_congr _ _ _ _ ?_ rfl
      rw [learnOffset_eq]
      rfl
    have htracker : (settle (takeEdge φ at_ s)).tracker =
        { learnOffset at_ { acceptCrossing φ at_ s.tracker with ref := φ } with mode := .locked, preferredRun := 0 } := by
      rw [settle_eq, taken]
      rfl
    rw [htracker, hport]
    refine ⟨?_, ?_, ?_, ?_, fun _ => ⟨rfl, ?_, rfl, fun anchor ha next hn =>
      learnOffset_offset (t := at_) (k := { acceptCrossing φ at_ s.tracker with ref := φ }) ha hn⟩, fun hage hlow => ?_⟩
    · rw [learnOffset_eq]; exact PerPhase.get_set_same _ _ _
    · rw [learnOffset_eq]; rfl
    · rw [learnOffset_eq]; rfl
    · rw [learnOffset_eq]; rfl
    · rw [learnOffset_eq]; rfl
    · have := healthy_acceptCrossing.mp hh
      omega
  · have taken := takeEdge_eq (crossed.trans (holdoverCrossing_of_unhealthy hh))
    have hport : (settle (takeEdge φ at_ s)).port = s.port := by rw [settle_eq, taken]; rfl
    have htracker : (settle (takeEdge φ at_ s)).tracker = acceptCrossing φ at_ s.tracker := by rw [settle_eq, taken]; rfl
    rw [htracker, hport]
    exact ⟨PerPhase.get_set_same _ _ _, rfl, rfl, rfl, fun h => absurd (healthy_acceptCrossing.mpr h) hh,
      fun _ _ => ⟨hm, rfl, rfl⟩⟩

end Sys2Proof.Machine

/-! The reference's misses and the evaluations of a boundary (R2, R4, R8 to R13): the statement O29. -/

namespace Sys2Proof.Machine

/-! ## A window that passes (R8) -/

theorem tickDiff_succ (w : Tick) : tickDiff (w + 1) w = 1 := by
  unfold tickDiff
  rw [show w + 1 - w = 1 by bv_omega]
  rfl

theorem windowMissed_eq (k : Tracker) : windowMissed k = { k with
    miss := k.miss.set k.ref (min 3 (k.miss.get k.ref + 1))
    lastRef := k.lastRef.map (fun c => { c with accepted := false }) } := by
  unfold windowMissed
  rw [raise_eq]

/-- The window of the fallen anchor alone has closed. -/
theorem closeWindows_fallen {k : Tracker} {t anchor next : Tick} {offset : Int} (hm : k.mode = .locked)
    (ho : k.offset = some offset) (ha : k.anchor = some anchor) (hn : k.next = some next) (hw : k.windowNow = .awaiting)
    (now : 0 < tickDiff t (windowEnd k offset anchor)) (later : tickDiff t (windowEnd k offset next) ≤ 0) :
    closeWindows t k = windowMissed { k with windowNow := .passed } := by
  unfold closeWindows
  rw [hm, ho, ha, hn]
  have fallen : (decide (k.windowNow = .awaiting) && decide (0 < tickDiff t (windowEnd k offset anchor))) = true := by
    simp [hw, now]
  dsimp only
  rw [if_pos fallen]
  refine if_neg fun h => ?_
  have coming := of_decide_eq_true (Bool.and_eq_true_iff.mp h).2
  exact absurd coming (Int.not_lt.mpr later)

/-- The window of the coming anchor alone has closed. -/
theorem closeWindows_coming {k : Tracker} {t anchor next : Tick} {offset : Int} (hm : k.mode = .locked)
    (ho : k.offset = some offset) (ha : k.anchor = some anchor) (hn : k.next = some next) (hnow : k.windowNow ≠ .awaiting)
    (hw : k.windowNext = .awaiting) (closed : 0 < tickDiff t (windowEnd k offset next)) :
    closeWindows t k = windowMissed { k with windowNext := .passed } := by
  unfold closeWindows
  rw [hm, ho, ha, hn]
  have fallen : ¬ (decide (k.windowNow = .awaiting) && decide (0 < tickDiff t (windowEnd k offset anchor))) = true := by
    simp [hnow]
  have coming : (decide (k.windowNext = .awaiting) && decide (0 < tickDiff t (windowEnd k offset next))) = true := by
    simp [hw, closed]
  dsimp only
  rw [if_neg fallen, if_pos coming, hm, ho, ha, hn]

/-- REFERENCE_MISS taken at a window that passes at `at_`. -/
theorem exec_referenceMiss {s : State} (hw : s.working = true) {at_ : Tick} {k : Tracker}
    (hp : windowPassing s.tracker = some at_) (hk : closeWindows at_ s.tracker = k) :
    ∃ t, exec .referenceMiss s = .next t ∧ t.tracker = k ∧
      t = { s with timebase := t.timebase, tracker := t.tracker, link := t.link } ∧ LinkSettled s.link t := by
  have missed : missReference s = { s with timebase := (advanceTo s at_).timebase, tracker := k } := by
    unfold missReference
    rw [hp]
    dsimp only
    rw [advanceTo_tracker, hk, advanceTo_eq]
    rfl
  have done : exec .referenceMiss s = .next (settle (missReference s)) := by
    change Host.Outcome.next _ = _
    rw [whileWorking_of_working hw]
  have run : (missReference s).run ≠ .config := by rw [missed]; exact State.working_run hw
  have link : (missReference s).link = s.link := by rw [missed]
  refine ⟨_, done, ?_, ?_, link ▸ settle_linkSettled run⟩
  · rw [settle_eq, missed]
  · rw [settle_eq, missed]

/-! ## The tracker that a boundary judges -/

/-- The miss counters as the boundary counts them (R2, R4). -/
theorem boundaryMiss_eq (k : Tracker) (φ : Phase) : boundaryMiss k φ = missesAtBoundary k φ := by
  unfold boundaryMiss missesAtBoundary countedAtBoundary
  simp only [raise_eq]
  by_cases hφ : φ = k.ref
  · subst hφ
    cases k.mode with
    | seeking => cases k.crossed.get k.ref <;> simp
    | locked => cases k.offset <;> cases k.crossed.get k.ref <;> simp
    | holdover => cases k.crossed.get k.ref <;> simp
  · cases k.crossed.get φ <;> simp [hφ]

/-- The tracker judged, where no window was left to count: mode, reference, offset, P and the counts of the evaluations stand. -/
theorem trackerJudged_eq {s : State} (h : windowsClosed s.tracker = s.tracker) :
    trackerJudged s = { s.tracker with
      anchor := (trackerJudged s).anchor, next := (trackerJudged s).next, correction := (trackerJudged s).correction
      windowNow := (trackerJudged s).windowNow, windowNext := (trackerJudged s).windowNext
      epoch := (trackerJudged s).epoch, cycleIndex := (trackerJudged s).cycleIndex
      cycleCount := (trackerJudged s).cycleCount, epochLength := (trackerJudged s).epochLength
      slewed := (trackerJudged s).slewed, slew := (trackerJudged s).slew, jump := (trackerJudged s).jump
      validAge := (trackerJudged s).validAge, health := (trackerJudged s).health
      miss := (trackerJudged s).miss, crossed := (trackerJudged s).crossed } := by
  unfold trackerJudged trackerFalls updateHealth
  rw [h, advanceEpoch_eq]
  split <;> rfl

theorem countMisses_get (k : Tracker) (φ : Phase) : (countMisses k).miss.get φ = missesAtBoundary k φ := by
  rw [← boundaryMiss_eq]
  cases φ <;> rfl

theorem trackerJudged_miss {s : State} (h : windowsClosed s.tracker = s.tracker) (φ : Phase) :
    (trackerJudged s).miss.get φ = missesAtBoundary s.tracker φ := by
  unfold trackerJudged trackerFalls updateHealth
  rw [countMisses_get, h, advanceEpoch_eq]
  split <;> rfl

/-- The health inputs follow the ended cycle (R9). -/
theorem trackerJudged_health (s : State) (h : windowsClosed s.tracker = s.tracker) :
    let settled := patchStrobe s
    let valid := settled.sampling.patched < 4 ∧ settled.sampling.stallSeen = false
    (valid → (trackerJudged s).validAge = 0 ∧
      ∀ φ, (trackerJudged s).health.get φ = isqrt (settled.engine.acc.v.get φ / 32)) ∧
    (¬ valid → (trackerJudged s).validAge = min 4 (s.tracker.validAge + 1) ∧
      (trackerJudged s).health = s.tracker.health) := by
  have cycle : cycleValid (patchStrobe s).sampling = true ↔
      (patchStrobe s).sampling.patched < 4 ∧ (patchStrobe s).sampling.stallSeen = false := by
    unfold cycleValid
    rw [Bool.and_eq_true, Bool.not_eq_true']
    exact and_congr_left' decide_eq_true_iff
  unfold trackerJudged updateHealth trackerFalls
  rw [h, advanceEpoch_eq]
  refine ⟨fun hv => ?_, fun hv => ?_⟩
  · rw [if_pos (cycle.mpr hv)]
    refine ⟨rfl, fun φ => ?_⟩
    cases φ <;> rfl
  · rw [if_neg (fun hc => hv (cycle.mp hc)), raise_eq]
    exact ⟨rfl, rfl⟩

/-! ## The orders in which a phase is chosen (R4, R11) -/

/-- The first of a list that meets a test has the least key among those that do, where the keys rise along the list. -/
theorem find?_key_le {α : Type} {f : α → Nat} {p : α → Bool} {l : List α} (hl : l.Pairwise (fun a b => f a ≤ f b)) {a : α}
    (h : l.find? p = some a) : ∀ b ∈ l, p b = true → f a ≤ f b := by
  induction l with
  | nil => simp at h
  | cons c l ih =>
    obtain ⟨hc, hl⟩ := List.pairwise_cons.mp hl
    rw [List.find?_cons] at h
    split at h
    · cases h
      rintro b hb -
      rcases List.mem_cons.mp hb with rfl | hb
      · exact Nat.le_refl _
      · exact hc b hb
    · next hpc =>
      intro b hb hpb
      rcases List.mem_cons.mp hb with rfl | hb
      · exact absurd hpb (by simp [hpc])
      · exact ih hl h b hb hpb

theorem mem_priority (p φ : Phase) : φ ∈ priority p := by cases p <;> cases φ <;> decide

theorem priority_pairwise (p : Phase) : (priority p).Pairwise (fun a b => rank p a ≤ rank p b) := by cases p <;> decide

theorem rank_injective {p φ ψ : Phase} (h : rank p φ = rank p ψ) : φ = ψ := by
  revert h
  cases p <;> cases φ <;> cases ψ <;> decide

theorem mem_phasesAfter {p r φ : Phase} : φ ∈ phasesAfter p r ↔ φ ≠ r := by
  cases p <;> cases r <;> cases φ <;> decide

theorem phasesAfter_pairwise (p r : Phase) :
    (phasesAfter p r).Pairwise (fun a b => placesAfter p r a ≤ placesAfter p r b) := by
  cases p <;> cases r <;> decide

theorem placesAfter_head (p r : Phase) : placesAfter p r ((phasesAfter p r).headD r) = 1 := by
  cases p <;> cases r <;> decide

theorem head_phasesAfter_ne (p r : Phase) : (phasesAfter p r).headD r ≠ r := by
  cases p <;> cases r <;> decide

/-- The phase that takes a LOCKED reference: the healthy one of highest priority that is not the reference (R11). -/
theorem firstHealthy_priority {image : Image} {k : Tracker} {φ : Phase} :
    firstHealthy image k ((priority image.preferred).filter (· ≠ k.ref)) = some φ ↔
      (φ ≠ k.ref ∧ healthy image k φ = true) ∧
        ∀ ψ, ψ ≠ k.ref → healthy image k ψ = true → rank image.preferred φ ≤ rank image.preferred ψ := by
  have least : ∀ {ψ}, firstHealthy image k ((priority image.preferred).filter (· ≠ k.ref)) = some ψ →
      (ψ ≠ k.ref ∧ healthy image k ψ = true) ∧
        ∀ χ, χ ≠ k.ref → healthy image k χ = true → rank image.preferred ψ ≤ rank image.preferred χ := by
    intro ψ h
    have mem := List.mem_of_find?_eq_some h
    refine ⟨⟨by simpa using (List.mem_filter.mp mem).2, List.find?_some h⟩, fun χ hχ hh => ?_⟩
    exact find?_key_le ((priority_pairwise _).filter _) h χ (List.mem_filter.mpr ⟨mem_priority _ _, by simpa using hχ⟩) hh
  refine ⟨least, fun ⟨⟨hne, hh⟩, hle⟩ => ?_⟩
  cases h : firstHealthy image k ((priority image.preferred).filter (· ≠ k.ref)) with
  | none =>
    have := List.find?_eq_none.mp h φ (List.mem_filter.mpr ⟨mem_priority _ _, by simpa using hne⟩)
    contradiction
  | some ψ =>
    obtain ⟨⟨hψ, hhψ⟩, hleψ⟩ := least h
    rw [rank_injective (Nat.le_antisymm (hle ψ hψ hhψ) (hleψ φ hne hh))]

theorem firstHealthy_priority_none {image : Image} {k : Tracker} :
    firstHealthy image k ((priority image.preferred).filter (· ≠ k.ref)) = none ↔
      ∀ ψ, ψ ≠ k.ref → ¬ healthy image k ψ = true := by
  refine List.find?_eq_none.trans ⟨fun h ψ hψ => ?_, fun h ψ hψ => ?_⟩
  · exact h ψ (List.mem_filter.mpr ⟨mem_priority _ _, by simpa using hψ⟩)
  · exact h ψ (by simpa using (List.mem_filter.mp hψ).2)

/-- The phase that a SEEKING reference passes to: the first healthy one after it, or else the next (R4). -/
theorem seekSuccessor {image : Image} {k : Tracker} {φ : Phase}
    (h : φ = (firstHealthy image k (phasesAfter image.preferred k.ref)).getD ((phasesAfter image.preferred k.ref).headD k.ref)) :
    φ ≠ k.ref ∧
      ((healthy image k φ = true ∧ ∀ ψ, ψ ≠ k.ref → healthy image k ψ = true →
          placesAfter image.preferred k.ref φ ≤ placesAfter image.preferred k.ref ψ) ∨
        ((∀ ψ, ψ ≠ k.ref → ¬ healthy image k ψ = true) ∧ placesAfter image.preferred k.ref φ = 1)) := by
  cases hf : firstHealthy image k (phasesAfter image.preferred k.ref) with
  | some χ =>
    obtain rfl : φ = χ := by rw [h, hf]; rfl
    refine ⟨mem_phasesAfter.mp (List.mem_of_find?_eq_some hf), .inl ⟨List.find?_some hf, fun ψ hψ hh => ?_⟩⟩
    exact find?_key_le (phasesAfter_pairwise _ _) hf ψ (mem_phasesAfter.mpr hψ) hh
  | none =>
    obtain rfl : φ = (phasesAfter image.preferred k.ref).headD k.ref := by rw [h, hf]; rfl
    refine ⟨head_phasesAfter_ne _ _, .inr ⟨fun ψ hψ => ?_, placesAfter_head _ _⟩⟩
    exact List.find?_eq_none.mp hf ψ (mem_phasesAfter.mpr hψ)

/-! ## The evaluations, case by case (R4, R10 to R13) -/

theorem PerPhase.get_set_eq_ite (m : PerPhase Nat) (φ ψ : Phase) (n : Nat) :
    (m.set φ n).get ψ = if ψ = φ then n else m.get ψ := by
  split
  · next h => rw [h, PerPhase.get_set_same]
  · next h => exact PerPhase.get_set_ne m n h

section Evaluations
variable {image : Image} {k : Tracker}

theorem evaluateReference_of_holdover (hm : k.mode = .holdover) : evaluateReference image k = (k, []) := by
  simp [evaluateReference, hm]

theorem evaluateReference_seeks_on (hm : k.mode = .seeking) (h : k.miss.get k.ref ≠ 3) :
    evaluateReference image k = (k, []) := by
  simp [evaluateReference, hm, seekSwitch, h]

theorem evaluateReference_seek_passes (hm : k.mode = .seeking) (h : k.miss.get k.ref = 3) :
    ∃ φ, φ = (firstHealthy image k (phasesAfter image.preferred k.ref)).getD ((phasesAfter image.preferred k.ref).headD k.ref) ∧
      evaluateReference image k = ({ k with ref := φ, accepts := 0, miss := k.miss.set φ 0, lastRef := none },
        [(.refPhaseSwitch, φ)]) := by
  refine ⟨_, rfl, ?_⟩
  simp only [evaluateReference, hm, seekSwitch, h, if_true]

/-- The evaluations of a LOCKED tracker: abandonment first (R11). -/
theorem evaluateReference_of_locked (hm : k.mode = .locked) : evaluateReference image k =
    if k.miss.get k.ref = 3 ∨ ¬ healthy image k k.ref = true then abandon image k else preferredReturn image k := by
  simp [evaluateReference, hm]

theorem abandon_to_healthy {φ : Phase}
    (h : firstHealthy image k ((priority image.preferred).filter (· ≠ k.ref)) = some φ) : abandon image k =
      ({ k with ref := φ, offset := none, miss := k.miss.set φ 0, lastRef := none, preferredRun := 0, next := plainNext k },
        [(.refPhaseSwitch, φ)]) := by
  unfold abandon
  rw [h]

theorem abandon_to_holdover (h : firstHealthy image k ((priority image.preferred).filter (· ≠ k.ref)) = none) :
    abandon image k =
      ({ k with mode := .holdover, preferredRun := 0, next := plainNext k }, [(.holdoverEnter, k.ref)]) := by
  unfold abandon
  rw [h]

theorem preferredReturn_returns (hr : k.ref ≠ image.preferred) (hh : healthy image k image.preferred = true)
    (hrun : 8 ≤ k.preferredRun + 1) : preferredReturn image k =
      ({ k with ref := image.preferred, offset := none, lastRef := none, preferredRun := 0, next := plainNext k },
        [(.refPhaseSwitch, image.preferred)]) := by
  unfold preferredReturn
  rw [if_neg hr, if_pos hh, if_pos (by rw [raise_eq]; omega)]

/-- Short of eight boundaries the preferred-healthy run alone moves (R12). -/
theorem preferredReturn_waits
    (h : k.ref = image.preferred ∨ ¬ healthy image k image.preferred = true ∨ k.preferredRun + 1 < 8) :
    preferredReturn image k = ({ k with preferredRun :=
      if k.ref ≠ image.preferred ∧ healthy image k image.preferred = true then k.preferredRun + 1 else 0 }, []) := by
  unfold preferredReturn
  by_cases hr : k.ref = image.preferred
  · simp [hr]
  · by_cases hh : healthy image k image.preferred = true
    · have hrun : k.preferredRun + 1 < 8 := (h.resolve_left hr).resolve_left (fun hn => hn hh)
      have raised : raise 8 k.preferredRun = k.preferredRun + 1 := by rw [raise_eq]; omega
      have below : k.preferredRun + 1 ≠ 8 := by omega
      simp [hr, hh, raised, below]
    · simp [hr, hh]

theorem preferredReturn_tracker (image : Image) (k : Tracker) : (preferredReturn image k).1 = { k with
    ref := (preferredReturn image k).1.ref, offset := (preferredReturn image k).1.offset
    lastRef := (preferredReturn image k).1.lastRef, preferredRun := (preferredReturn image k).1.preferredRun
    next := (preferredReturn image k).1.next } := by
  unfold preferredReturn
  split
  · rfl
  · split
    · split <;> rfl
    · rfl

end Evaluations

/-! ## The event of an evaluation -/

/-- With no frame in flight the counts of a strobe change the link alone (R56, R59, R78). -/
theorem strobeTimers_eq_of_ready {s : State} (h : s.link.sending = false) :
    strobeTimers s = { s with link := (strobeTimers s).link } := by
  have notDue : completeIfDue (s.setLink (countStrobe s.link)) = s.setLink (countStrobe s.link) := by
    simp [completeIfDue, completionDue, countStrobe, h]
  unfold strobeTimers
  rw [notDue, endBackoffIfDue_eq]
  unfold endReceptionIfDue
  split <;> rfl

/-- The evaluations of a boundary move the tracker, and record its events. -/
theorem evaluateTracker_within (s : State) : ∃ k, Within (s.setTracker k) (evaluateTracker s) :=
  ⟨_, keeps_recordTracker _ _⟩

/-- The ended cycle with the Linkage's timers and the evaluations, which leaves the link but for its queue. -/
theorem evaluated_link (kind : BoundaryKind) (s : State) :
    let t := evaluateTracker (linkageTimers kind (cycleEnded s))
    t.link = { s.link with queue := t.link.queue } := by
  obtain ⟨k, events⟩ := evaluateTracker_within (linkageTimers kind (cycleEnded s))
  dsimp only
  rw [events.link, State.setTracker_link, (keeps_linkageTimers kind (cycleEnded s)).link, cycleEnded_link]

/-- A boundary within an epoch, with the report window closed, is the ended cycle, the Linkage's timers, the evaluations and the cycle
that begins. -/
theorem boundaryBody_of_continues {s : State} (hj : s.tracker.jump = none)
    (hc : s.tracker.cycleCount + 1 < s.tracker.epochLength) (hw : s.link.windowOpen = false) :
    boundaryBody s = strobeTimers (abandonBackoff (judgePosture (beginCycle
      (evaluateTracker (linkageTimers .continues (cycleEnded s)))))) := by
  have kind : boundaryKind (windowsClosed s.tracker) = .continues := by
    rw [boundaryKind, windowsClosed_eq, hj]
    exact if_pos hc
  have closed : (evaluateTracker (linkageTimers .continues (cycleEnded s))).link.windowOpen = false := by
    rw [evaluated_link]
    exact hw
  have goesOn : boundaryContinues (evaluateTracker (linkageTimers .continues (cycleEnded s))) =
      evaluateTracker (linkageTimers .continues (cycleEnded s)) := by
    unfold boundaryContinues
    rw [closed]
    rfl
  unfold boundaryBody
  simp only [advanceToSome_tracker, advanceToSome_port, kind]
  rw [← goesOn]
  rfl

theorem record_last (s : State) (kind : EventKind) (x : EventSubject) (y : Option Span) (d : Detail) :
    ∃ e, (record s kind x y d).port.events.getLast? = some e ∧ e.kind = kind ∧ e.detail = d :=
  ⟨_, List.getLast?_concat, rfl, rfl⟩

@[simp] theorem abandonBackoff_sending (s : State) : (abandonBackoff s).link.sending = s.link.sending := by
  unfold abandonBackoff
  split <;> rfl

@[simp] theorem settle_port (s : State) : (settle s).port = s.port := by rw [settle_eq]

/-- With no frame in flight the cycle that begins brings no event. -/
theorem boundaryEnd_port {s : State} (h : s.link.sending = false) :
    (strobeTimers (abandonBackoff (judgePosture (beginCycle s)))).port = s.port := by
  have ready : (abandonBackoff (judgePosture (beginCycle s))).link.sending = false :=
    (abandonBackoff_sending _).trans h
  rw [strobeTimers_eq_of_ready ready]
  change (abandonBackoff (judgePosture (beginCycle s))).port = _
  rw [abandonBackoff_eq]
  rfl

/-- The event of an evaluation is the last of a boundary that brings nothing after it. -/
theorem boundaryBody_lastEvent {s : State} (hj : s.tracker.jump = none)
    (hc : s.tracker.cycleCount + 1 < s.tracker.epochLength) (hw : s.link.windowOpen = false)
    (hs : s.link.sending = false) {k : Tracker} {kind : EventKind} {φ : Phase}
    (h : evaluateReference s.port.image (trackerJudged s) = (k, [(kind, φ)])) :
    ∃ e, (settle (boundaryBody s)).port.events.getLast? = some e ∧ e.kind = kind ∧ e.detail = .phase φ := by
  have timers := (keeps_linkageTimers .continues (cycleEnded s)).coreKept
  have evaluated : evaluateTracker (linkageTimers .continues (cycleEnded s)) =
      record ((linkageTimers .continues (cycleEnded s)).setTracker k) kind .absent none (.phase φ) := by
    unfold evaluateTracker
    rw [timers.image, timers.tracker, countMisses_cycleEnded, cycleEnded_image, h]
    rfl
  have ready : (evaluateTracker (linkageTimers .continues (cycleEnded s))).link.sending = false := by
    rw [evaluated_link]
    exact hs
  have port : (settle (boundaryBody s)).port = (evaluateTracker (linkageTimers .continues (cycleEnded s))).port := by
    rw [settle_port, boundaryBody_of_continues hj hc hw, boundaryEnd_port ready]
  rw [port, evaluated]
  exact record_last _ _ _ _ _

theorem exec_cycleBoundary {s : State} (hw : s.working = true) :
    exec .cycleBoundary s = .next (settle (boundaryBody s)) := by
  change Host.Outcome.next _ = _
  rw [whileWorking_of_working hw]

theorem settled_boundary_tracker (s : State) :
    (settle (boundaryBody s)).tracker = (evaluateReference s.port.image (trackerJudged s)).1 := by
  rw [settle_eq]
  exact boundaryBody_tracker s

/-! ## The statement -/

/-- A phase is healthy to the evaluations of a boundary: by the health inputs and miss counters that the boundary leaves (R9, R10). -/
theorem healthy_judged {image : Image} {k : Tracker} {φ : Phase} : healthy image k φ = true ↔
    (k.validAge < 4 ∧ image.vrefFloor ≤ k.health.get φ) ∨ (4 ≤ k.validAge ∧ k.miss.get φ ≤ 1) := by
  unfold healthy
  split
  · rw [decide_eq_true_iff]; omega
  · rw [decide_eq_true_iff]; omega

/-- A window of a LOCKED tracker that passes without its crossing (O29). -/
theorem referenceMiss_counts {offset : Int} {anchor next : Tick} {s : State} (hw : s.working = true)
    (hm : s.tracker.mode = .locked) (ho : s.tracker.offset = some offset) (ha : s.tracker.anchor = some anchor)
    (hn : s.tracker.next = some next) :
    let missed : Tracker := { s.tracker with
      miss := s.tracker.miss.set s.tracker.ref (min 3 (s.tracker.miss.get s.tracker.ref + 1))
      lastRef := s.tracker.lastRef.map (fun c => { c with accepted := false }) }
    (s.tracker.windowNow = .awaiting →
      tickDiff (windowEnd s.tracker offset anchor + 1) (windowEnd s.tracker offset next) ≤ 0 →
      ∃ t, exec .referenceMiss s = .next t ∧ t.tracker = { missed with windowNow := .passed } ∧
        t = { s with timebase := t.timebase, tracker := t.tracker, link := t.link } ∧ LinkSettled s.link t) ∧
    (s.tracker.windowNow ≠ .awaiting → s.tracker.windowNext = .awaiting →
      offset + (s.tracker.period / 16 : Nat) < 0 →
      ∃ t, exec .referenceMiss s = .next t ∧ t.tracker = { missed with windowNext := .passed } ∧
        t = { s with timebase := t.timebase, tracker := t.tracker, link := t.link } ∧ LinkSettled s.link t) := by
  have now : ∀ w : Tick, 0 < tickDiff (w + 1) w := fun w => by rw [tickDiff_succ]; decide
  refine ⟨fun hnow later => ?_, fun hnow hnext close => ?_⟩
  · refine exec_referenceMiss hw (at_ := windowEnd s.tracker offset anchor + 1) ?_
      ((closeWindows_fallen hm ho ha hn hnow (now _) later).trans (windowMissed_eq _))
    simp [windowPassing, hm, ho, ha, hn, hnow]
  · refine exec_referenceMiss hw (at_ := windowEnd s.tracker offset next + 1) ?_
      ((closeWindows_coming hm ho ha hn hnow hnext (now _)).trans (windowMissed_eq _))
    have close' : offset + s.tracker.halfWindow < 0 := close
    simp [windowPassing, hm, ho, ha, hn, hnow, hnext, close']

theorem windowsClosed_of_closed {k : Tracker} (h : ∀ b, k.next = some b → closeWindows b k = k) : windowsClosed k = k := by
  unfold windowsClosed
  split
  · next b hb => exact h b hb
  · rfl

/-- Settles O29: the window by `closeWindows`, the boundary by the evaluations of the judged tracker. -/
theorem referenceMissCounts : Obligations.ReferenceMissCounts := by
  refine ⟨fun offset anchor next s hw hm ho ha hn _ => referenceMiss_counts hw hm ho ha hn, fun s hw hcl => ?_⟩
  have closed := windowsClosed_of_closed hcl
  refine ⟨_, exec_cycleBoundary hw, ?_⟩
  rw [settled_boundary_tracker]
  have mode : (trackerJudged s).mode = s.tracker.mode := by rw [trackerJudged_eq closed]
  have ref : (trackerJudged s).ref = s.tracker.ref := by rw [trackerJudged_eq closed]
  have offset : (trackerJudged s).offset = s.tracker.offset := by rw [trackerJudged_eq closed]
  have accepts : (trackerJudged s).accepts = s.tracker.accepts := by rw [trackerJudged_eq closed]
  have run : (trackerJudged s).preferredRun = s.tracker.preferredRun := by rw [trackerJudged_eq closed]
  have missed := trackerJudged_miss closed
  have age : (evaluateReference s.port.image (trackerJudged s)).1.validAge = (trackerJudged s).validAge := by
    rw [evaluateReference_eq]
  have health : (evaluateReference s.port.image (trackerJudged s)).1.health = (trackerJudged s).health := by
    rw [evaluateReference_eq]
  obtain ⟨hvalid, hinvalid⟩ := trackerJudged_health s closed
  have event : ∀ {k kind φ}, evaluateReference s.port.image (trackerJudged s) = (k, [(kind, φ)]) →
      s.tracker.jump = none → s.tracker.cycleCount + 1 < s.tracker.epochLength → s.link.windowOpen = false →
      s.link.sending = false →
      ∃ e, (settle (boundaryBody s)).port.events.getLast? = some e ∧ e.kind = kind ∧ e.detail = .phase φ :=
    fun h hj hc hwin hs => boundaryBody_lastEvent hj hc hwin hs h
  generalize trackerJudged s = j at *
  intro k preferred settled valid misses healthy' other abandoned counted passesTo records
  replace missed : ∀ φ, j.miss.get φ = misses φ := missed
  have good : ∀ φ, healthy s.port.image j φ = true ↔ healthy' φ := by
    intro φ
    rw [healthy_judged, ← age, ← health, missed]
  have lost : (j.miss.get j.ref = 3 ∨ ¬ healthy s.port.image j j.ref = true) ↔ abandoned := by
    rw [good, missed, ref]
  refine ⟨fun hv => ⟨age.trans (hvalid hv).1, fun φ => ?_⟩, fun hv => ⟨age.trans (hinvalid hv).1, health.trans (hinvalid hv).2⟩,
    fun hm => ?seeking, fun hm ha => ⟨fun φ hφ hle => ?taken, fun hno => ?lost⟩, fun hm ha => ?stays, fun hm => ?holdover⟩
  · rw [health]
    exact (hvalid hv).2 φ
  case seeking =>
    by_cases h : j.miss.get j.ref = 3
    · obtain ⟨φ, hφ, e⟩ := evaluateReference_seek_passes (image := s.port.image) (mode.trans hm) h
      obtain ⟨hne, hchosen⟩ := seekSuccessor hφ
      have h3 : misses k.ref = 3 := by rw [← h, missed, ref]
      simp only [ref, good] at hne hchosen
      refine ⟨by rw [e]; exact mode.trans hm, fun h' => absurd h3 h', fun _ => ⟨by rw [e], φ, ⟨by rw [e], hne, by rw [e], ?_⟩,
        event e, ?_⟩⟩
      · intro ψ
        rw [e, ← missed ψ]
        exact PerPhase.get_set_eq_ite _ _ _ _
      · exact hchosen.imp (fun h => ⟨h.1, fun ψ hψ => h.2 ψ hψ.1 hψ.2⟩) (fun h => ⟨fun ψ hψ => h.1 ψ hψ.1 hψ.2, h.2⟩)
    · have e := evaluateReference_seeks_on (image := s.port.image) (mode.trans hm) h
      have h3 : misses k.ref ≠ 3 := by rwa [missed, ref] at h
      refine ⟨by rw [e]; exact mode.trans hm, fun _ => ⟨by rw [e]; exact ref, by rw [e]; exact accepts, fun φ => ?_⟩,
        fun h' => absurd h' h3⟩
      rw [e]
      exact missed φ
  case taken =>
    have first : firstHealthy s.port.image j ((priority s.port.image.preferred).filter (· ≠ j.ref)) = some φ := by
      rw [firstHealthy_priority, ref, good]
      exact ⟨hφ, fun ψ hψ hh => hle ψ ⟨hψ, (good ψ).mp hh⟩⟩
    have e := (evaluateReference_of_locked (image := s.port.image) (mode.trans hm)).trans
      ((if_pos (lost.mpr ha)).trans (abandon_to_healthy first))
    refine ⟨by rw [e]; exact mode.trans hm, by rw [e], by rw [e], ⟨by rw [e], hφ.1, by rw [e], fun ψ => ?_⟩, event e⟩
    rw [e, ← missed ψ]
    exact PerPhase.get_set_eq_ite _ _ _ _
  case lost =>
    have first : firstHealthy s.port.image j ((priority s.port.image.preferred).filter (· ≠ j.ref)) = none := by
      rw [firstHealthy_priority_none, ref]
      exact fun ψ hψ hh => hno ψ ⟨hψ, (good ψ).mp hh⟩
    have e := (evaluateReference_of_locked (image := s.port.image) (mode.trans hm)).trans
      ((if_pos (lost.mpr ha)).trans (abandon_to_holdover first))
    refine ⟨by rw [e], by rw [e]; exact ref, by rw [e], fun ψ => ?_, ref ▸ event e⟩
    rw [e]
    exact missed ψ
  case stays =>
    have locked := (evaluateReference_of_locked (image := s.port.image) (mode.trans hm)).trans (if_neg (fun h => ha (lost.mp h)))
    have stands := (congrArg Prod.fst locked).trans (preferredReturn_tracker _ _)
    refine ⟨by rw [stands]; exact mode.trans hm, fun ψ => by rw [stands]; exact missed ψ, fun hr hh hrun => ?_, fun h => ?_⟩
    · have e := locked.trans (preferredReturn_returns (ref ▸ hr) ((good _).mpr hh) (run ▸ hrun))
      exact ⟨by rw [e], by rw [e], by rw [e], event e⟩
    · have e := locked.trans (preferredReturn_waits (by rw [ref, good, run]; exact h))
      refine ⟨by rw [e]; exact ref, by rw [e]; exact offset, ?_⟩
      refine (congrArg (·.1.preferredRun) e).trans ?_
      simp only [ref, good, run]
      rfl
  case holdover =>
    have e := evaluateReference_of_holdover (image := s.port.image) (mode.trans hm)
    refine ⟨by rw [e]; exact mode.trans hm, by rw [e]; exact ref, fun ψ => ?_⟩
    rw [e]
    exact missed ψ

end Sys2Proof.Machine

/-! The sample port and the counts of a strobe (R17 to R19, R56, R59, R78): the statements O33 and O35. -/

namespace Sys2Proof.Machine

/-! ## Sample sets (R18, R19, R21) -/

/-- The return to RUNNING changes the STALL mark and the Event Queue (R19). -/
theorem resumeSampling_eq (s : State) : resumeSampling s = { s with
    sampling := { s.sampling with stalled := false }, port := (resumeSampling s).port } := by
  unfold resumeSampling
  split
  · rfl
  · next h =>
    have running : ({ s.sampling with stalled := false } : Sampling) = s.sampling := by
      rw [← Bool.eq_false_iff.mpr h]
    rw [running]

theorem resumeSampling_port (s : State) : (resumeSampling s).port =
    if s.sampling.stalled then (record s .sampleResume .absent none (.value s.sampling.stallPatches)).port else s.port := by
  unfold resumeSampling
  split
  · exact record_port_congr _ _ _ _ rfl rfl
  · rfl

/-- A set that the most recent strobe awaits. -/
theorem takeSampleSet_awaited {s : State} (h : s.sampling.strobe.isSome = true ∧ s.sampling.hasSet = false)
    (set : SampleSet) : takeSampleSet set s = { s with
      engine := accumulate set s.engine
      sampling := { s.sampling with held := set, hasSet := true, missingRun := 0, stallPatches := 0, stalled := false }
      port := (resumeSampling s).port } := by
  unfold takeSampleSet
  rw [if_pos (by rw [h.1, h.2]; rfl), resumeSampling_eq]

/-- A set that no strobe awaits is discarded. -/
theorem takeSampleSet_discarded {s : State} (h : s.sampling.strobe = none ∨ s.sampling.hasSet = true) (set : SampleSet) :
    takeSampleSet set s = s := by
  unfold takeSampleSet
  refine if_neg ?_
  rcases h with h | h <;> rw [h] <;> simp

/-- Taking a set leaves everything but the sample port, the accumulators and the Event Queue as it stands. -/
theorem takeSampleSet_eq (set : SampleSet) (s : State) : takeSampleSet set s = { s with
    sampling := (takeSampleSet set s).sampling, engine := (takeSampleSet set s).engine
    port := (takeSampleSet set s).port } := by
  by_cases h : s.sampling.strobe.isSome = true ∧ s.sampling.hasSet = false
  · rw [takeSampleSet_awaited h]
  · rw [takeSampleSet_discarded]
    cases hs : s.sampling.strobe with
    | none => exact .inl rfl
    | some k => exact .inr (Bool.not_eq_false _ ▸ fun hf => h ⟨by rw [hs]; rfl, hf⟩)

/-- Settles O33: the two cases of `takeSampleSet`, and the re-judging of the link. -/
theorem sampleSetIsTakenOrDiscarded : Obligations.SampleSetIsTakenOrDiscarded := by
  intro set s hw
  have done : exec (.sampleSetArrival set) s = .next (settle (takeSampleSet set s)) := by
    change Host.Outcome.next _ = _
    rw [whileWorking_of_working hw]
  have frame := takeSampleSet_eq set s
  have run : (takeSampleSet set s).run ≠ .config := by rw [frame]; exact State.working_run hw
  have link : (takeSampleSet set s).link = s.link := by rw [frame]
  refine ⟨_, done, fun hstrobe hset => ?_, fun h => ?_, ?_, link ▸ settle_linkSettled run⟩
  · rw [settle_eq, takeSampleSet_awaited ⟨hstrobe, hset⟩]
    refine ⟨rfl, rfl, fun h => ?_, fun h => ?_⟩
    · exact (resumeSampling_port s).trans (by rw [h]; rfl)
    · exact (resumeSampling_port s).trans (if_pos h)
  · rw [settle_eq, takeSampleSet_discarded h]
    exact ⟨rfl, rfl, rfl⟩
  · rw [settle_eq, frame]

/-! ## What a completion leaves of the blocks (R56, R72, R173) -/

/-- `t` keeps run state, engine, timeline, the count of completions by the timer, and the link but for its queue, besides the core. -/
structure CompletionKept (s t : State) : Prop extends CoreKept s t where
  run : t.run = s.run
  engine : t.engine = s.engine
  timeline : t.timeline = s.timeline
  timeouts : t.fault.timeouts = s.fault.timeouts
  link : t.link = { s.link with queue := t.link.queue }

namespace CompletionKept

theorem trans {s t u : State} (h : CompletionKept s t) (k : CompletionKept t u) : CompletionKept s u where
  toCoreKept := h.toCoreKept.trans k.toCoreKept
  run := k.run.trans h.run
  engine := k.engine.trans h.engine
  timeline := k.timeline.trans h.timeline
  timeouts := k.timeouts.trans h.timeouts
  link := by rw [k.link, h.link]

theorem of_within {s t : State} (h : Within s t) : CompletionKept s t :=
  ⟨h.coreKept, h.run, h.engine, h.timeline, by rw [h.fault], h.link⟩

theorem refl (s : State) : CompletionKept s s := of_within (.refl s)

theorem of_fault (s : State) {f : FaultUnit} (h : f.timeouts = s.fault.timeouts) : CompletionKept s (s.setFault f) :=
  ⟨keepsCore_setFault (fun _ => f) s, rfl, rfl, rfl, h, rfl⟩

end CompletionKept

theorem judgeImpaired_completionKept (s : State) : CompletionKept s (judgeImpaired s) := by
  dsimp only [judgeImpaired]
  split
  · exact .refl s
  · refine CompletionKept.trans ?_ (.of_within (keeps_evaluateTrips _))
    exact .of_fault s rfl

/-- The fault unit's count raised, and nothing else that a completion keeps (R173). -/
theorem countTimeout_completionKept (s : State) :
    CompletionKept (s.setFault { s.fault with timeouts := raise 3 s.fault.timeouts }) (countTimeout s) := by
  dsimp only [countTimeout]
  split
  · refine CompletionKept.trans (.trans ?_ (.of_within (keeps_record _ _ _ _ _))) (judgeImpaired_completionKept _)
    exact .of_fault (s.setFault { s.fault with timeouts := raise 3 s.fault.timeouts }) rfl
  · exact .refl _

theorem completeFrame_completionKept (s : State) : CompletionKept (readyAgain s) (completeFrame s) := by
  unfold completeFrame
  split
  · exact .of_within (keeps_completeSeries _ _)
  · exact .refl _

theorem completeIfDue_of_not_due {s : State} (h : completionDue s = false) : completeIfDue s = s := by
  unfold completeIfDue
  rw [h]
  rfl

/-- The frame in flight completed by the timer: READY again, counted by the fault unit, its series advanced. -/
theorem completeIfDue_of_due {s : State} (h : completionDue s = true) :
    CompletionKept ((readyAgain s).setFault { s.fault with timeouts := raise 3 s.fault.timeouts }) (completeIfDue s) := by
  have done := completeFrame_completionKept s
  have fault : (completeFrame s).fault.timeouts = s.fault.timeouts := done.timeouts
  unfold completeIfDue
  rw [if_pos h]
  refine CompletionKept.trans ?_ (countTimeout_completionKept _)
  exact ⟨⟨done.resetHeld, done.timebase, done.penPin, done.openPin0, done.openPin1, done.busyPin, done.tracker, done.sampling,
    done.pending, done.port⟩, done.run, done.engine, done.timeline, congrArg (raise 3) fault, done.link⟩

/-! ## The link at a strobe -/

/-- The link of a frame in flight once its completion timer is judged, `q` the queue that a completion leaves (R56). -/
def completionCounted (l : Link) (q : List QueueEntry) : Link :=
  if l.sending && Config.linkTimeout ≤ l.completionTimer then { l with sending := false, inFlight := none, completionTimer := 0, queue := q }
  else l

/-- The link of a reception once its timer is judged (R59). -/
def receptionCounted (l : Link) : Link :=
  if l.receiving && Config.linkTimeout ≤ l.receptionTimer then { l with receiving := false, latch := none, receptionTimer := 0 } else l

/-- A strobe's counts before the end of a backoff. -/
def strobeCounted (s : State) : State := endReceptionIfDue (completeIfDue (s.setLink (countStrobe s.link)))

theorem strobeTimers_eq (s : State) : strobeTimers s = endBackoffIfDue (strobeCounted s) := rfl

theorem endReceptionIfDue_eq (s : State) : endReceptionIfDue s = { s with link := receptionCounted s.link } := by
  unfold endReceptionIfDue receptionDue receptionCounted
  split <;> rfl

theorem strobeCounted_link (s : State) : ∃ q, (strobeCounted s).link =
    receptionCounted (completionCounted (countStrobe s.link) q) := by
  refine ⟨(completeIfDue (s.setLink (countStrobe s.link))).link.queue, ?_⟩
  unfold strobeCounted
  rw [endReceptionIfDue_eq]
  refine congrArg receptionCounted ?_
  cases h : completionDue (s.setLink (countStrobe s.link)) with
  | false =>
    rw [completeIfDue_of_not_due h]
    exact (if_neg (Bool.eq_false_iff.mp h)).symm
  | true => exact (completeIfDue_of_due h).link.trans (if_pos h).symm

/-- What the strobe's counts leave of the blocks. -/
theorem strobeCounted_kept (s : State) : (strobeCounted s).run = s.run ∧ (strobeCounted s).engine = s.engine ∧
    (strobeCounted s).timeline = s.timeline ∧ (completionDue (s.setLink (countStrobe s.link)) = true →
      (strobeCounted s).fault.timeouts = raise 3 s.fault.timeouts) := by
  unfold strobeCounted
  rw [endReceptionIfDue_eq]
  cases h : completionDue (s.setLink (countStrobe s.link)) with
  | false =>
    rw [completeIfDue_of_not_due h]
    exact ⟨rfl, rfl, rfl, fun h => absurd h (by decide)⟩
  | true =>
    have done := completeIfDue_of_due h
    exact ⟨done.run, done.engine, done.timeline, fun _ => done.timeouts⟩

/-! ## The end of a backoff, and what the link then does of itself (R57, R76 to R78) -/

/-- The link of `l` has gone on to `m` with no frame handed over, or a frame has been handed over, which ends any reception. -/
def AccessMoved (l m : Link) : Prop :=
  m = { l with vigilant := m.vigilant, receiverEnable := m.receiverEnable, access := m.access, candidate := m.candidate,
               backoff := m.backoff, lfsr := m.lfsr } ∨
    (m.sending = true ∧ m.receiving = false ∧ m.latch = none)

theorem AccessMoved.trans {l m n : Link} (h : AccessMoved l m) (k : AccessMoved m n) : AccessMoved l n := by
  rcases k with k | k
  · rcases h with h | h
    · exact .inl (by rw [k, h])
    · exact .inr (by rw [k]; exact h)
  · exact .inr k

theorem endBackoffIfDue_moved (s : State) : AccessMoved s.link (endBackoffIfDue s).link := by
  unfold endBackoffIfDue endBackoff
  split
  · split
    · split
      · exact .inl rfl
      · exact .inr ⟨rfl, rfl, rfl⟩
    · exact .inl rfl
  · exact .inl rfl

theorem LinkSettled.moved {l : Link} {t : State} (h : LinkSettled l t) : AccessMoved l t.link := by
  obtain ⟨-, -, same, handed⟩ := h
  by_cases hs : t.link.sending = l.sending
  · exact .inl (same hs).1
  · obtain ⟨-, -, -, -, e, -, -, -, -, -, hl⟩ := handed hs
    exact .inr ⟨by rw [hl], by rw [hl], by rw [hl]⟩

theorem endBackoffIfDue_of_no_backoff {s : State} (h : s.link.access ≠ .backoff ∨ s.link.backoff ≠ 0) :
    endBackoffIfDue s = s := by
  unfold endBackoffIfDue backoffDue
  refine if_neg ?_
  rcases h with h | h <;> simp [h]

/-- Eligibility reads the run state, posture and window, the epoch and the fault unit (R75, R172, R174). -/
theorem eligible_congr {s t : State} (hr : t.run = s.run) (hv : t.link.vigilant = s.link.vigilant)
    (hw : t.link.windowOpen = s.link.windowOpen) (he : t.tracker.epoch = s.tracker.epoch) (hf : t.fault = s.fault) :
    eligible t = eligible s := by
  funext e
  simp only [eligible, timely, hr, hv, hw, he, hf]

theorem backoffStands_congr {s t : State} (hel : eligible t = eligible s) (hq : t.link.queue = s.link.queue)
    (hc : t.link.candidate = s.link.candidate) : backoffStands t = backoffStands s := by
  simp only [backoffStands, candidateEntry, hel, hq, hc]

/-- A backoff that stands has an eligible candidate in the queue (R78). -/
theorem backoffStands_candidate {s : State} (h : backoffStands s = true) :
    ∃ e, candidateEntry s = some e ∧ e ∈ s.link.queue ∧ s.link.candidate = some e.subject ∧ eligible s e = true := by
  unfold backoffStands at h
  split at h
  · next e he =>
    obtain ⟨x, hx, hfind⟩ := Option.bind_eq_some_iff.mp he
    obtain ⟨hmem, hsubject⟩ := queueFind_some hfind
    exact ⟨e, he, hmem, by rw [hx, hsubject], (Bool.and_eq_true_iff.mp h).1⟩
  · contradiction

/-- On a busy channel the re-judging leaves a deferring station with an eligible entry in DEFER (R76). -/
theorem settle_defers {s : State} (hb : s.busyPin = true) (hs : s.link.sending = false) (ha : s.link.access = .defer)
    {e : QueueEntry} (he : e ∈ s.link.queue) (hel : eligible (judgePosture s) e = true) :
    (settle s).link.sending = false ∧ (settle s).link.access = .defer ∧ (settle s).link.lfsr = s.link.lfsr := by
  have run : s.run = .run := by
    unfold eligible at hel
    exact of_decide_eq_true (Bool.and_eq_true_iff.mp (Bool.and_eq_true_iff.mp hel).1).1
  obtain ⟨c, hc⟩ : ∃ c, firstEligible (judgePosture s) = some c :=
    Option.isSome_iff_exists.mp (List.find?_isSome.mpr ⟨e, he, hel⟩)
  have chosen : judgeAccess (judgePosture s) = deferAccess c (judgePosture s) := by
    unfold judgeAccess chooseCandidate
    rw [hc]
    simp [judgePosture, run, hs, ha, hb]
  unfold settle
  rw [if_neg (by rw [run]; decide), chosen]
  exact ⟨hs, rfl, rfl⟩

/-! ## The counts of a strobe, case by case -/

section StrobeCounts
variable {s : State}

theorem strobeTimers_link (hb : s.link.access ≠ .backoff) : ∃ q, (strobeTimers s).link =
    receptionCounted (completionCounted (countStrobe s.link) q) := by
  obtain ⟨q, hq⟩ := strobeCounted_link s
  refine ⟨q, ?_⟩
  have access : (strobeCounted s).link.access ≠ .backoff := by
    rw [hq]
    unfold receptionCounted completionCounted
    split <;> split <;> exact hb
  rw [strobeTimers_eq, endBackoffIfDue_of_no_backoff (.inl access), hq]

theorem receptionCounted_eq (l : Link) : receptionCounted l = { l with
    receiving := (receptionCounted l).receiving, latch := (receptionCounted l).latch
    receptionTimer := (receptionCounted l).receptionTimer } := by
  unfold receptionCounted
  split <;> rfl

theorem completionCounted_eq (l : Link) (q : List QueueEntry) : completionCounted l q = { l with
    sending := (completionCounted l q).sending, inFlight := (completionCounted l q).inFlight
    completionTimer := (completionCounted l q).completionTimer, queue := (completionCounted l q).queue } := by
  unfold completionCounted
  split <;> rfl

/-- A frame in flight goes on below 64 strobes (R56). -/
theorem strobeTimers_sends_on (hs : s.link.sending = true) (hb : s.link.access ≠ .backoff)
    (ht : s.link.completionTimer + 1 < 64) : (strobeTimers s).link.sending = true ∧
      (strobeTimers s).link.inFlight = s.link.inFlight ∧
      (strobeTimers s).link.completionTimer = s.link.completionTimer + 1 := by
  obtain ⟨q, hq⟩ := strobeTimers_link hb
  have below : completionCounted (countStrobe s.link) q = countStrobe s.link := by
    refine if_neg ?_
    simp only [countStrobe, hs, if_true, Bool.true_and, decide_eq_true_eq, Config.linkTimeout]
    omega
  rw [hq, receptionCounted_eq, below]
  exact ⟨hs, rfl, if_pos hs⟩

/-- A frame in flight completes at 64 strobes, counted by the fault unit (R56, R173). -/
theorem strobeTimers_completes (hs : s.link.sending = true) (hb : s.link.access ≠ .backoff)
    (ht : 64 ≤ s.link.completionTimer + 1) : (strobeTimers s).link.sending = false ∧
      (strobeTimers s).link.inFlight = none ∧ (strobeTimers s).link.completionTimer = 0 ∧
      (strobeTimers s).link.lfsr = s.link.lfsr ∧ (strobeTimers s).fault.timeouts = min 3 (s.fault.timeouts + 1) := by
  obtain ⟨q, hq⟩ := strobeTimers_link hb
  have due : completionDue (s.setLink (countStrobe s.link)) = true := by
    simp only [completionDue, State.setLink_link, countStrobe, hs, if_true, Bool.true_and, decide_eq_true_eq,
      Config.linkTimeout]
    exact ht
  have completed : completionCounted (countStrobe s.link) q = { countStrobe s.link with
      sending := false, inFlight := none, completionTimer := 0, queue := q } := if_pos due
  obtain ⟨-, -, -, timeouts⟩ := strobeCounted_kept s
  rw [hq, receptionCounted_eq, completed]
  refine ⟨rfl, rfl, rfl, rfl, ?_⟩
  rw [strobeTimers_eq, endBackoffIfDue_eq]
  exact (timeouts due).trans (raise_eq _ _)

theorem strobeTimers_run (s : State) : (strobeTimers s).run = s.run := by
  rw [strobeTimers_eq, endBackoffIfDue_eq]
  exact (strobeCounted_kept s).1

/-- The re-judging after a strobe's counts. -/
theorem settledStrobe_settled (hr : s.run ≠ .config) : LinkSettled (strobeTimers s).link (settle (strobeTimers s)) :=
  settle_linkSettled (by rwa [strobeTimers_run])

/-- The counts of a strobe, the end of a backoff and the re-judging: the way of the link from the counted one. -/
theorem settledStrobe_moved (hr : s.run ≠ .config) :
    AccessMoved (strobeCounted s).link (settle (strobeTimers s)).link :=
  (endBackoffIfDue_moved _).trans (settledStrobe_settled hr).moved

/-- With no frame in flight the completion timer stands, or a frame is handed over (R56). -/
theorem settledStrobe_ready (hr : s.run ≠ .config) (hs : s.link.sending = false) :
    (settle (strobeTimers s)).link.completionTimer = s.link.completionTimer ∨
      (settle (strobeTimers s)).link.sending = true := by
  obtain ⟨q, hq⟩ := strobeCounted_link s
  have idle : completionCounted (countStrobe s.link) q = countStrobe s.link := if_neg (by simp [countStrobe, hs])
  rcases settledStrobe_moved hr with h | h
  · left
    rw [h, hq, receptionCounted_eq, idle]
    exact if_neg (by simp [hs])
  · exact .inr h.1

/-- A reception ends at 64 strobes, its latch discarded (R59). -/
theorem settledStrobe_reception_ends (hr : s.run ≠ .config) (hrec : s.link.receiving = true)
    (ht : 64 ≤ s.link.receptionTimer + 1) : (settle (strobeTimers s)).link.receiving = false ∧
      (settle (strobeTimers s)).link.latch = none := by
  obtain ⟨q, hq⟩ := strobeCounted_link s
  have due : ((completionCounted (countStrobe s.link) q).receiving &&
      decide (Config.linkTimeout ≤ (completionCounted (countStrobe s.link) q).receptionTimer)) = true := by
    rw [completionCounted_eq]
    simp only [countStrobe, hrec, if_true, Bool.true_and, decide_eq_true_eq, Config.linkTimeout]
    exact ht
  rcases settledStrobe_moved hr with h | h
  · rw [h, hq, receptionCounted, if_pos due]
    exact ⟨rfl, rfl⟩
  · exact h.2

/-- Below 64 strobes it goes on, where no frame is handed over (R59). -/
theorem settledStrobe_receives_on (hr : s.run ≠ .config) (hrec : s.link.receiving = true)
    (ht : s.link.receptionTimer + 1 < 64) (hs : (settle (strobeTimers s)).link.sending = false) :
    (settle (strobeTimers s)).link.receiving = true ∧ (settle (strobeTimers s)).link.latch = s.link.latch ∧
      (settle (strobeTimers s)).link.receptionTimer = s.link.receptionTimer + 1 := by
  obtain ⟨q, hq⟩ := strobeCounted_link s
  have below : receptionCounted (completionCounted (countStrobe s.link) q) = completionCounted (countStrobe s.link) q := by
    refine if_neg ?_
    rw [completionCounted_eq]
    simp only [countStrobe, hrec, if_true, Bool.true_and, decide_eq_true_eq, Config.linkTimeout]
    omega
  rcases settledStrobe_moved hr with h | h
  · rw [h, hq, below, completionCounted_eq]
    exact ⟨hrec, rfl, if_pos hrec⟩
  · exact absurd (h.1.symm.trans hs) (by decide)

/-- A frame in flight goes on through the re-judging too. -/
theorem settledStrobe_sends_on (hr : s.run ≠ .config) (hs : s.link.sending = true) (hb : s.link.access ≠ .backoff)
    (ht : s.link.completionTimer + 1 < 64) : (settle (strobeTimers s)).link.sending = true ∧
      (settle (strobeTimers s)).link.inFlight = s.link.inFlight ∧
      (settle (strobeTimers s)).link.completionTimer = s.link.completionTimer + 1 := by
  obtain ⟨-, quiet, -, -⟩ := settledStrobe_settled hr
  have sends := strobeTimers_sends_on hs hb ht
  rw [quiet (.inr (.inl sends.1))]
  exact sends

/-- The frame in flight completes (R56). -/
theorem settledStrobe_completes (hr : s.run ≠ .config) (hs : s.link.sending = true) (hb : s.link.access ≠ .backoff)
    (ht : 64 ≤ s.link.completionTimer + 1) : FrameCompleted s (settle (strobeTimers s)) := by
  obtain ⟨hsend, hflight, htimer, hlfsr, -⟩ := strobeTimers_completes hs hb ht
  obtain ⟨-, -, same, handed⟩ := settledStrobe_settled hr
  rw [hsend] at same handed
  cases h : (settle (strobeTimers s)).link.sending with
  | false =>
    obtain ⟨link, -⟩ := same h
    refine ⟨?_, fun _ => ?_, fun h' => absurd (h.symm.trans h') (by decide)⟩
    · rw [link]; exact htimer
    · rw [link]; exact hflight
  | true =>
    obtain ⟨run, -, -, -, e, -, -, -, -, -, link⟩ := handed (by rw [h]; decide)
    refine ⟨by rw [link], fun h' => absurd (h.symm.trans h') (by decide), fun _ => ⟨?_, ?_⟩⟩
    · rw [← strobeTimers_run s, ← run, settle_eq]
    · rw [link]
      exact congrArg lfsrStep hlfsr

/-- The link's counts where a backoff runs and no frame is in flight. -/
theorem strobeCounted_of_backoff (hs : s.link.sending = false) (hb : s.link.access = .backoff) :
    strobeCounted s = { s with link := { s.link with
      receiving := (strobeCounted s).link.receiving, latch := (strobeCounted s).link.latch
      receptionTimer := (strobeCounted s).link.receptionTimer, backoff := s.link.backoff - 1 } } := by
  have notDue : completionDue (s.setLink (countStrobe s.link)) = false := by simp [completionDue, countStrobe, hs]
  have counted : countStrobe s.link = { s.link with
      receptionTimer := (countStrobe s.link).receptionTimer, backoff := s.link.backoff - 1 } := by
    simp [countStrobe, hs, hb]
  unfold strobeCounted
  rw [completeIfDue_of_not_due notDue, endReceptionIfDue_eq, receptionCounted_eq, counted]
  rfl

/-- A backoff above 1 that stands runs on (R78). -/
theorem settledStrobe_backoff_runs (hp : s.link.vigilant = vigilantNow s) (hs : s.link.sending = false)
    (hb : s.link.access = .backoff) (hstand : backoffStands s = true) (hrun : s.run ≠ .config) (h : 1 < s.link.backoff) :
    let t := settle (strobeTimers s)
    t.link.lfsr = s.link.lfsr ∧ t.link.access = .backoff ∧ t.link.backoff = s.link.backoff - 1 ∧
      t.link.candidate = s.link.candidate ∧ t.link.sending = false := by
  have counted := strobeCounted_of_backoff hs hb
  have runsOn : strobeTimers s = strobeCounted s := by
    rw [strobeTimers_eq, endBackoffIfDue_of_no_backoff]
    right
    rw [counted]
    change s.link.backoff - 1 ≠ 0
    omega
  obtain ⟨-, quiet, -, -⟩ := settledStrobe_settled hrun
  rw [settle_eq, runsOn, counted] at quiet
  have stands := quiet (.inr (.inr ⟨hb, ?_⟩))
  · dsimp only
    rw [runsOn, settle_eq, counted]
    dsimp only
    rw [stands]
    exact ⟨rfl, hb, rfl, rfl, hs⟩
  · rw [← hstand]
    exact backoffStands_congr (eligible_congr rfl hp.symm rfl rfl rfl) rfl rfl

/-- A backoff that runs out comes to its candidate (R78). -/
theorem strobeTimers_backoff_ends (hs : s.link.sending = false) (hb : s.link.access = .backoff) {e : QueueEntry}
    (he : candidateEntry s = some e) (h : s.link.backoff ≤ 1) : strobeTimers s =
      if s.busyPin then deferAccess e (strobeCounted s) else handOver e (strobeCounted s) := by
  have counted := strobeCounted_of_backoff hs hb
  have due : backoffDue (strobeCounted s) = true := by
    rw [counted]
    simp [backoffDue, hb, Nat.sub_eq_zero_of_le h]
  have entry : candidateEntry (strobeCounted s) = some e := by rw [counted]; exact he
  have busy : (strobeCounted s).busyPin = s.busyPin := by rw [counted]
  rw [strobeTimers_eq, endBackoffIfDue, if_pos due, endBackoff, entry]
  dsimp only
  rw [busy]

/-- A backoff that runs out hands over on an idle channel (R78). -/
theorem settledStrobe_backoff_hands_over (hs : s.link.sending = false) (hb : s.link.access = .backoff)
    (hstand : backoffStands s = true) (hrun : s.run ≠ .config) (h : s.link.backoff ≤ 1) (hbusy : s.busyPin = false) :
    let t := settle (strobeTimers s)
    t.link.lfsr = s.link.lfsr ∧ t.link.sending = true ∧ t.link.inFlight.map InFlight.subject = s.link.candidate := by
  obtain ⟨e, he, -, hcandidate, -⟩ := backoffStands_candidate hstand
  have handed := (strobeTimers_backoff_ends hs hb he h).trans (if_neg (by simp [hbusy]))
  have lfsr : (strobeCounted s).link.lfsr = s.link.lfsr := by rw [strobeCounted_of_backoff hs hb]
  obtain ⟨-, quiet, -, -⟩ := settledStrobe_settled hrun
  dsimp only
  rw [quiet (.inr (.inl (by rw [handed]; rfl))), handed, hcandidate]
  exact ⟨lfsr, rfl, rfl⟩

/-- On a busy channel it defers (R78). -/
theorem settledStrobe_backoff_defers (hp : s.link.vigilant = vigilantNow s) (hs : s.link.sending = false)
    (hb : s.link.access = .backoff) (hstand : backoffStands s = true) (h : s.link.backoff ≤ 1) (hbusy : s.busyPin = true) :
    let t := settle (strobeTimers s)
    t.link.sending = false ∧ t.link.access = .defer ∧ t.link.lfsr = s.link.lfsr := by
  obtain ⟨e, he, hmem, -, helig⟩ := backoffStands_candidate hstand
  have deferred := (strobeTimers_backoff_ends hs hb he h).trans (if_pos hbusy)
  rw [strobeCounted_of_backoff hs hb] at deferred
  have same : eligible (judgePosture (strobeTimers s)) = eligible s := by
    rw [deferred]
    exact eligible_congr rfl hp.symm rfl rfl rfl
  have settled := settle_defers (s := strobeTimers s) (by rw [deferred]; exact hbusy) (by rw [deferred]; exact hs)
    (by rw [deferred]; rfl) (e := e) (by rw [deferred]; exact hmem) (by rw [same]; exact helig)
  have lfsr : (strobeTimers s).link.lfsr = s.link.lfsr := by rw [deferred]; rfl
  rwa [lfsr] at settled

end StrobeCounts

/-! ## The strobe (R17 to R19) -/

/-- A strobe after the first of its cycle, before the link's counts. -/
def strobeIssued (k : Nat) (s : State) : State :=
  let t := patchStrobe (advanceToSome s (strobeDue s))
  { t with sampling := issueStrobe (k + 1) t.sampling }

theorem nextStrobe_eq {k : Nat} {s : State} (hk : s.sampling.strobe = some k) (h : k < 31) :
    nextStrobe s = strobeTimers (strobeIssued k s) := by
  unfold nextStrobe
  rw [hk]
  exact if_pos (show k + 1 < 32 by omega)

theorem strobeIssued_eq (k : Nat) (s : State) : strobeIssued k s = { s with
    timebase := (strobeIssued k s).timebase, port := (strobeIssued k s).port
    sampling := issueStrobe (k + 1) (patchStrobe s).sampling, engine := (patchStrobe s).engine } := by
  obtain ⟨sampling, engine⟩ := patchStrobe_congr (s := advanceToSome s (strobeDue s)) (t := s) (by simp) (by simp)
  rw [← sampling, ← engine]
  unfold strobeIssued
  rw [patchStrobe_eq, advanceToSome_eq]

theorem strobeIssued_image (k : Nat) (s : State) : (strobeIssued k s).port.image = s.port.image := by
  unfold strobeIssued
  dsimp only
  rw [patchStrobe_image, advanceToSome_port]

theorem patchStrobe_held (s : State) : (patchStrobe s).sampling.held = s.sampling.held := by
  unfold patchStrobe
  split
  · dsimp only
    split <;> rfl
  · rfl

theorem patchStrobe_of_set {s : State} (h : s.sampling.hasSet = true) : patchStrobe s = s := by
  unfold patchStrobe
  exact if_neg (by simp [h])

/-- A strobe without a set is patched with the held set and counted; at 32 missing the port is in STALL. -/
theorem patchStrobe_of_no_set {s : State} {k : Nat} (hk : s.sampling.strobe = some k) (h : s.sampling.hasSet = false) :
    let p := (patchStrobe s).sampling
    (patchStrobe s).engine = accumulate s.sampling.held s.engine ∧
    p.patched = s.sampling.patched + 1 ∧ p.missingRun = min 32 (s.sampling.missingRun + 1) ∧
    (p.missingRun = 32 → p.stalled = true) := by
  have missing : raise Config.stallRun s.sampling.missingRun = min 32 (s.sampling.missingRun + 1) := raise_eq _ _
  unfold patchStrobe
  rw [if_pos (by rw [hk, h]; rfl)]
  dsimp only
  split
  · exact ⟨rfl, rfl, missing, fun _ => rfl⟩
  · next hstall =>
    refine ⟨rfl, rfl, missing, fun h32 => ?_⟩
    by_contra hs
    exact hstall (Bool.and_eq_true_iff.mpr ⟨decide_eq_true h32, by simpa using hs⟩)

theorem strobeTimers_engine (s : State) : (strobeTimers s).engine = s.engine := by
  obtain ⟨-, engine, -, -⟩ := strobeCounted_kept s
  rw [strobeTimers_eq, endBackoffIfDue_eq]
  exact engine

theorem strobeTimers_timeline (s : State) : (strobeTimers s).timeline = s.timeline := by
  obtain ⟨-, -, timeline, -⟩ := strobeCounted_kept s
  rw [strobeTimers_eq, endBackoffIfDue_eq]
  exact timeline

theorem exec_sampleStrobe {k : Nat} {s : State} (hw : s.working = true) (hk : s.sampling.strobe = some k) (h : k < 31) :
    exec .sampleStrobe s = .next (settle (strobeTimers (strobeIssued k s))) := by
  change Host.Outcome.next _ = _
  rw [whileWorking_of_working hw, nextStrobe_eq hk h]

/-- STALL entered where 32 sets are missing (R19). -/
theorem sampleStall_enters {s : State} (hw : s.working = true) (hm : 32 ≤ s.sampling.missingRun)
    (hs : s.sampling.stalled = false) : ∃ t, exec .sampleStall s = .next t ∧
      t.sampling = { s.sampling with stalled := true, stallSeen := true } ∧
      t.port = (record s .sampleStall .absent none (.value 32)).port ∧
      t = { s with sampling := t.sampling, port := t.port, link := t.link } ∧ LinkSettled s.link t := by
  have due : stallDue s.sampling = true := by
    unfold stallDue
    rw [hs, decide_eq_true (show Config.stallRun ≤ s.sampling.missingRun from hm)]
    rfl
  have done : exec .sampleStall s = .next (settle (enterStall s)) := by
    change Host.Outcome.next _ = _
    rw [whileWorking_of_working hw, if_pos due]
  refine ⟨_, done, ?_, ?_, ?_, settle_linkSettled (s := enterStall s) (State.working_run hw)⟩
  · rw [settle_eq]; rfl
  · rw [settle_eq]; rfl
  · rw [settle_eq]; rfl

/-- Settles O35: the strobe issued and its patch, then the counts of the link on the state they leave. -/
theorem strobeIsIssuedAndPatched : Obligations.StrobeIsIssuedAndPatched := by
  refine ⟨fun k s hw hk hlt => ⟨_, exec_sampleStrobe hw hk hlt, ?_⟩, fun s hw hm hs => sampleStall_enters hw hm hs⟩
  have issued := strobeIssued_eq k s
  have kept := keepsCore_strobeTimers (strobeIssued k s)
  have sampling : (settle (strobeTimers (strobeIssued k s))).sampling = issueStrobe (k + 1) (patchStrobe s).sampling := by
    rw [settle_eq]
    exact kept.sampling.trans (by rw [issued])
  have engine : (settle (strobeTimers (strobeIssued k s))).engine = (patchStrobe s).engine := by
    rw [settle_eq]
    exact (strobeTimers_engine _).trans (by rw [issued])
  have link : (strobeIssued k s).link = s.link := by rw [issued]
  have run : (strobeIssued k s).run ≠ .config := by rw [issued]; exact State.working_run hw
  have posture : PostureOk s → (strobeIssued k s).link.vigilant = vigilantNow (strobeIssued k s) := by
    intro hp
    rw [issued]
    exact (hp (State.working_run hw)).1
  have stands : backoffStands (strobeIssued k s) = backoffStands s := by
    rw [issued]
    exact backoffStands_congr (eligible_congr rfl rfl rfl rfl rfl) rfl rfl
  rw [sampling, engine]
  refine ⟨rfl, rfl, ?_, fun h => ?_, fun h _ => ?_, ?_, ?_, ?_, ?_, fun hs hb ht => ?_, fun hs hb ht => ⟨?_, ?_⟩, fun hs => ?_,
    fun hrec ht => ?_, fun hrec ht hs => ?_, fun hp hs hb hstand => ?_⟩
  · exact patchStrobe_held s
  · rw [patchStrobe_of_set h]
    exact ⟨rfl, rfl, rfl⟩
  · obtain ⟨hacc, hpatched, hmissing, hstall⟩ := patchStrobe_of_no_set hk h
    exact ⟨hacc, hpatched, hmissing, hstall⟩
  · rw [settle_eq]
    exact kept.tracker.trans (by rw [issued])
  · rw [settle_eq]
    exact (strobeTimers_run _).trans (by rw [issued])
  · rw [settle_eq]
    exact (strobeTimers_timeline _).trans (by rw [issued])
  · rw [settle_port, kept.image, strobeIssued_image]
  · rw [← link] at hs hb ht ⊢
    exact settledStrobe_sends_on run hs hb ht
  · have runs : (strobeIssued k s).run = s.run := by rw [issued]
    rw [← link] at hs hb ht
    obtain ⟨timer, ready, handed⟩ := settledStrobe_completes run hs hb ht
    rw [link, runs] at handed
    exact ⟨timer, ready, handed⟩
  · rw [settle_eq, ← show (strobeIssued k s).fault = s.fault by rw [issued]]
    rw [← link] at hs hb ht
    obtain ⟨-, -, -, -, timeouts⟩ := strobeTimers_completes hs hb ht
    exact timeouts
  · rw [← link] at hs ⊢
    exact settledStrobe_ready run hs
  · rw [← link] at hrec ht
    exact settledStrobe_reception_ends run hrec ht
  · rw [← link] at hrec ht ⊢
    exact settledStrobe_receives_on run hrec ht hs
  · rw [← stands] at hstand
    have busy : (strobeIssued k s).busyPin = s.busyPin := by rw [issued]
    rw [← link] at hs hb ⊢
    rw [← busy]
    have hp := posture hp
    refine ⟨?_, fun h => (settledStrobe_backoff_runs hp hs hb hstand run h).2, fun h hbusy => ?_, fun h hbusy => ?_⟩
    · rcases Nat.lt_or_ge 1 (strobeIssued k s).link.backoff with h | h
      · exact (settledStrobe_backoff_runs hp hs hb hstand run h).1
      · cases hbusy : (strobeIssued k s).busyPin with
        | false => exact (settledStrobe_backoff_hands_over hs hb hstand run h hbusy).1
        | true =>
          obtain ⟨-, -, lfsr⟩ := settledStrobe_backoff_defers hp hs hb hstand h hbusy
          exact lfsr
    · exact (settledStrobe_backoff_hands_over hs hb hstand run h.le hbusy).2
    · obtain ⟨hsend, hdefer, -⟩ := settledStrobe_backoff_defers hp hs hb hstand h.le hbusy
      exact ⟨hsend, hdefer⟩

end Sys2Proof.Machine

/-! What an applied jump clears (R16, R32, R52, R66, R70, R86, R91, R117), and that nothing after it at the same boundary brings any
of it back: the statement O31. -/

namespace Sys2Proof.Machine

/-! ## Queues without a REPORT, tables without an aligned peer -/

/-- The queue holds no REPORT. -/
def NoReport (q : List QueueEntry) : Prop := ∀ e ∈ q, e.subject ≠ .report

/-- Every peer of the table is UNALIGNED. -/
def Unaligned (es : List PeerEntry) : Prop := ∀ e ∈ es, e.aligned = false

theorem NoReport.map {q : List QueueEntry} (h : NoReport q) {f : QueueEntry → QueueEntry}
    (hf : ∀ e ∈ q, e.subject ≠ .report → (f e).subject ≠ .report) : NoReport (q.map f) := by
  intro e he
  obtain ⟨x, hx, rfl⟩ := List.mem_map.mp he
  exact hf x hx (h x hx)

theorem NoReport.queueRemove {q : List QueueEntry} (h : NoReport q) (x : QueueSubject) : NoReport (queueRemove x q) :=
  fun e he => h e (List.mem_of_mem_filter he)

theorem NoReport.queueModify {q : List QueueEntry} (h : NoReport q) (x : QueueSubject) {f : QueueEntry → QueueEntry}
    (hf : ∀ e : QueueEntry, e.subject ≠ .report → (f e).subject ≠ .report) : NoReport (queueModify x f q) :=
  h.map fun e _ he => by
    split
    · exact hf e he
    · exact he

theorem NoReport.queueOffer {q : List QueueEntry} (h : NoReport q) {e : QueueEntry} {f : QueueEntry → QueueEntry}
    (he : e.subject ≠ .report) (hf : ∀ x, (f x).subject ≠ .report) : NoReport (queueOffer e f q) := by
  unfold Machine.queueOffer
  split
  · exact h.queueModify _ fun x _ => hf x
  · intro x hx
    rcases List.mem_cons.mp ((insertEntry_perm e q).mem_iff.mp hx) with rfl | hx
    · exact he
    · exact h x hx

theorem Unaligned.map {es : List PeerEntry} (h : Unaligned es) {f : PeerEntry → PeerEntry}
    (hf : ∀ e : PeerEntry, e.aligned = false → (f e).aligned = false) : Unaligned (es.map f) := by
  intro e he
  obtain ⟨x, hx, rfl⟩ := List.mem_map.mp he
  exact hf x (h x hx)

theorem Unaligned.modifyAt {es : List PeerEntry} (h : Unaligned es) {f : PeerEntry → PeerEntry} (k : Nat)
    (hf : ∀ e : PeerEntry, e.aligned = false → (f e).aligned = false) : Unaligned (modifyAt f k es) := by
  induction es generalizing k with
  | nil => cases k <;> exact h
  | cons x es ih =>
    have hx : x.aligned = false := h x (List.mem_cons_self ..)
    have hes : Unaligned es := fun e he => h e (List.mem_cons_of_mem _ he)
    cases k with
    | zero => exact List.forall_mem_cons.mpr ⟨hf x hx, hes⟩
    | succ k => exact List.forall_mem_cons.mpr ⟨hx, ih hes k⟩

/-! ## The old timeline cleared -/

/-- Of the old timeline nothing is left: the ring empty and the discard mark `discard`, BLIND with no snapshot, the Timeline Unit's marks
clear, map and boundaries gone, every peer UNALIGNED, the report window `opened`, no REPORT queued; and RUN where `joined`. -/
structure OldTimelineGone (discard opened joined : Bool) (engine : Engine) (runState : RunState) (detector : Detector)
    (timeline : Timeline) (assessor : Assessor) (entries : List PeerEntry) (windowOpen : Bool) (queue : List QueueEntry) :
    Prop where
  ring : engine.ring = []
  discard : engine.discard = discard
  blind : detector.assessment = .blind
  snapshot : detector.snapshot = none
  jumpPending : timeline.jumpPending = none
  slewGuard : timeline.slewGuard = false
  deferred : timeline.deferred = false
  sourceError : timeline.sourceError = none
  map : assessor.map = none
  phaseBoundary : assessor.phaseBoundary = ⟨none, none, none⟩
  residualBoundary : assessor.residualBoundary = none
  unaligned : Unaligned entries
  window : windowOpen = opened
  noReport : NoReport queue
  joined : joined = true → runState = .run ∧ timeline.join = .done

/-- The state after the jump: the old timeline gone from it. -/
def Cleared (d o j : Bool) (s : State) : Prop :=
  OldTimelineGone d o j s.engine s.run s.detector s.timeline s.assessor s.peers.entries s.link.windowOpen s.link.queue

/-- A function leaves the old timeline gone. -/
def KeepsCleared (f : State → State) : Prop := ∀ ⦃d o j s⦄, Cleared d o j s → Cleared d o j (f s)

theorem Cleared.setQueue {d o j : Bool} {s : State} (h : Cleared d o j s) {q : List QueueEntry} (hq : NoReport q) :
    Cleared d o j (s.setQueue q) := { h with noReport := hq }

theorem Cleared.setEntries {d o j : Bool} {s : State} (h : Cleared d o j s) {es : List PeerEntry} (he : Unaligned es) :
    Cleared d o j (s.setEntries es) := { h with unaligned := he }

theorem Cleared.setLink {d o j : Bool} {s : State} (h : Cleared d o j s) {l : Link}
    (hw : l.windowOpen = s.link.windowOpen) (hq : NoReport l.queue) : Cleared d o j (s.setLink l) :=
  { h with noReport := hq, window := hw.trans h.window }

/-- A peer entry changed but for its alignment. -/
theorem keepsCleared_modifyPeer (k : Nat) {f : PeerEntry → PeerEntry}
    (hf : ∀ e : PeerEntry, e.aligned = false → (f e).aligned = false) : KeepsCleared (modifyPeer k f) :=
  fun _ _ _ _ h => h.setEntries (h.unaligned.modifyAt k hf)

/-- Both branches cleared. -/
theorem Cleared.ite {d o j : Bool} {c : Prop} [Decidable c] {s t : State} (hs : Cleared d o j s) (ht : Cleared d o j t) :
    Cleared d o j (if c then s else t) := by
  split
  · exact hs
  · exact ht

theorem KeepsCleared.ite {f g : State → State} (p : State → Prop) [DecidablePred p] (hf : KeepsCleared f)
    (hg : KeepsCleared g) : KeepsCleared (fun s => if p s then f s else g s) :=
  fun _ _ _ _ h => (hf h).ite (hg h)

theorem keepsCleared_id : KeepsCleared (fun s => s) := fun _ _ _ _ h => h

/-! ## Register and Detector -/

theorem keepsCleared_recordPairs (ps : List ClaimPair) : KeepsCleared (recordPairs ps) := by
  induction ps with
  | nil => exact keepsCleared_id
  | cons p ps ih => exact fun _ _ _ s h => ih (s := record s _ _ _ _) h

theorem keepsCleared_rejudgePairs : KeepsCleared rejudgePairs :=
  fun _ _ _ s h => keepsCleared_recordPairs _ (s := { s with register := _ }) h

theorem keepsCleared_withdrawSeries (k : ClaimKind) (e : SpanEnd) : KeepsCleared (withdrawSeries k e) :=
  fun _ _ _ _ h => h.setQueue (h.noReport.queueRemove _)

theorem keepsCleared_unpin (p : Nat) : KeepsCleared (unpin p) :=
  fun _ _ _ _ h => h.setEntries (h.unaligned.map fun e he => by split <;> exact he)

theorem keepsCleared_clearCellsBehind (k : ClaimKind) (e : SpanEnd) :
    KeepsCleared (fun s => { s with assessor := clearCellsBehind k e s.assessor }) :=
  fun _ _ _ _ h => by cases k <;> cases e <;> exact { h with }

theorem keepsCleared_releaseHold (r : ClaimRecord) : KeepsCleared (releaseHold r) := by
  intro d o j s h
  unfold releaseHold
  split
  · have withdrawn := keepsCleared_withdrawSeries r.key.kind r.key.fin h
    dsimp only
    split
    · exact withdrawn
    · exact keepsCleared_clearCellsBehind _ _ (keepsCleared_unpin _ withdrawn)
  · exact h

theorem keepsCleared_releaseHolds (rs : List ClaimRecord) : KeepsCleared (releaseHolds rs) := by
  induction rs with
  | nil => exact keepsCleared_id
  | cons r rs ih => exact fun _ _ _ _ h => ih (keepsCleared_releaseHold r h)

theorem keepsCleared_removeRecords (p : ClaimRecord → Bool) : KeepsCleared (removeRecords p) := by
  intro d o j s h
  unfold removeRecords
  split
  · exact keepsCleared_rejudgePairs (s := State.setRecords _ _) (keepsCleared_releaseHolds _ h)
  · exact h

theorem keepsCleared_withdrawAll (rs : List ClaimRecord) : KeepsCleared (withdrawAll rs) := by
  induction rs with
  | nil => exact keepsCleared_id
  | cons r rs ih =>
    intro d o j s h
    refine ih ?_
    split
    · exact keepsCleared_withdrawSeries _ _ h
    · exact h

theorem keepsCleared_coverRecords (p : ClaimRecord → Bool) : KeepsCleared (coverRecords p) := by
  intro d o j s h
  dsimp only [coverRecords]
  split
  · exact keepsCleared_rejudgePairs (s := State.setRecords _ _) (keepsCleared_withdrawAll _ h)
  · exact h

/-- A BLIND station closes no disturbance (R42). -/
theorem testCloseOnChange_of_cleared {d o j : Bool} {s : State} (h : Cleared d o j s) : testCloseOnChange s = s := by
  unfold testCloseOnChange closeDue
  exact if_neg (by simp [h.blind])

theorem keepsCleared_testCloseOnChange : KeepsCleared testCloseOnChange := by
  intro d o j s h
  rw [testCloseOnChange_of_cleared h]
  exact h

/-! ## The Trip Linkage -/

theorem keepsCleared_setTrip (o : Output) (f : State → TripRecord) : KeepsCleared (fun s => setTrip o (f s) s) := by
  intro d o' j s h
  cases o <;> exact h

theorem keepsCleared_timerByTripped (c : TrippedContent) (k : Nat) : KeepsCleared (timerByTripped c k) := by
  intro d o j s h
  unfold timerByTripped
  split
  · exact h
  · split
    · split <;> exact h
    · exact h
  · split <;> exact h

theorem keepsCleared_foldl {α : Type} (f : State → α → State) (h : ∀ a, KeepsCleared (fun s => f s a)) (l : List α) :
    KeepsCleared (fun s => l.foldl f s) := by
  induction l with
  | nil => exact keepsCleared_id
  | cons a l ih => exact fun _ _ _ _ hs => ih (h a hs)

theorem keepsCleared_coverZone (c : TrippedContent) : KeepsCleared (coverZone c) := by
  intro d o j s h
  have covered := keepsCleared_coverRecords (fun r => r.span.within c.zone) h
  unfold coverZone
  split
  · exact h
  · dsimp only
    split
    · exact keepsCleared_testCloseOnChange covered
    · exact covered

theorem keepsCleared_offerSeries {i : QueueItem} (hi : i.subject ≠ .report) : KeepsCleared (offerSeries i) :=
  fun _ _ _ _ h => h.setQueue (h.noReport.queueOffer hi fun _ => hi)

theorem keepsCleared_offerTripped {ev : State → State} (hev : KeepsCleared ev) (c : TrippedContent) :
    KeepsCleared (offerTripped ev c) := by
  intro d o j s h
  have offered := keepsCleared_offerSeries (i := .tripped c) (by simp [QueueItem.subject]) h
  have timed := keepsCleared_foldl (fun s k => timerByTripped c k s) (keepsCleared_timerByTripped c) (List.range 8)
    (s := takeIntoTripList s.port.image.stationId c (offerSeries (.tripped c) s)) offered
  exact hev (keepsCleared_coverZone c timed)

theorem keepsCleared_confirmTrip {ev : State → State} (hev : KeepsCleared ev) (o : Output) :
    KeepsCleared (confirmTrip ev o) := fun _ _ _ _ h =>
  keepsCleared_offerTripped hev _ (s := record _ _ _ _ _)
    (keepsCleared_setTrip o (fun s => { s.linkage.trip o with state := .confirmed, driven := false }) h)

theorem keepsCleared_assertOutput (k : Nat) (e : LinkageEntry) (x : Span) (o : Output) :
    KeepsCleared (assertOutput k e x o) := by
  intro d o' j s h
  unfold assertOutput
  split
  · exact keepsCleared_setTrip o (fun _ => ⟨.asserted, some k, 0, some e.zone, some x, true⟩) h
  · exact h

theorem keepsCleared_confirmAtOnce {ev : State → State} (hev : KeepsCleared ev) (k : Nat) (b : TripState) (o : Output) :
    KeepsCleared (confirmAtOnce ev k b o) := by
  intro d o' j s h
  dsimp only [confirmAtOnce]
  split
  · exact keepsCleared_confirmTrip hev o h
  · exact h

theorem keepsCleared_actPrimary {ev : State → State} (hev : KeepsCleared ev) (k : Nat) (e : LinkageEntry) (x : Span) :
    KeepsCleared (actPrimary ev k e x) := by
  intro d o j s h
  dsimp only [actPrimary]
  split
  · have asserted := keepsCleared_assertOutput k e x .trip1 (keepsCleared_assertOutput k e x .trip0 h)
    exact keepsCleared_confirmAtOnce hev _ _ _ (keepsCleared_confirmAtOnce hev _ _ _ (s := modifyRuntime _ _ _) asserted)
  · split <;> exact h

theorem keepsCleared_evaluateEntry {ev : State → State} (hev : KeepsCleared ev) (k : Nat) (e : LinkageEntry) :
    KeepsCleared (evaluateEntry ev k e) := by
  intro d o j s h
  unfold evaluateEntry
  split
  · exact h
  · split
    · split
      · exact keepsCleared_actPrimary hev _ _ _ h
      · exact h
    · dsimp only
      split
      · exact keepsCleared_actPrimary hev _ _ _ (s := modifyRuntime _ _ _) h
      · exact h

theorem keepsCleared_evaluateEntries {ev : State → State} (hev : KeepsCleared ev) (es : List LinkageEntry) (k : Nat) :
    KeepsCleared (evaluateEntries ev k es) := by
  induction es generalizing k with
  | nil => exact keepsCleared_id
  | cons e es ih => exact fun _ _ _ _ h => ih _ (keepsCleared_evaluateEntry hev k e h)

theorem keepsCleared_evaluateRounds (n : Nat) : KeepsCleared (evaluateRounds n) := by
  induction n with
  | zero => exact keepsCleared_id
  | succ n ih => exact fun _ _ _ _ h => keepsCleared_evaluateEntries ih _ _ h

theorem keepsCleared_evaluateTrips : KeepsCleared evaluateTrips :=
  .ite (fun s => s.run = .run) (keepsCleared_evaluateRounds _) keepsCleared_id

theorem KeepsCleared.reporting {f : State → State} (hf : KeepsCleared f) : KeepsCleared (reporting f) := by
  intro d o j s h
  dsimp only [Machine.reporting]
  split
  · exact hf h
  · exact keepsCleared_evaluateTrips (hf h)

/-! ## Ageing (R102, R104, R140, R147) -/

theorem keepsCleared_setAdjacent (x : Side) (k : Option Nat) : KeepsCleared (setAdjacent x k) := by
  intro d o j s h
  unfold setAdjacent
  split
  · exact h
  · cases x <;> exact { h with }

theorem keepsCleared_dropAdjacent (k : Nat) : KeepsCleared (dropAdjacent k) := by
  intro d o j s h
  have up : Cleared d o j (if s.peers.adjacentUp = some k then setAdjacent .up none s else s) :=
    (keepsCleared_setAdjacent _ _ h).ite h
  exact (keepsCleared_setAdjacent _ _ up).ite up

theorem keepsCleared_moveSlot (k : Nat) : KeepsCleared (moveSlot k) := by
  intro d o j s h
  dsimp only [moveSlot]
  split
  · exact keepsCleared_modifyPeer k (f := fun e => { e with state := .stale }) (fun _ he => he) h
  · split
    · exact keepsCleared_modifyPeer k (f := fun e => { e with state := .lost }) (fun _ he => he) h
    · split
      · exact keepsCleared_dropAdjacent k (keepsCleared_modifyPeer k (f := fun _ => Init.freePeer) (fun _ _ => rfl) h)
      · exact h

/-- A source that changes is taken with no error and no deferral (R83). -/
theorem keepsCleared_judgeSource : KeepsCleared judgeSource := by
  intro d o j s h
  dsimp only [judgeSource]
  split
  · exact h
  · exact { h with deferred := rfl, sourceError := rfl }

theorem keepsCleared_judgeImpaired : KeepsCleared judgeImpaired := by
  intro d o j s h
  dsimp only [judgeImpaired]
  split
  · exact h
  · exact keepsCleared_evaluateTrips (s := State.setFault _ _) h

theorem keepsCleared_judgeSilent : KeepsCleared judgeSilent := by
  intro d o j s h
  unfold judgeSilent
  split
  · exact h
  · split <;> exact keepsCleared_judgeImpaired (s := record (State.setFault _ _) _ _ _ _) h

theorem keepsCleared_tableChanged : KeepsCleared tableChanged := fun _ _ _ _ h =>
  keepsCleared_judgeSilent (s := State.setFault _ _) (keepsCleared_judgeSource h)

theorem aged_aligned {e : PeerEntry} (h : e.aligned = false) :
    (closeProbation (raiseAge (raiseSilences e))).aligned = false := by
  have silences : (raiseSilences e).aligned = false := by
    unfold raiseSilences
    split <;> exact h
  have age : (raiseAge (raiseSilences e)).aligned = false := by
    unfold raiseAge
    split <;> exact silences
  unfold closeProbation
  split <;> exact age

theorem keepsCleared_agePeers : KeepsCleared agePeers := fun _ _ _ _ h =>
  keepsCleared_tableChanged (keepsCleared_foldl (fun s k => moveSlot k s) keepsCleared_moveSlot _
    (h.setEntries (h.unaligned.map fun _ he => aged_aligned he)))

theorem keepsCleared_refreshSeries (e : EpochNum) (r : ClaimRecord) : KeepsCleared (refreshSeries e r) :=
  fun _ _ _ _ h => keepsCleared_offerSeries (by simp [QueueItem.subject]) (s := State.setRecords _ _) h

theorem keepsCleared_refreshAll (rs : List ClaimRecord) : KeepsCleared (refreshAll rs) := by
  induction rs with
  | nil => exact keepsCleared_id
  | cons r rs ih =>
    intro d o j s h
    refine ih ?_
    split
    · exact keepsCleared_refreshSeries _ _ h
    · exact h

theorem keepsCleared_expireClaim (key : ClaimKey) : KeepsCleared (expireClaim key) := by
  intro d o j s h
  unfold expireClaim
  split
  · split
    · refine keepsCleared_removeRecords _ ?_
      split <;> exact h
    · exact h
  · exact h

theorem keepsCleared_expireEach (keys : List ClaimKey) : KeepsCleared (expireEach keys) := by
  induction keys with
  | nil => exact keepsCleared_id
  | cons key keys ih => exact fun _ _ _ _ h => ih ((keepsCleared_expireClaim key).reporting h)

theorem keepsCleared_ageRegister : KeepsCleared ageRegister := fun _ _ _ _ h =>
  have aged : KeepsCleared (fun s : State => s.setRecords (s.register.records.map ageRecord)) := fun _ _ _ _ h => h
  have refreshed : KeepsCleared refreshDueRecords := fun _ _ _ _ h => keepsCleared_refreshAll _ h
  keepsCleared_expireEach _ (refreshed.reporting (aged.reporting h))

/-! ## The fault unit (R171, R175) -/

theorem keepsCleared_missReport (p : QueueEntry → Bool) : KeepsCleared (missReport p) := by
  intro d o j s h
  unfold missReport
  split
  · split
    · exact { h with noReport := h.noReport.queueRemove _ }
    · exact h
  · exact h

theorem keepsCleared_setJammed : KeepsCleared setJammed := fun _ _ _ _ h =>
  keepsCleared_judgeImpaired (s := record _ _ _ _ _) (keepsCleared_missReport _ (s := State.setFault _ _) h)

theorem keepsCleared_clearJammed : KeepsCleared clearJammed := fun _ _ _ _ h =>
  keepsCleared_judgeImpaired (s := record (State.setFault _ _) _ _ _ _) h

theorem keepsCleared_epochBusy : KeepsCleared epochBusy := by
  intro d o j s h
  have counted : ∀ f, Cleared d o j (s.setFault f) := fun _ => h
  exact .ite (.ite h (keepsCleared_clearJammed h)) (.ite (keepsCleared_setJammed (counted _)) (counted _))

theorem keepsCleared_epochSilence : KeepsCleared epochSilence := fun _ _ _ _ h =>
  keepsCleared_judgeSilent (s := State.setFault _ _) h

theorem keepsCleared_eitherOrder (race : Bool) (p : Nat → Bool) {f g : State → State} (hf : KeepsCleared f)
    (hg : KeepsCleared g) : KeepsCleared (eitherOrder race p f g) := by
  intro d o j s h
  dsimp only [eitherOrder]
  split
  · split
    · exact hg (hf (s := (nextChoice s).2) h)
    · exact hf (hg (s := (nextChoice s).2) h)
  · exact hf (hg h)

theorem keepsCleared_silenceAnd {f : State → State} (hf : KeepsCleared f) : KeepsCleared (silenceAnd f) :=
  fun _ _ _ _ h => keepsCleared_eitherOrder _ _ keepsCleared_epochSilence hf h

/-! ## The cycle that begins, and its strobe (R17, R56, R59, R78) -/

theorem keepsCleared_beginCycle : KeepsCleared beginCycle := fun _ _ _ _ h => { h with }

theorem keepsCleared_judgePosture : KeepsCleared judgePosture := fun _ _ _ _ h => h

theorem keepsCleared_idleAccess : KeepsCleared idleAccess := fun _ _ _ _ h => h

theorem keepsCleared_abandonBackoff : KeepsCleared abandonBackoff :=
  .ite (fun s => (s.link.access = .backoff && !backoffStands s) = true) keepsCleared_idleAccess keepsCleared_id

theorem keepsCleared_tellOwner (x : QueueSubject) : KeepsCleared (tellOwner x) := by
  intro d o j s h
  unfold tellOwner
  split
  · next k f =>
    have closed : KeepsCleared (releaseClosed k f) := fun _ _ _ _ h =>
      keepsCleared_testCloseOnChange (keepsCleared_removeRecords _ h)
    exact closed.reporting h
  · exact h

theorem advanceSeries_subject (e : QueueEntry) : (advanceSeries e).subject = e.subject := by
  unfold advanceSeries
  split <;> rfl

theorem keepsCleared_completeSeries (x : QueueSubject) : KeepsCleared (completeSeries x) := by
  intro d o j s h
  unfold completeSeries
  split
  · split
    · exact h
    · split
      · exact keepsCleared_tellOwner x (h.setQueue (h.noReport.queueRemove x))
      · exact h.setQueue (h.noReport.queueModify x fun e he => (advanceSeries_subject e).symm ▸ he)
  · exact h

theorem keepsCleared_completeFrame : KeepsCleared completeFrame := by
  intro d o j s h
  unfold completeFrame
  split
  · exact keepsCleared_completeSeries _ (s := readyAgain s) h
  · exact h

theorem keepsCleared_countTimeout : KeepsCleared countTimeout := by
  intro d o j s h
  dsimp only [countTimeout]
  split
  · exact keepsCleared_judgeImpaired (s := record (State.setFault _ _) _ _ _ _) h
  · exact h

theorem keepsCleared_completeIfDue : KeepsCleared completeIfDue :=
  .ite (fun s => completionDue s = true) (fun _ _ _ _ h => keepsCleared_countTimeout (keepsCleared_completeFrame h))
    keepsCleared_id

theorem keepsCleared_endReceptionIfDue : KeepsCleared endReceptionIfDue :=
  .ite (fun s => receptionDue s = true) (fun _ _ _ _ h => h) keepsCleared_id

theorem keepsCleared_handOver (e : QueueEntry) : KeepsCleared (handOver e) := by
  intro d o j s h
  refine h.setLink rfl ?_
  dsimp only [handedQueue]
  split
  · exact h.noReport.queueModify _ fun _ he => he
  · exact h.noReport.queueRemove _

theorem keepsCleared_endBackoffIfDue : KeepsCleared endBackoffIfDue := by
  intro d o j s h
  unfold endBackoffIfDue endBackoff
  split
  · split
    · split
      · exact h
      · exact keepsCleared_handOver _ h
    · exact h
  · exact h

theorem keepsCleared_strobeTimers : KeepsCleared strobeTimers := fun _ _ _ _ h =>
  keepsCleared_endBackoffIfDue (keepsCleared_endReceptionIfDue (keepsCleared_completeIfDue (s := State.setLink _ _) h))

theorem keepsCleared_judgeAccess : KeepsCleared judgeAccess := by
  intro d o j s h
  unfold judgeAccess chooseCandidate
  split
  · exact h
  · split
    · exact h
    · split
      · exact h
      · split
        · exact h
        · dsimp only [drawBackoff]
          split
          · exact keepsCleared_handOver _ (s := State.setLink _ _) h
          · exact h

theorem keepsCleared_settle : KeepsCleared settle :=
  .ite (fun s => s.run = .config) keepsCleared_id fun _ _ _ _ h =>
    keepsCleared_judgeAccess (s := judgePosture _) h

end Sys2Proof.Machine

/-! A boundary that applies a jump: what it clears of the old timeline, and the statement O31. -/

namespace Sys2Proof.Machine

/-! ## The queue and the window at an applied jump (R66, R70, R71) -/

theorem missReport_noReport (s : State) : NoReport (missReport (fun _ => true) s).link.queue := by
  unfold missReport
  split
  · exact fun e he => queueRemove_subject e he
  · next h => exact fun e he => by simpa using List.find?_eq_none.mp h e he

theorem jumpQueue_noReport (target : JumpTarget) (s : State) : NoReport (jumpQueue target s).link.queue :=
  (missReport_noReport s).queueModify _ fun _ he => he

theorem jumpQueue_eq (target : JumpTarget) (s : State) : jumpQueue target s = { s with link := (jumpQueue target s).link } := by
  unfold jumpQueue rebindAlert
  rw [missReport_eq]
  rfl

theorem setAdjacent_eq (x : Side) (k : Option Nat) (s : State) : setAdjacent x k s = { s with
    peers := (setAdjacent x k s).peers, assessor := (setAdjacent x k s).assessor } := by
  unfold setAdjacent
  split <;> rfl

theorem evaluateAdjacency_eq (s : State) : evaluateAdjacency s = { s with
    peers := (evaluateAdjacency s).peers, assessor := (evaluateAdjacency s).assessor } := by
  unfold evaluateAdjacency
  dsimp only
  rw [setAdjacent_eq, setAdjacent_eq .up]

theorem leaveWindow_eq (s : State) : leaveWindow s = { s with
    peers := (leaveWindow s).peers, assessor := (leaveWindow s).assessor, link := { s.link with windowOpen := false } } := by
  unfold leaveWindow
  split
  · rw [evaluateAdjacency_eq]
    rfl
  · next h =>
    have closed : ({ s.link with windowOpen := false } : Link) = s.link := by rw [← Bool.eq_false_iff.mpr h]
    rw [closed]

/-- The window at an applied jump: open exactly for a target index below W, every series then due. -/
theorem jumpWindow_eq (target : JumpTarget) (s : State) : jumpWindow target s = { s with
    peers := (jumpWindow target s).peers, assessor := (jumpWindow target s).assessor
    link := { s.link with
      windowOpen := decide (target.cycle < s.port.image.w), queue := (jumpWindow target s).link.queue } } := by
  unfold jumpWindow
  split
  · next h => rw [leaveWindow_eq, decide_eq_true h]; rfl
  · next h => rw [leaveWindow_eq, decide_eq_false h]

theorem jumpWindow_noReport {s : State} (h : NoReport s.link.queue) (target : JumpTarget) :
    NoReport (jumpWindow target s).link.queue := by
  have left : NoReport (leaveWindow s).link.queue := by rw [leaveWindow_eq]; exact h
  unfold jumpWindow
  split
  · exact left.map fun e _ he => by split <;> exact he
  · exact left

/-! ## The jump applied -/

/-- The state of an applied jump with the engine, the queue, the window, the Timeline Unit, the Detector and the Assessor cleared. -/
def jumpClears (target : JumpTarget) (s : State) : State :=
  let t := returnToBlind (timelineJump target
    (jumpWindow target (jumpQueue target (s.setEngine (engineJump target.cycle s.engine)))))
  t.setAssessor (assessorJump t.assessor)

theorem boundaryJumps_eq (target : JumpTarget) (s : State) : boundaryJumps target s =
    silenceAnd epochBusy (ageTables (fallHold (completeJoin (reporting judgeAgreement (jumpClears target s))))) := rfl

theorem returnToBlind_eq (s : State) : returnToBlind s = { s with
    detector := (returnToBlind s).detector, peers := (returnToBlind s).peers, port := (returnToBlind s).port } := by
  dsimp only [returnToBlind]
  split <;> rfl

theorem returnToBlind_unaligned {s : State} (h : Unaligned s.peers.entries) : Unaligned (returnToBlind s).peers.entries := by
  dsimp only [returnToBlind]
  split
  · exact h.map fun _ he => he
  · exact h

theorem timelineJump_unaligned (target : JumpTarget) (s : State) : Unaligned (timelineJump target s).peers.entries := by
  intro e he
  obtain ⟨x, -, rfl⟩ := List.mem_map.mp he
  rfl

/-- The window and the queue at an applied jump leave run state, engine, timeline and image as they stand. -/
theorem jumpWindow_jumpQueue_kept (target : JumpTarget) (s : State) :
    let t := jumpWindow target (jumpQueue target s)
    t.run = s.run ∧ t.engine = s.engine ∧ t.timeline = s.timeline ∧
      t.link.windowOpen = decide (target.cycle < s.port.image.w) ∧ NoReport t.link.queue := by
  have noReport := jumpWindow_noReport (jumpQueue_noReport target s) target
  dsimp only
  refine ⟨?_, ?_, ?_, ?_, noReport⟩ <;> rw [jumpWindow_eq, jumpQueue_eq]

theorem jumpClears_run_timeline (target : JumpTarget) (s : State) :
    (jumpClears target s).run = s.run ∧ (jumpClears target s).timeline.join = s.timeline.join := by
  obtain ⟨run, -, timeline, -, -⟩ := jumpWindow_jumpQueue_kept target (s.setEngine (engineJump target.cycle s.engine))
  have join := congrArg Timeline.join timeline
  unfold jumpClears
  dsimp only
  rw [State.setAssessor_run, State.setAssessor_timeline, returnToBlind_eq]
  exact ⟨run, join⟩

/-- Each item of the old timeline gone by its own unit. -/
theorem jumpClears_cleared (target : JumpTarget) (s : State) :
    Cleared (decide (0 < target.cycle)) (decide (target.cycle < s.port.image.w)) false (jumpClears target s) := by
  obtain ⟨-, engine, -, window, noReport⟩ :=
    jumpWindow_jumpQueue_kept target (s.setEngine (engineJump target.cycle s.engine))
  unfold jumpClears
  generalize jumpWindow target (jumpQueue target (s.setEngine (engineJump target.cycle s.engine))) = t at *
  have unaligned := returnToBlind_unaligned (timelineJump_unaligned target t)
  dsimp only
  rw [returnToBlind_eq] at unaligned ⊢
  exact {
    ring := congrArg Engine.ring engine
    discard := congrArg Engine.discard engine
    blind := rfl
    snapshot := rfl
    jumpPending := rfl
    slewGuard := rfl
    deferred := rfl
    sourceError := rfl
    map := rfl
    phaseBoundary := rfl
    residualBoundary := rfl
    unaligned
    window
    noReport
    joined := fun h => absurd h (by decide) }

/-- The join's jump enters RUN (R91). -/
theorem completeJoin_cleared {d o : Bool} {s : State} (h : Cleared d o false s) :
    Cleared d o (decide (s.run = .listen ∧ s.timeline.join = .pending)) (completeJoin s) := by
  unfold completeJoin
  split
  · exact keepsCleared_evaluateTrips { h with joined := fun _ => ⟨rfl, rfl⟩ }
  · next hn =>
    refine { h with joined := fun hj => absurd ?_ hn }
    simpa using hj

theorem keepsCleared_ageTables : KeepsCleared ageTables := fun _ _ _ _ h => keepsCleared_ageRegister (keepsCleared_agePeers h)

theorem keepsCleared_fallHold : KeepsCleared fallHold := fun _ _ _ _ h => h

/-- An applied jump leaves nothing of the old timeline, and enters RUN if it was the join's. -/
theorem boundaryJumps_cleared (target : JumpTarget) (s : State) :
    Cleared (decide (0 < target.cycle)) (decide (target.cycle < s.port.image.w))
      (decide (s.run = .listen ∧ s.timeline.join = .pending)) (boundaryJumps target s) := by
  have judged : KeepsCleared judgeAgreement := fun _ _ _ _ h => h
  have reported := judged.reporting (jumpClears_cleared target s)
  have kept := keeps_reporting keeps_judgeAgreement (jumpClears target s)
  obtain ⟨run, join⟩ := jumpClears_run_timeline target s
  have joined := completeJoin_cleared reported
  rw [kept.run, kept.timeline, run, join] at joined
  rw [boundaryJumps_eq]
  exact keepsCleared_silenceAnd keepsCleared_epochBusy (keepsCleared_ageTables (keepsCleared_fallHold joined))

theorem cycleEnded_run_timeline (s : State) : (cycleEnded s).run = s.run ∧ (cycleEnded s).timeline = s.timeline := by
  unfold cycleEnded endCycle
  dsimp only
  rw [patchStrobe_eq, advanceToSome_eq]
  exact ⟨rfl, rfl⟩

/-- The ended cycle, the Linkage's timers and the evaluations leave run state, Timeline Unit and image as they stand. -/
theorem evaluated_kept (kind : BoundaryKind) (s : State) :
    let t := evaluateTracker (linkageTimers kind (cycleEnded s))
    t.run = s.run ∧ t.timeline = s.timeline ∧ t.port.image = s.port.image := by
  have timers := keeps_linkageTimers kind (cycleEnded s)
  obtain ⟨k, events⟩ := evaluateTracker_within (linkageTimers kind (cycleEnded s))
  obtain ⟨run, timeline⟩ := cycleEnded_run_timeline s
  exact ⟨events.run.trans (timers.run.trans run), events.timeline.trans (timers.timeline.trans timeline),
    events.coreKept.image.trans (timers.coreKept.image.trans (cycleEnded_image s))⟩

/-- A boundary that applies a jump leaves nothing of the old timeline, the part in RUN if the jump was the join's. -/
theorem boundaryBody_cleared {target : JumpTarget} {s : State} (hj : s.tracker.jump = some target) :
    Cleared (decide (0 < target.cycle)) (decide (target.cycle < s.port.image.w))
      (decide (s.run = .listen ∧ s.timeline.join = .pending)) (boundaryBody s) := by
  have kind : boundaryKind (windowsClosed s.tracker) = .jumps target := by
    rw [boundaryKind, windowsClosed_eq, hj]
  obtain ⟨run, timeline, image⟩ := evaluated_kept (.jumps target) s
  have jumped := boundaryJumps_cleared target (evaluateTracker (linkageTimers (.jumps target) (cycleEnded s)))
  rw [run, timeline, image] at jumped
  have body : boundaryBody s = strobeTimers (abandonBackoff (judgePosture (beginCycle
      (boundaryJumps target (evaluateTracker (linkageTimers (.jumps target) (cycleEnded s))))))) := by
    unfold boundaryBody
    simp only [advanceToSome_tracker, advanceToSome_port, kind]
    rfl
  rw [body]
  exact keepsCleared_strobeTimers (keepsCleared_abandonBackoff (keepsCleared_judgePosture (keepsCleared_beginCycle jumped)))

/-- Settles O31: `Cleared` of the boundary, and through the re-judging. -/
theorem jumpBoundaryClearsTheOldTimeline : Obligations.JumpBoundaryClearsTheOldTimeline := by
  intro target s hw hj
  have gone := keepsCleared_settle (boundaryBody_cleared hj)
  refine ⟨_, exec_cycleBoundary hw, gone.ring, gone.discard, gone.blind, gone.snapshot, gone.unaligned, gone.jumpPending,
    gone.slewGuard, gone.deferred, gone.sourceError, gone.map, gone.phaseBoundary, gone.residualBoundary, gone.window,
    gone.noReport, fun hrun hjoin => gone.joined (decide_eq_true ⟨hrun, hjoin⟩)⟩

end Sys2Proof.Machine

/-! The counts of a boundary (O30): why the statement fails. The confirm failure of a trip (R165) offers a TRIPPED series (R166),
and where a frame of that output's older series is in flight, the offer restarts the series (R73) before the boundary's strobe
completes the frame. The restarted series then keeps its full count and its due mark, where the statement asks that the old one has
spent one of each. -/

namespace Sys2Proof.Machine

/-- TRIP0's older series, a SUCCESS, its first frame in flight. -/
def olderSeries : QueueEntry := ⟨.tripped ⟨.success, .trip0, ⟨40, 60⟩, ⟨41, 50⟩⟩, 0, 3, true, .current⟩

/-- In RUN within an epoch, with no linkage entry and the window closed: the frame of the older series completes with the strobe of the
next boundary, and the confirm timer of TRIP0's new trip runs out there. -/
def failingUnderOldFrame : State :=
  { State.reset with
    run := .run
    tracker := { Init.tracker Init.clearedImage with anchor := some 0, next := some 20000 }
    link := { Init.link with
      queue := [olderSeries], sending := true, inFlight := some ⟨.tripped .trip0, []⟩, completionTimer := 63 }
    linkage := { Init.linkage false false false with
      trip0 := ⟨.asserted, some 0, 11, some ⟨40, 60⟩, some ⟨41, 50⟩, true⟩ } }

/-- At that boundary the queue holds the FAILED series, its count full and its due mark set. -/
theorem failingUnderOldFrame_restarts :
    ∃ t, exec .cycleBoundary failingUnderOldFrame = .next t ∧
      queueFind t.link.queue (.tripped .trip0) =
        some ⟨.tripped ⟨.failed, .trip0, ⟨40, 60⟩, ⟨41, 50⟩⟩, 0, 3, true, .current⟩ :=
  ⟨_, rfl, by decide +kernel⟩

/-- Refutes O30: a series restarted by the boundary's own confirm failure has not advanced when the frame in flight completes. -/
theorem not_boundaryMovesTheEpochCounter : ¬ Obligations.BoundaryMovesTheEpochCounter := by
  unfold Obligations.BoundaryMovesTheEpochCounter
  rintro ⟨-, counts, -⟩
  obtain ⟨t, ht, -, -, -, within⟩ := counts failingUnderOldFrame rfl rfl rfl
  obtain ⟨-, -, -, completes⟩ := within rfl (by decide)
  obtain ⟨-, advances⟩ := completes rfl (by decide) (by decide)
  have queueOk : QueueOk failingUnderOldFrame.link.queue := by
    unfold QueueOk
    decide
  obtain ⟨spent, -, -⟩ := advances queueOk ⟨.tripped .trip0, []⟩ olderSeries rfl (by decide) (by decide)
  obtain ⟨u, hu, restarted⟩ := failingUnderOldFrame_restarts
  cases ht.symm.trans hu
  exact absurd ((spent rfl (by decide)).symm.trans restarted) (by decide)

end Sys2Proof.Machine

/-! The Measurement Engine's arithmetic: the integer root of the cycle magnitudes (O32) and the residual sample (O34). -/

namespace Sys2Proof.Machine

/-! ## The integer root (R23) -/

/-- The search keeps the root below it and the root above it: from `r² ≤ n < (r + 2^bits)²` it ends with
`root² ≤ n < (root + 1)²`. -/
theorem isqrtFrom_brackets (bits n r : Nat) (below : r * r ≤ n) (above : n < (r + 2 ^ bits) * (r + 2 ^ bits)) :
    isqrtFrom bits n r * isqrtFrom bits n r ≤ n ∧ n < (isqrtFrom bits n r + 1) * (isqrtFrom bits n r + 1) := by
  induction bits generalizing r with
  | zero => exact ⟨below, above⟩
  | succ bits ih =>
    unfold isqrtFrom
    dsimp only
    split
    · next taken =>
      refine ih _ taken ?_
      rwa [Nat.add_assoc, ← Nat.two_mul, ← Nat.pow_succ']
    · next refused => exact ih r below (Nat.lt_of_not_le refused)

/-- Settles O32: the search starts from 0 with 2^15 above every root, and 24,576 squared is the largest mean square. -/
theorem magnitudeIsTheIntegerRoot : Obligations.MagnitudeIsTheIntegerRoot := by
  intro n hn
  obtain ⟨below, above⟩ := isqrtFrom_brackets 15 n 0 (Nat.zero_le n) (by omega)
  refine ⟨below, above, ?_⟩
  by_contra hroot
  have larger : 24577 * 24577 ≤ isqrt n * isqrt n := Nat.mul_self_le_mul_self (by omega)
  have : isqrt n * isqrt n ≤ n := below
  omega

/-! ## The residual sample (R18, R22) -/

/-- A raw sample lies in -8192 to 8191 (R18). -/
theorem sample_bounds (x : Sample) : -8192 ≤ x.toInt ∧ x.toInt ≤ 8191 := by
  have low : -2 ^ (14 - 1) ≤ x.toInt := BitVec.le_toInt x
  have high : x.toInt < 2 ^ (14 - 1) := BitVec.toInt_lt
  omega

/-- The residual accumulator rises by the square of the residual sample (R21, R22). -/
theorem accumulate_residual (set : SampleSet) (e : Engine) :
    ((accumulate set e).acc.r : Int) = e.acc.r + residualSample set * residualSample set := by
  change ((e.acc.r + (residualSample set).natAbs * (residualSample set).natAbs : Nat) : Int) = _
  rw [Int.natCast_add, Int.natAbs_mul_self]

/-- Settles O34: an arrived set and a patched one both enter by `accumulate`. -/
theorem residualSampleIsTheCurrentSum : Obligations.ResidualSampleIsTheCurrentSum := by
  intro set e
  obtain ⟨low1, high1⟩ := sample_bounds set.i.p1
  obtain ⟨low2, high2⟩ := sample_bounds set.i.p2
  obtain ⟨low3, high3⟩ := sample_bounds set.i.p3
  have sum : residualSample set = set.i.p1.toInt + set.i.p2.toInt + set.i.p3.toInt := rfl
  refine ⟨sum, by omega, by omega, fun _ => rfl, accumulate_residual set e, fun s strobe unset => ⟨?_, ?_⟩⟩
  · obtain ⟨k, hk⟩ := Option.isSome_iff_exists.mp strobe
    exact (patchStrobe_of_no_set hk unset).1
  · rw [takeSampleSet_awaited ⟨strobe, unset⟩]

end Sys2Proof.Machine

/-! The frame `TablesKept`: what every operation does to the tables that O7 bounds and to the engine. Where it is stated for every
predicate `P` of the engine, the operation leaves the engine as it stands (`TablesKept.engine_eq`). -/

namespace Sys2Proof.Machine

/-! ## The sizes -/

/-- The history ring holds at most 16 records, of distinct epochs (R33). -/
def RingOk (e : Engine) : Prop := e.ring.length ≤ Config.ringSize ∧ (e.ring.map EpochRecord.epoch).Nodup

/-- 16 entries, each with a ring of at most 4 records (R95, R105). -/
def EntriesOk (es : List PeerEntry) : Prop := es.length = 16 ∧ ∀ e ∈ es, e.ring.length ≤ Config.peerRingSize

theorem tablesOk_iff {s : State} : TablesOk s ↔ RingOk s.engine ∧ EntriesOk s.peers.entries ∧
    s.peers.conflicts.length ≤ Config.conflictListSize ∧
    s.linkage.entries.length = 8 ∧ s.linkage.trips.length ≤ Config.tripListSize := by
  unfold TablesOk RingOk EntriesOk
  simp only [and_assoc]

/-- A change of an entry keeps the bound of its ring. -/
def KeepsRing (f : PeerEntry → PeerEntry) : Prop :=
  ∀ e : PeerEntry, e.ring.length ≤ Config.peerRingSize → (f e).ring.length ≤ Config.peerRingSize

theorem EntriesOk.map {es : List PeerEntry} (h : EntriesOk es) {f : PeerEntry → PeerEntry} (hf : KeepsRing f) :
    EntriesOk (es.map f) :=
  ⟨(List.length_map f).trans h.1, List.forall_mem_map.mpr fun e he => hf e (h.2 e he)⟩

theorem EntriesOk.modifyAt {es : List PeerEntry} (h : EntriesOk es) {f : PeerEntry → PeerEntry} (hf : KeepsRing f)
    (k : Nat) : EntriesOk (modifyAt f k es) := by
  refine ⟨(modifyAt_length f k es).trans h.1, ?_⟩
  cases hk : es[k]? with
  | none => rw [modifyAt_eq_self hk]; exact h.2
  | some a =>
    rw [modifyAt_eq_set hk]
    intro e he
    rcases List.mem_or_eq_of_mem_set he with he | rfl
    · exact h.2 e he
    · exact hf a (h.2 a (List.mem_of_getElem? hk))

theorem RingOk.insert {e : Engine} (h : RingOk e) (r : EpochRecord) : RingOk { e with ring := ringInsert r e.ring } := by
  refine ⟨List.length_take_le .., ?_⟩
  have others : (e.ring.filter (fun x => x.epoch ≠ r.epoch)).map EpochRecord.epoch |>.Nodup :=
    h.2.sublist (List.filter_sublist.map _)
  have whole : ((r :: e.ring.filter (fun x => x.epoch ≠ r.epoch)).map EpochRecord.epoch).Nodup := by
    refine List.nodup_cons.mpr ⟨fun hmem => ?_, others⟩
    obtain ⟨x, hx, same⟩ := List.mem_map.mp hmem
    exact of_decide_eq_true (List.mem_filter.mp hx).2 same
  exact whole.sublist ((List.take_sublist _ _).map _)

/-- An offered record never fills a peer's ring past 4 (R105). -/
theorem ringOffer_length (n : Nat) (h : Header) (p : ReportPayload) {ring : List PeerRecord}
    (hr : ring.length ≤ Config.peerRingSize) : (ringOffer n h p ring).length ≤ Config.peerRingSize := by
  unfold ringOffer
  dsimp only
  split
  · exact (List.length_filter_le _ _).trans hr
  · split
    · exact hr
    · exact List.length_take_le ..

theorem conflictAdd_length (id : Nat) {l : List Nat} (h : l.length ≤ Config.conflictListSize) :
    (conflictAdd id l).length ≤ Config.conflictListSize := by
  unfold conflictAdd
  split
  · exact h
  · split
    · next room => rw [List.length_append]; exact room
    · next full =>
      rw [List.length_append, List.length_tail, List.length_singleton]
      unfold Config.conflictListSize at h full ⊢
      omega

theorem tripListTake_length (n : Nat) (c : TrippedContent) {l : List TripItem} (h : l.length ≤ Config.tripListSize) :
    (tripListTake n c l).length ≤ Config.tripListSize := by
  unfold tripListTake
  split
  · exact h
  · dsimp only
    split
    · rw [List.length_tail, List.length_append]
      exact h
    · next fits => exact Nat.le_of_not_lt fits

/-! ## The frame -/

/-- Every bound of the tables that holds of `s` holds of `t`, and so does the predicate `P` of the engine. -/
structure TablesKept (P : Engine → Prop) (s t : State) : Prop where
  engine : P s.engine → P t.engine
  peers : EntriesOk s.peers.entries → EntriesOk t.peers.entries
  conflicts : s.peers.conflicts.length ≤ Config.conflictListSize → t.peers.conflicts.length ≤ Config.conflictListSize
  runtimes : s.linkage.entries.length = 8 → t.linkage.entries.length = 8
  trips : s.linkage.trips.length ≤ Config.tripListSize → t.linkage.trips.length ≤ Config.tripListSize

/-- A function whose result always keeps its argument's tables. -/
def KeepsTables (P : Engine → Prop) (f : State → State) : Prop := ∀ s, TablesKept P s (f s)

/-- The blocks that `TablesKept` speaks of. -/
def State.tables (s : State) : Engine × PeerTable × Linkage := (s.engine, s.peers, s.linkage)

/-- A change of no table. -/
theorem TablesKept.untouched {P : Engine → Prop} {s t : State} (h : t.tables = s.tables) : TablesKept P s t := by
  have engine : t.engine = s.engine := congrArg Prod.fst h
  have peers : t.peers = s.peers := congrArg (·.2.1) h
  have linkage : t.linkage = s.linkage := congrArg (·.2.2) h
  constructor
  · rw [engine]; exact id
  · rw [peers]; exact id
  · rw [peers]; exact id
  · rw [linkage]; exact id
  · rw [linkage]; exact id

theorem TablesKept.refl {P : Engine → Prop} (s : State) : TablesKept P s s := .untouched rfl

/-- What keeps the tables under every predicate of the engine leaves the engine as it stands. -/
theorem TablesKept.engine_eq {s t : State} (h : ∀ P, TablesKept P s t) : t.engine = s.engine :=
  (h (fun e => e = s.engine)).engine rfl

section
variable {P : Engine → Prop}

theorem TablesKept.trans {s t u : State} (h : TablesKept P s t) (k : TablesKept P t u) : TablesKept P s u :=
  ⟨k.engine ∘ h.engine, k.peers ∘ h.peers, k.conflicts ∘ h.conflicts, k.runtimes ∘ h.runtimes, k.trips ∘ h.trips⟩

theorem TablesKept.ite {c : Prop} [Decidable c] {s t u : State} (ht : TablesKept P s t) (hu : TablesKept P s u) :
    TablesKept P s (if c then t else u) := by
  split
  · exact ht
  · exact hu

theorem TablesKept.entries {s : State} {es : List PeerEntry} (h : EntriesOk s.peers.entries → EntriesOk es) :
    TablesKept P s (s.setEntries es) := ⟨id, h, id, id, id⟩

/-- A change of no table, and then `k`. -/
theorem TablesKept.after {s t u : State} (k : TablesKept P t u) (h : t.tables = s.tables) : TablesKept P s u :=
  (TablesKept.untouched h).trans k

theorem keepsTables_foldl {α : Type} {f : State → α → State} (h : ∀ a, KeepsTables P (fun s => f s a)) (l : List α) :
    KeepsTables P (fun s => l.foldl f s) := by
  induction l with
  | nil => exact .refl
  | cons a l ih => exact fun s => (h a s).trans (ih _)

/-! ## Register and Detector (Chapters 3 and 8) -/

theorem keepsTables_recordPairs (ps : List ClaimPair) : KeepsTables P (recordPairs ps) := by
  induction ps with
  | nil => exact .refl
  | cons p ps ih => exact fun s => .after (ih _) rfl

theorem keepsTables_rejudgePairs : KeepsTables P rejudgePairs := fun _ => .after (keepsTables_recordPairs _ _) rfl

theorem keepsTables_offerSeries (i : QueueItem) : KeepsTables P (offerSeries i) := fun _ => .untouched rfl

theorem keepsTables_recordClaim (k : EventKind) (r : ClaimRecord) (d : Detail) : KeepsTables P (recordClaim k r d) :=
  fun _ => .untouched rfl

theorem keepsTables_refreshSeries (e : EpochNum) (r : ClaimRecord) : KeepsTables P (refreshSeries e r) := fun _ => .untouched rfl

theorem keepsTables_judgeAgreement : KeepsTables P judgeAgreement := fun _ => .untouched rfl

theorem keepsTables_placeRecord (r : ClaimRecord) : KeepsTables P (placeRecord r) := fun _ =>
  .after (keepsTables_rejudgePairs _) rfl

theorem keepsTables_adjustPin (f : Nat → Nat) (p : Nat) : KeepsTables P (adjustPin f p) := fun _ =>
  .entries fun h => h.map fun e he => by split <;> exact he

theorem keepsTables_releaseHold (r : ClaimRecord) : KeepsTables P (releaseHold r) := fun s => by
  unfold releaseHold
  have withdrawn : TablesKept P s (withdrawSeries r.key.kind r.key.fin s) := .untouched rfl
  have unpinned := withdrawn.trans (keepsTables_adjustPin (· - 1) (farEnd r.key.fin r.span) _)
  exact .ite (.ite withdrawn (unpinned.trans (.untouched rfl))) (.refl s)

theorem keepsTables_releaseHolds (rs : List ClaimRecord) : KeepsTables P (releaseHolds rs) := by
  induction rs with
  | nil => exact .refl
  | cons r rs ih => exact fun s => (keepsTables_releaseHold r s).trans (ih _)

theorem keepsTables_removeRecords (p : ClaimRecord → Bool) : KeepsTables P (removeRecords p) := fun s =>
  .ite (((keepsTables_releaseHolds _ s).trans (.untouched (by rfl))).trans (keepsTables_rejudgePairs _)) (.refl s)

theorem keepsTables_withdrawAll (rs : List ClaimRecord) : KeepsTables P (withdrawAll rs) := by
  induction rs with
  | nil => exact .refl
  | cons r rs ih => exact fun s => .trans (.ite (.untouched (by rfl)) (.refl s)) (ih _)

theorem keepsTables_coverRecords (p : ClaimRecord → Bool) : KeepsTables P (coverRecords p) := fun s =>
  .ite (((keepsTables_withdrawAll _ s).trans (.untouched (by rfl))).trans (keepsTables_rejudgePairs _)) (.refl s)

/-- An entry into CALM keeps the tables: the Linkage's marks cleared in place and its trip list emptied, the peer snapshots cleared or
left, and the register's part made (R41, R49, R108, R150, R168). -/
theorem TablesKept.intoCalm (b : Bool) {s t : State} (engine : t.engine = s.engine)
    (linkage : t.linkage = linkageCalm s.linkage) (peers : t.peers = s.peers ∨ t.peers = clearPeerSnapshots s.peers) :
    TablesKept P s (registerCalm b t) := by
  refine .trans ⟨?_, fun h => ?_, fun h => ?_, fun h => ?_, fun _ => ?_⟩ (keepsTables_removeRecords _ t)
  · rw [engine]; exact id
  · rcases peers with e | e <;> rw [e]
    · exact h
    · exact h.map fun _ he => he
  · rcases peers with e | e <;> rw [e] <;> exact h
  · rw [linkage]; exact (List.length_map _).trans h
  · rw [linkage]; exact Nat.zero_le _

theorem keepsTables_leaveBlind : KeepsTables P leaveBlind := fun _ => .intoCalm false rfl rfl (.inl rfl)

theorem keepsTables_returnToCalm : KeepsTables P returnToCalm := fun _ => .intoCalm false rfl rfl (.inr rfl)

theorem keepsTables_closeDisturbance : KeepsTables P closeDisturbance := fun _ => .after (keepsTables_returnToCalm _) rfl

theorem keepsTables_forceClose : KeepsTables P forceClose := fun _ => .after (keepsTables_returnToCalm _) rfl

theorem keepsTables_restoreLine : KeepsTables P restoreLine := fun s => by
  refine .trans (t := registerCalm true _) ?_ (.untouched rfl)
  exact .intoCalm true rfl rfl (.inr rfl)

theorem keepsTables_testClose : KeepsTables P testClose := fun s => .ite (keepsTables_closeDisturbance s) (.refl s)

theorem keepsTables_testCloseOnChange : KeepsTables P testCloseOnChange := fun s =>
  .ite ((keepsTables_closeDisturbance s).trans (.untouched rfl)) (.refl s)

theorem keepsTables_requestDisturbance (c : OpenCause) (x : EventSubject) : KeepsTables P (requestDisturbance c x) := fun s => by
  unfold requestDisturbance
  split <;> exact .untouched rfl

theorem keepsTables_openOwn (m : CauseMask) (r : EpochRecord) : KeepsTables P (openOwn m r) := fun _ =>
  .ite (.untouched rfl) (.untouched rfl)

theorem keepsTables_handBlind (e : EpochRecord) : KeepsTables P (handBlind e) := fun _ =>
  .ite (.after (keepsTables_leaveBlind _) rfl) (.untouched rfl)

theorem keepsTables_handCalm (e : EpochRecord) : KeepsTables P (handCalm e) := fun s => by
  unfold handCalm
  split
  · exact .ite (keepsTables_openOwn _ _ s) (.refl s)
  · exact .refl s

theorem keepsTables_moveForced : KeepsTables P moveForced := fun _ =>
  .ite (.after (keepsTables_forceClose _) rfl) (.untouched rfl)

theorem keepsTables_handDisturbed (e : EpochRecord) : KeepsTables P (handDisturbed e) := fun s =>
  have tested : TablesKept P s (testClose (s.setDetector { s.detector with
      settle := if quiet s.port.image s.engine.ring e then raise s.port.image.settleCount s.detector.settle else 0 })) :=
    .after (keepsTables_testClose _) rfl
  .ite (tested.trans (keepsTables_moveForced _)) tested

theorem keepsTables_handDeenergized (e : EpochRecord) : KeepsTables P (handDeenergized e) := fun _ =>
  .ite (.after (keepsTables_restoreLine _) rfl) (.untouched rfl)

/-- An own record handed to the Detector keeps the tables (R38 to R51). -/
theorem keepsTables_handRecord (e : EpochRecord) : KeepsTables P (handRecord e) := fun s => by
  have taken : TablesKept P s (takeReference e s) := .untouched rfl
  unfold handRecord
  dsimp only
  split
  · exact taken.trans (keepsTables_handBlind e _)
  · exact .ite taken (taken.trans (keepsTables_handCalm e _))
  · exact taken.trans (keepsTables_handDisturbed e _)
  · exact taken.trans (keepsTables_handDeenergized e _)

theorem keepsTables_enterDeenergized (n p : Nat) : KeepsTables P (enterDeenergized n p) := fun _ =>
  .ite (.untouched rfl) (.after (.trans (keepsTables_coverRecords _ _) (keepsTables_removeRecords _ _)) rfl)

theorem keepsTables_returnToBlind : KeepsTables P returnToBlind := fun s => by
  unfold returnToBlind
  dsimp only
  split
  · exact ⟨id, fun h => h.map fun _ he => he, id, id, id⟩
  · exact .untouched rfl

/-! ## The Trip Linkage (Chapter 9) -/

theorem keepsTables_modifyRuntime (k : Nat) (f : EntryRuntime → EntryRuntime) : KeepsTables P (modifyRuntime k f) := fun _ =>
  ⟨id, id, id, (modifyAt_length f k _).trans, id⟩

theorem keepsTables_setTrip (o : Output) (r : TripRecord) : KeepsTables P (setTrip o r) := fun _ => by
  cases o <;> exact ⟨id, id, id, id, id⟩

theorem keepsTables_takeIntoTripList (n : Nat) (c : TrippedContent) : KeepsTables P (takeIntoTripList n c) := fun _ =>
  ⟨id, id, id, id, tripListTake_length n c⟩

theorem keepsTables_timerByTripped (c : TrippedContent) (k : Nat) : KeepsTables P (timerByTripped c k) := fun s => by
  unfold timerByTripped
  split
  · exact .refl s
  · split
    · split
      · exact keepsTables_modifyRuntime _ _ s
      · exact (keepsTables_modifyRuntime _ _ s).trans (.untouched rfl)
    · exact .refl s
  · exact .ite (keepsTables_modifyRuntime _ _ s) (.refl s)

theorem keepsTables_timersByTripped (c : TrippedContent) : KeepsTables P (timersByTripped c) :=
  keepsTables_foldl (keepsTables_timerByTripped c) _

theorem keepsTables_coverZone (c : TrippedContent) : KeepsTables P (coverZone c) := fun s => by
  unfold coverZone
  split
  · exact .refl s
  · have covered := keepsTables_coverRecords (P := P) (fun r => r.span.within c.zone) s
    exact .ite (covered.trans (keepsTables_testCloseOnChange _)) covered

theorem keepsTables_offerTripped {ev : State → State} (hev : KeepsTables P ev) (c : TrippedContent) :
    KeepsTables P (offerTripped ev c) := fun _ =>
  .after (.trans (.trans (.trans (keepsTables_takeIntoTripList _ _ _) (keepsTables_timersByTripped _ _))
    (keepsTables_coverZone _ _)) (hev _)) rfl

theorem keepsTables_confirmTrip {ev : State → State} (hev : KeepsTables P ev) (o : Output) :
    KeepsTables P (confirmTrip ev o) := fun s =>
  ((keepsTables_setTrip o _ s).trans (.untouched (by rfl))).trans (keepsTables_offerTripped hev _ _)

theorem keepsTables_failTrip {ev : State → State} (hev : KeepsTables P ev) (o : Output) : KeepsTables P (failTrip ev o) := fun s =>
  ((keepsTables_setTrip o _ s).trans (.untouched (by rfl))).trans (keepsTables_offerTripped hev _ _)

theorem keepsTables_assertOutput (k : Nat) (e : LinkageEntry) (x : Span) (o : Output) :
    KeepsTables P (assertOutput k e x o) := fun s => .ite ((keepsTables_setTrip o _ s).trans (.untouched rfl)) (.refl s)

theorem keepsTables_confirmAtOnce {ev : State → State} (hev : KeepsTables P ev) (k : Nat) (b : TripState) (o : Output) :
    KeepsTables P (confirmAtOnce ev k b o) := fun s => .ite (keepsTables_confirmTrip hev o s) (.refl s)

theorem keepsTables_actPrimary {ev : State → State} (hev : KeepsTables P ev) (k : Nat) (e : LinkageEntry) (x : Span) :
    KeepsTables P (actPrimary ev k e x) := fun s =>
  have spent := ((keepsTables_assertOutput k e x .trip0 s).trans (keepsTables_assertOutput k e x .trip1 _)).trans
    (keepsTables_modifyRuntime k (fun r => { r with spent := true }) _)
  .ite ((spent.trans (keepsTables_confirmAtOnce hev _ _ _ _)).trans (keepsTables_confirmAtOnce hev _ _ _ _))
    (.ite (.refl s) (.after (keepsTables_modifyRuntime _ _ _) rfl))

theorem keepsTables_evaluateEntry {ev : State → State} (hev : KeepsTables P ev) (k : Nat) (e : LinkageEntry) :
    KeepsTables P (evaluateEntry ev k e) := fun s => by
  unfold evaluateEntry
  split
  · exact .refl s
  · split
    · split
      · exact keepsTables_actPrimary hev _ _ _ s
      · exact .refl s
    · have timed : ∀ x, TablesKept P s (modifyRuntime k (fun r => { r with timer := x }) s) :=
        fun x => keepsTables_modifyRuntime k _ s
      dsimp only
      split
      · exact (timed _).trans (keepsTables_actPrimary hev _ _ _ _)
      · exact timed _

theorem keepsTables_evaluateEntries {ev : State → State} (hev : KeepsTables P ev) (es : List LinkageEntry) (k : Nat) :
    KeepsTables P (evaluateEntries ev k es) := by
  induction es generalizing k with
  | nil => exact .refl
  | cons e es ih => exact fun s => (keepsTables_evaluateEntry hev k e s).trans (ih _ _)

theorem keepsTables_evaluateRounds (n : Nat) : KeepsTables P (evaluateRounds n) := by
  induction n with
  | zero => exact .refl
  | succ n ih => exact fun s => keepsTables_evaluateEntries ih _ _ s

/-- An evaluation of the Trip Linkage keeps the tables (R159). -/
theorem keepsTables_evaluateTrips : KeepsTables P evaluateTrips := fun s => .ite (keepsTables_evaluateRounds _ s) (.refl s)

theorem KeepsTables.reporting {f : State → State} (hf : KeepsTables P f) : KeepsTables P (reporting f) := fun s =>
  .ite (hf s) ((hf s).trans (keepsTables_evaluateTrips _))

theorem keepsTables_failIfDue (o : Output) : KeepsTables P (failIfDue o) := fun s =>
  .ite (keepsTables_failTrip keepsTables_evaluateTrips o s) (.refl s)

theorem keepsTables_expireBackup (k : Nat) (e : LinkageEntry) : KeepsTables P (expireBackup k e) := fun s => by
  unfold expireBackup
  split
  · split
    · next c _ =>
      have expired : TablesKept P s (recordBackupTrip k c (modifyRuntime k (fun r => { r with timer := .expired c }) s)) :=
        (keepsTables_modifyRuntime _ _ s).trans (.untouched rfl)
      exact .ite expired (expired.trans (keepsTables_actPrimary (keepsTables_evaluateRounds _) _ _ _ _))
    · exact .refl s
  · exact .refl s

theorem keepsTables_expireBackups (es : List LinkageEntry) (k : Nat) : KeepsTables P (expireBackups k es) := by
  induction es generalizing k with
  | nil => exact .refl
  | cons e es ih => exact fun s => (keepsTables_expireBackup k e s).trans (ih _ _)

theorem keepsTables_raiseTimers : KeepsTables P raiseTimers := fun s =>
  .ite ⟨id, id, id, (List.length_map _).trans, id⟩ (.refl s)

/-- The Linkage's timers at a boundary keep the tables (R161, R163, R165). -/
theorem keepsTables_linkageTimers (kind : BoundaryKind) : KeepsTables P (linkageTimers kind) := fun s =>
  have raised : TablesKept P s (raiseConfirms s) := ⟨id, id, id, id, id⟩
  have timers : TablesKept P s (if kind.begins then
      expireBackups 0 (raiseConfirms s).port.image.entries (raiseTimers (raiseConfirms s)) else raiseConfirms s) :=
    .ite ((raised.trans (keepsTables_raiseTimers _)).trans (keepsTables_expireBackups _ _ _)) raised
  (timers.trans (keepsTables_failIfDue .trip0 _)).trans (keepsTables_failIfDue .trip1 _)

theorem keepsTables_linkageTripped (n : Nat) (c : TrippedContent) : KeepsTables P (linkageTripped n c) := fun s => by
  have heard : TablesKept P s (if tripKnown s.linkage.trips n c then takeIntoTripList n c s
      else record (takeIntoTripList n c s) .trippedHeard (.station n) (some c.span) (.trip c.result c.output)) :=
    .ite (keepsTables_takeIntoTripList n c s) ((keepsTables_takeIntoTripList n c s).trans (.untouched rfl))
  exact .ite ((heard.trans (keepsTables_timersByTripped c _)).trans (keepsTables_evaluateTrips _)) heard

/-! ## Claims and the assessment (Chapters 7 and 8) -/

theorem keepsTables_refreshIfDue (key : ClaimKey) : KeepsTables P (refreshIfDue key) := fun s => by
  unfold refreshIfDue
  split
  · exact .ite (.untouched rfl) (.refl s)
  · exact .refl s

theorem keepsTables_refreshAll (rs : List ClaimRecord) : KeepsTables P (refreshAll rs) := by
  induction rs with
  | nil => exact .refl
  | cons r rs ih => exact fun s => .trans (.ite (.untouched (by rfl)) (.refl s)) (ih _)

theorem keepsTables_expireClaim (key : ClaimKey) : KeepsTables P (expireClaim key) := fun s => by
  unfold expireClaim
  split
  · exact .ite (.trans (.ite (.untouched (by rfl)) (.refl s)) (keepsTables_removeRecords _ _)) (.refl s)
  · exact .refl s

theorem keepsTables_expireEach (keys : List ClaimKey) : KeepsTables P (expireEach keys) := by
  induction keys with
  | nil => exact .refl
  | cons key keys ih => exact fun s => ((keepsTables_expireClaim key).reporting s).trans (ih _)

/-- The register's ageing keeps the tables (R140, R147). -/
theorem keepsTables_ageRegister : KeepsTables P ageRegister := fun s =>
  have aged : KeepsTables P (fun s => s.setRecords (s.register.records.map ageRecord)) := fun _ => .untouched rfl
  have refreshed : KeepsTables P refreshDueRecords := fun s => keepsTables_refreshAll _ s
  ((aged.reporting s).trans (refreshed.reporting _)).trans (keepsTables_expireEach _ _)

theorem keepsTables_enterHeard (h : Header) (c : ClaimContent) : KeepsTables P (enterHeard h c) := fun _ =>
  .after (.trans (keepsTables_placeRecord _ _) (keepsTables_requestDisturbance _ _ _)) rfl

theorem keepsTables_evictClaim (r : ClaimRecord) : KeepsTables P (evictClaim r) := fun s =>
  .ite ((keepsTables_removeRecords _ s).trans (.untouched rfl)) (keepsTables_removeRecords _ s)

theorem keepsTables_admitClaim (h : Header) (c : ClaimContent) : KeepsTables P (admitClaim h c) := fun s => by
  unfold admitClaim
  split
  · split
    · exact (keepsTables_evictClaim _ s).trans (keepsTables_enterHeard h c _)
    · exact .untouched rfl
  · exact keepsTables_enterHeard h c s

theorem keepsTables_renewClaim (h : Header) (c : ClaimContent) (b : Bool) (r : ClaimRecord) :
    KeepsTables P (renewClaim h c b r) := fun s =>
  .ite (.untouched rfl) (.ite (.after (keepsTables_rejudgePairs _) rfl) (keepsTables_placeRecord _ s))

theorem keepsTables_takeClaim (h : Header) (c : ClaimContent) (b : Bool) : KeepsTables P (takeClaim h c b) := fun s => by
  unfold takeClaim
  split
  · split
    · exact keepsTables_admitClaim h c s
    · split
      · exact keepsTables_renewClaim h c b _ s
      · exact .after (keepsTables_placeRecord _ _) rfl
      · exact .refl s
  · exact .refl s

theorem keepsTables_takeRelease (h : Header) (c : ClaimContent) : KeepsTables P (takeRelease h c) := fun s => by
  unfold takeRelease
  split
  · split
    · exact .ite (.after (keepsTables_rejudgePairs _) rfl) (.refl s)
    · exact .refl s
  · exact .refl s

theorem keepsTables_raiseOwn (e : EpochNum) (c : ClaimContent) : KeepsTables P (raiseOwn e c) := fun s =>
  have raised : ∀ r, TablesKept P s (offerSeries (.claim c false) (recordClaim .claimRaised r (.mask c.mask) (placeRecord r s))) :=
    fun r => ((keepsTables_placeRecord r s).trans (keepsTables_recordClaim _ _ _ _)).trans (keepsTables_offerSeries _ _)
  .ite ((raised _).trans (keepsTables_requestDisturbance _ _ _)) (raised _)

theorem keepsTables_changeMask (e : EpochNum) (key : ClaimKey) (m : PerPhase Bool) : KeepsTables P (changeMask e key m) :=
  fun s => by
  unfold changeMask
  split
  · exact .after (.trans (.trans (keepsTables_refreshSeries e _ _) (keepsTables_judgeAgreement _))
      (keepsTables_rejudgePairs _)) rfl
  · exact .refl s

theorem keepsTables_releaseOwn (key : ClaimKey) : KeepsTables P (releaseOwn key) := fun s => by
  unfold releaseOwn
  split
  · exact .after (.trans (.trans (keepsTables_rejudgePairs _) (keepsTables_adjustPin _ _ _))
      (keepsTables_testCloseOnChange _)) rfl
  · exact .refl s

theorem keepsTables_raiseClaim (e : EpochNum) (k : ClaimKind) (f : SpanEnd) (m : PerPhase Bool) :
    KeepsTables P (raiseClaim e k f m) := fun s => by
  unfold raiseClaim
  split
  · exact (keepsTables_adjustPin _ _ s).trans ((keepsTables_raiseOwn _ _).reporting _)
  · exact .refl s

theorem keepsTables_handOff (e : EpochNum) (k : ClaimKind) (f : SpanEnd) : KeepsTables P (handOff e k f) := fun s => by
  dsimp only [handOff]
  split
  · exact keepsTables_raiseClaim _ _ _ _ s
  · split
    · exact keepsTables_raiseClaim _ _ _ _ s
    · exact .ite (.refl s) ((keepsTables_changeMask _ _ _).reporting s)
    · exact .refl s
  · exact .ite ((keepsTables_releaseOwn _).reporting s) (.refl s)
  · exact .refl s

theorem keepsTables_recordLocated (n : Nat) (a b : Option Span) : KeepsTables P (recordLocated n a b) := fun s =>
  .ite (.untouched rfl) (.refl s)

theorem keepsTables_takeMap (r : EpochRecord) : KeepsTables P (takeMap r) := fun _ =>
  .after (.trans (.trans (.trans (.trans (keepsTables_recordLocated _ _ _ _) (keepsTables_recordLocated _ _ _ _))
    (keepsTables_recordLocated _ _ _ _)) (keepsTables_recordLocated _ _ _ _)) (keepsTables_judgeAgreement.reporting _)) rfl

/-- An assessment keeps the tables (R116). -/
theorem keepsTables_assess (x : EpochNum) : KeepsTables P (assess x) := fun s => by
  unfold assess
  split
  · have moved : ∀ o, KeepsTables P (moveCells o) := fun _ _ => .untouched rfl
    exact (((keepsTables_takeMap _ s).trans (moved _ _)).trans
      ((((keepsTables_handOff x _ _ _).trans (keepsTables_handOff x _ _ _)).trans (keepsTables_handOff x _ _ _)).trans
        (keepsTables_handOff x _ _ _))).trans (keepsTables_evaluateTrips _)
  · exact keepsTables_evaluateTrips s

end

end Sys2Proof.Machine

/-! The frame `TablesKept` for the Peer Table, the fault unit, the span link, the Timeline Unit and the delivered frames. -/

namespace Sys2Proof.Machine

section
variable {P : Engine → Prop}

/-! ## Peers and fault unit (Chapters 6 and 10) -/

theorem keepsTables_judgeImpaired : KeepsTables P judgeImpaired := fun s =>
  .ite (.refl s) (.after (keepsTables_evaluateTrips _) rfl)

theorem keepsTables_judgeSilent : KeepsTables P judgeSilent := fun s =>
  .ite (.refl s) (.ite (.after (keepsTables_judgeImpaired _) rfl) (.after (keepsTables_judgeImpaired _) rfl))

theorem keepsTables_frameHeard : KeepsTables P frameHeard := fun _ => .after (keepsTables_judgeSilent _) rfl

theorem keepsTables_missReport (p : QueueEntry → Bool) : KeepsTables P (missReport p) := fun s => by
  rw [missReport_eq]
  exact .untouched rfl

theorem keepsTables_setJammed : KeepsTables P setJammed := fun s =>
  have missed := keepsTables_missReport (P := P) (fun _ => true) (s.setFault { s.fault with jammed := true })
  .trans (.trans (.trans (.untouched (by rfl)) missed) (.untouched (by rfl))) (keepsTables_judgeImpaired _)

theorem keepsTables_clearJammed : KeepsTables P clearJammed := fun _ => .after (keepsTables_judgeImpaired _) rfl

theorem keepsTables_epochBusy : KeepsTables P epochBusy := fun s =>
  .ite (.ite (.refl s) (keepsTables_clearJammed s)) (.ite (.after (keepsTables_setJammed _) rfl) (.untouched rfl))

theorem keepsTables_epochSilence : KeepsTables P epochSilence := fun _ => .after (keepsTables_judgeSilent _) rfl

theorem keepsTables_judgeSource : KeepsTables P judgeSource := fun s => .ite (.refl s) (.untouched rfl)

theorem keepsTables_tableChanged : KeepsTables P tableChanged := fun s =>
  .trans (.trans (keepsTables_judgeSource s) (.untouched (by rfl))) (keepsTables_judgeSilent _)

theorem keepsTables_modifyPeer (k : Nat) {f : PeerEntry → PeerEntry} (hf : KeepsRing f) : KeepsTables P (modifyPeer k f) :=
  fun _ => .entries fun h => h.modifyAt hf k

/-- An entry taken or given back starts with an empty ring (R97, R99, R104). -/
theorem keepsRing_of_empty {f : PeerEntry → PeerEntry} (h : ∀ e, (f e).ring = []) : KeepsRing f := fun e _ => by
  rw [h]
  exact Nat.zero_le _

/-- A change of an entry that leaves its ring. -/
theorem keepsRing_of_same {f : PeerEntry → PeerEntry} (h : ∀ e, (f e).ring = e.ring) : KeepsRing f := fun e he => by
  rw [h]
  exact he

theorem keepsTables_setAdjacent (x : Side) (k : Option Nat) : KeepsTables P (setAdjacent x k) := fun s => by
  unfold setAdjacent
  split
  · exact .refl s
  · cases x <;> exact ⟨id, id, id, id, id⟩

theorem keepsTables_evaluateAdjacency : KeepsTables P evaluateAdjacency := fun s =>
  (keepsTables_setAdjacent _ _ s).trans (keepsTables_setAdjacent _ _ _)

theorem keepsTables_dropAdjacent (k : Nat) : KeepsTables P (dropAdjacent k) := fun s =>
  have up : TablesKept P s (if s.peers.adjacentUp = some k then setAdjacent .up none s else s) :=
    .ite (keepsTables_setAdjacent _ _ s) (.refl s)
  .ite (up.trans (keepsTables_setAdjacent _ _ _)) up

theorem keepsTables_freeSlot (k : Nat) : KeepsTables P (freeSlot k) := fun s =>
  (keepsTables_modifyPeer k (keepsRing_of_empty fun _ => rfl) s).trans (keepsTables_dropAdjacent _ _)

theorem keepsTables_evict (k : Nat) : KeepsTables P (evict k) := fun s =>
  have dropped := keepsTables_dropAdjacent (P := P) k s
  .ite (.refl s) (.ite dropped (dropped.trans (.untouched rfl)))

theorem TablesKept.setConflicts {s : State} {l : List Nat}
    (h : s.peers.conflicts.length ≤ Config.conflictListSize → l.length ≤ Config.conflictListSize) :
    TablesKept P s (setConflicts s l) := ⟨id, id, h, id, id⟩

theorem admitPeer_tablesKept (n p : Nat) (s : State) : TablesKept P s (admitPeer n p s).1 := by
  unfold admitPeer
  split
  · split
    · exact .refl s
    · exact .trans (t := recordConflict n p s) (.untouched rfl) (.setConflicts (conflictAdd_length n))
  · split
    · exact ⟨id, id, id, id, id⟩
    · exact .trans (.trans (.trans (keepsTables_evict _ s) (keepsTables_modifyPeer _ (keepsRing_of_empty fun _ => rfl) _))
        (.setConflicts (List.length_filter_le _ _).trans)) (keepsTables_tableChanged _)

theorem moved_tablesKept (k n p : Nat) (s : State) : TablesKept P s (moved k n p s).1 := by
  dsimp only [moved]
  split
  · exact .untouched rfl
  · split
    · exact .trans (.trans (.trans (keepsTables_freeSlot k s) (.untouched (by rfl))) (.setConflicts (conflictAdd_length n)))
        (keepsTables_tableChanged _)
    · exact .trans (.trans (keepsTables_modifyPeer k (keepsRing_of_empty fun _ => rfl) s) (keepsTables_dropAdjacent k _))
        (keepsTables_tableChanged _)

theorem keepsTables_judgeMismatch (k : Nat) (h : Header) : KeepsTables P (judgeMismatch k h) := fun s =>
  have judged := keepsTables_modifyPeer (P := P) k
    (keepsRing_of_same (f := fun e => { e with mismatched := decide (h.n ≠ s.port.image.n) }) fun _ => rfl) s
  .ite (judged.trans (.untouched rfl)) judged

theorem findEntry_tablesKept (h : Header) (s : State) : TablesKept P s (findEntry h s).1 := by
  have judged : ∀ r : State × Option Nat, TablesKept P s r.1 → TablesKept P s
      (match r with
        | (t, some k) => (judgeMismatch k h t, some k)
        | (t, none) => (t, none)).1 := by
    rintro ⟨t, _ | k⟩ found
    · exact found
    · exact found.trans (keepsTables_judgeMismatch k h t)
  unfold findEntry
  refine judged _ ?_
  split
  · split
    · exact .refl s
    · exact moved_tablesKept _ _ _ s
  · exact admitPeer_tablesKept _ _ s

theorem keepsRing_reportActs (n : Nat) (h : Header) (p : ReportPayload) :
    KeepsRing (fun e => reportOnState (reportOnEntry n h p e)) := by
  have state : ∀ e, (reportOnState e).ring = e.ring := fun e => by
    unfold reportOnState countProbation
    split
    · split
      · rfl
      · split <;> rfl
    all_goals rfl
  intro e he
  rw [state]
  exact ringOffer_length n h p he

theorem keepsTables_reportActs (k : Nat) (h : Header) (p : ReportPayload) : KeepsTables P (reportActs k h p) := fun s =>
  have acted := keepsTables_modifyPeer (P := P) k (keepsRing_reportActs s.port.image.n h p) s
  .ite (acted.trans (.untouched rfl)) acted

theorem keepsTables_otherActs (k : Nat) (h : Header) : KeepsTables P (otherActs k h) :=
  keepsTables_modifyPeer k (keepsRing_of_same fun _ => by rfl)

/-- A frame taken by the Peer Table: its entry found, what acts on that entry, and what every change of the table brings. -/
theorem keepsTables_tableReport (h : Header) (p : ReportPayload) : KeepsTables P (tableReport h p) := fun s => by
  have found := findEntry_tablesKept (P := P) h s
  unfold tableReport
  split
  · next heq => rw [heq] at found; exact (found.trans (keepsTables_reportActs _ h p _)).trans (keepsTables_tableChanged _)
  · next heq => rw [heq] at found; exact found.trans (keepsTables_tableChanged _)

theorem keepsTables_tableOther (h : Header) : KeepsTables P (tableOther h) := fun s => by
  have found := findEntry_tablesKept (P := P) h s
  unfold tableOther
  split
  · next heq => rw [heq] at found; exact (found.trans (keepsTables_otherActs _ h _)).trans (keepsTables_tableChanged _)
  · next heq => rw [heq] at found; exact found.trans (keepsTables_tableChanged _)

theorem keepsTables_tableAlert (h : Header) (c : AlertContent) : KeepsTables P (tableAlert h c) := fun s => by
  have found := findEntry_tablesKept (P := P) h s
  unfold tableAlert
  split
  · next t k heq =>
    rw [heq] at found
    have acted := ((found.trans (keepsTables_otherActs k h t)).trans (keepsTables_modifyPeer k
      (keepsRing_of_same (f := fun e => { e with snapshot := some c }) fun _ => rfl) _)).trans (keepsTables_tableChanged _)
    exact .ite (acted.trans (keepsTables_requestDisturbance _ _ _)) acted
  · next heq => rw [heq] at found; exact found.trans (keepsTables_tableChanged _)

theorem keepsRing_closeProbation : KeepsRing closeProbation := keepsRing_of_same fun e => by
  unfold closeProbation
  split <;> rfl

theorem keepsRing_aged : KeepsRing (fun e => closeProbation (raiseAge (raiseSilences e))) := fun e he => by
  refine keepsRing_closeProbation _ ?_
  unfold raiseAge raiseSilences
  split <;> split <;> exact he

theorem keepsTables_loseSlot (k : Nat) : KeepsTables P (loseSlot k) := fun s =>
  have lost := keepsTables_modifyPeer (P := P) k (keepsRing_of_same (f := fun e => { e with state := .lost }) fun _ => rfl) s
  lost.trans (.untouched rfl)

theorem keepsTables_moveSlot (k : Nat) : KeepsTables P (moveSlot k) := fun s =>
  .ite (keepsTables_modifyPeer k (keepsRing_of_same fun _ => by rfl) s)
    (.ite (keepsTables_loseSlot k s) (.ite (keepsTables_freeSlot k s) (.refl s)))

theorem keepsTables_agePeers : KeepsTables P agePeers := fun _ =>
  have moves : KeepsTables P (fun s => (List.range 16).foldl (fun s k => moveSlot k s) s) :=
    keepsTables_foldl keepsTables_moveSlot _
  .trans (.trans (.entries fun h => h.map keepsRing_aged) (moves _)) (keepsTables_tableChanged _)

theorem keepsTables_ageTables : KeepsTables P ageTables := fun s => (keepsTables_agePeers s).trans (keepsTables_ageRegister _)

theorem keepsTables_setMark (n : Nat) (b : Bool) : KeepsTables P (setMark n b) := fun s => by
  unfold setMark
  split
  · exact keepsTables_modifyPeer _ (keepsRing_of_same fun _ => by rfl) s
  · exact .refl s

theorem keepsTables_timelineJump (x : JumpTarget) : KeepsTables P (timelineJump x) := fun _ =>
  ⟨id, fun h => h.map (keepsRing_of_same fun _ => by rfl), id, id, id⟩

/-! ## Span link and Timeline Unit (Chapters 4 and 5) -/

theorem keepsTables_settle : KeepsTables P settle := fun s => by
  rw [settle_eq]
  exact .untouched rfl

theorem keepsTables_expireAlert : KeepsTables P expireAlert := fun s => .ite (.untouched rfl) (.refl s)

theorem keepsTables_abandonBackoff : KeepsTables P abandonBackoff := fun s => .ite (.untouched rfl) (.refl s)

theorem keepsTables_tellOwner (x : QueueSubject) : KeepsTables P (tellOwner x) := fun s => by
  have closed : ∀ kind fin, KeepsTables P (releaseClosed kind fin) := fun _ _ s =>
    (keepsTables_removeRecords _ s).trans (keepsTables_testCloseOnChange _)
  unfold tellOwner
  split
  · exact (closed _ _).reporting s
  · exact .refl s

theorem keepsTables_completeSeries (x : QueueSubject) : KeepsTables P (completeSeries x) := fun s => by
  unfold completeSeries
  split
  · exact .ite (.refl s) (.ite (.after (keepsTables_tellOwner x _) rfl) (.untouched rfl))
  · exact .refl s

theorem keepsTables_completeFrame : KeepsTables P completeFrame := fun s => by
  unfold completeFrame
  split
  · exact .after (keepsTables_completeSeries _ _) rfl
  · exact .untouched rfl

theorem keepsTables_countTimeout : KeepsTables P countTimeout := fun _ =>
  .ite (.after (keepsTables_judgeImpaired _) rfl) (.untouched rfl)

theorem keepsTables_clearTimeouts : KeepsTables P clearTimeouts := fun _ =>
  .ite (.after (keepsTables_judgeImpaired _) rfl) (.untouched rfl)

theorem keepsTables_completeIfDue : KeepsTables P completeIfDue := fun s =>
  .ite ((keepsTables_completeFrame s).trans (keepsTables_countTimeout _)) (.refl s)

theorem keepsTables_endReceptionIfDue : KeepsTables P endReceptionIfDue := fun s => .ite (.untouched rfl) (.refl s)

theorem keepsTables_endBackoffIfDue : KeepsTables P endBackoffIfDue := fun s => by
  rw [endBackoffIfDue_eq]
  exact .untouched rfl

/-- The counts of a strobe keep the tables (R56, R59, R78). -/
theorem keepsTables_strobeTimers : KeepsTables P strobeTimers := fun _ =>
  .after (.trans (.trans (keepsTables_completeIfDue _) (keepsTables_endReceptionIfDue _)) (keepsTables_endBackoffIfDue _)) rfl

theorem keepsTables_enterRun : KeepsTables P enterRun := fun _ => .after (keepsTables_evaluateTrips _) rfl

theorem keepsTables_countListen : KeepsTables P countListen := fun s =>
  .ite (.ite (.after (keepsTables_enterRun _) rfl) (.untouched rfl)) (.refl s)

theorem keepsTables_completeJoin : KeepsTables P completeJoin := fun s => .ite (keepsTables_enterRun s) (.refl s)

theorem keepsTables_shutWindow (x : EpochNum) : KeepsTables P (shutWindow x) := fun s => by
  rw [shutWindow_eq]
  exact .untouched rfl

theorem keepsTables_closeWindow (x : EpochNum) : KeepsTables P (closeWindow x) := fun s =>
  ((keepsTables_shutWindow x s).trans (keepsTables_evaluateAdjacency _)).trans (keepsTables_assess x _)

theorem keepsTables_leaveWindow : KeepsTables P leaveWindow := fun s =>
  .ite (.after (keepsTables_evaluateAdjacency _) rfl) (.refl s)

theorem keepsTables_jumpWindow (x : JumpTarget) : KeepsTables P (jumpWindow x) := fun s =>
  .ite ((keepsTables_leaveWindow s).trans (.untouched rfl)) (keepsTables_leaveWindow s)

theorem keepsTables_jumpQueue (x : JumpTarget) : KeepsTables P (jumpQueue x) := fun s =>
  (keepsTables_missReport _ s).trans (.untouched rfl)

theorem keepsTables_timelineReport (h : Header) (l : Stamp) : KeepsTables P (timelineReport h l) := fun s => by
  have jump : KeepsTables P (sourceJump h) := fun s => .ite (.untouched rfl) (.ite (.refl s) (.untouched rfl))
  have slew : ∀ e, KeepsTables P (sourceSlew e) := fun _ _ => .ite (.untouched rfl) (.untouched rfl)
  have source : KeepsTables P (sourceReport h l) := fun s => by
    unfold sourceReport
    dsimp only
    split
    · exact .after (jump _) rfl
    · exact .after (slew _ _) rfl
    · exact .untouched rfl
  have marked := keepsTables_setMark (P := P) h.sender (alignedBy s.port.image.n h l) s
  unfold timelineReport
  dsimp only
  split
  · exact marked
  · exact marked.trans (.ite (.untouched rfl) (.refl _))
  · exact .ite (marked.trans (source _)) marked

/-! ## Delivered frames (Chapter 4) -/

theorem keepsTables_takeReport (h : Header) (p : Payload) (l : Stamp) : KeepsTables P (takeReport h p l) := fun s => by
  unfold takeReport
  split
  · exact ((keepsTables_frameHeard s).trans (keepsTables_tableReport h _ _)).trans (keepsTables_timelineReport h l _)
  · exact .refl s

theorem tableOther_tablesKept (h : Header) (s : State) : TablesKept P s (tableOther h (setHold (frameHeard s))) :=
  ((keepsTables_frameHeard s).trans (.untouched (by rfl))).trans (keepsTables_tableOther h _)

theorem keepsTables_takeAlert (h : Header) (p : Payload) (l : Stamp) : KeepsTables P (takeAlert h p l) := fun s => by
  unfold takeAlert
  split
  · exact ((keepsTables_frameHeard s).trans (.untouched (by rfl))).trans (keepsTables_tableAlert h _ _)
  · exact .refl s

theorem keepsTables_takeClaimFrame (h : Header) (p : Payload) (l : Stamp) : KeepsTables P (takeClaimFrame h p l) := fun s => by
  unfold takeClaimFrame
  split
  · exact (tableOther_tablesKept h s).trans ((keepsTables_takeClaim _ _ _).reporting _)
  · exact .refl s

theorem keepsTables_takeReleaseFrame (h : Header) (p : Payload) (l : Stamp) : KeepsTables P (takeReleaseFrame h p l) :=
  fun s => by
  unfold takeReleaseFrame
  split
  · exact (tableOther_tablesKept h s).trans ((keepsTables_takeRelease _ _).reporting _)
  · exact .refl s

theorem keepsTables_trippedBlocks (n : Nat) (h : Header) (c : TrippedContent) : KeepsTables P (trippedBlocks n h c) := fun s => by
  have d : KeepsTables P (detectorTripped h c) := fun s => .ite ((keepsTables_enterDeenergized _ _).reporting s) (.refl s)
  have r := (keepsTables_coverZone (P := P) c).reporting
  have l := keepsTables_linkageTripped (P := P) h.sender c
  dsimp only [trippedBlocks]
  split
  · exact ((d s).trans (r _)).trans (l _)
  · exact ((d s).trans (l _)).trans (r _)
  · exact ((r s).trans (d _)).trans (l _)
  · exact ((r s).trans (l _)).trans (d _)
  · exact ((l s).trans (d _)).trans (r _)
  · exact ((l s).trans (r _)).trans (d _)

theorem keepsTables_takeTripped (h : Header) (p : Payload) (l : Stamp) : KeepsTables P (takeTripped h p l) := fun s => by
  unfold takeTripped
  split
  · exact ((tableOther_tablesKept h s).trans (.untouched (by rfl))).trans (keepsTables_trippedBlocks _ _ _ _)
  · exact .refl s

theorem keepsTables_deliver (kind : Nat) {act : Header → Payload → Stamp → State → State}
    (h : ∀ x p l, KeepsTables P (act x p l)) (frame : List Byte) : KeepsTables P (deliver kind act frame) := fun s => by
  unfold deliver
  split
  · exact .untouched rfl
  · exact .ite (.after (h _ _ _ _) rfl) (.refl s)

/-! ## Free orders -/

theorem KeepsTables.eitherOrder {f g : State → State} (hf : KeepsTables P f) (hg : KeepsTables P g) (race : State → Bool)
    (order : Nat → Bool) : KeepsTables P (fun s => eitherOrder (race s) order f g s) := by
  intro s
  have chosen : TablesKept P s { s with choices := s.choices + 1 } := .untouched rfl
  exact .ite (.ite ((chosen.trans (hf _)).trans (hg _)) ((chosen.trans (hg _)).trans (hf _))) ((hg s).trans (hf _))

theorem keepsTables_silenceAnd {f : State → State} (h : KeepsTables P f) : KeepsTables P (silenceAnd f) :=
  keepsTables_epochSilence.eitherOrder h (fun s => jamChanging s && silentChanging s) _

theorem keepsTables_busyAndRecord {f : State → State} (h : KeepsTables P f) : KeepsTables P (busyAndRecord f) :=
  keepsTables_epochBusy.eitherOrder h jamComing _

theorem keepsTables_recordAndClose (x : EpochNum) {f : State → State} (h : KeepsTables P f) : KeepsTables P (recordAndClose x f) :=
  fun s => .ite ((keepsTables_closeWindow x).eitherOrder h (fun _ => true) _ s) (h s)

end

end Sys2Proof.Machine

/-! What every command does with the engine, and the tables with it: every step keeps the sizes of the tables (O7). -/

namespace Sys2Proof.Machine

/-- A predicate of the engine that holds after a reset and that each of the engine's own operations keeps (Chapter 2). -/
structure EngineInvariant (P : Engine → Prop) : Prop where
  init : P Init.engine
  modes : ∀ {e} m, P e → P { e with cycleModes := m }
  accumulate : ∀ {e} set, P e → P (accumulate set e)
  closeCycle : ∀ {e} valid, P e → P (closeCycle valid e)
  beginEpoch : ∀ {e} discard, P e → P (beginEpoch discard e)
  insert : ∀ {e} r, P e → P { e with ring := ringInsert r e.ring }
  clear : ∀ {e}, P e → P { e with ring := [] }

section
variable {P : Engine → Prop}

theorem KeepsTables.ite {f : State → State} (p : State → Prop) [DecidablePred p] (hf : KeepsTables P f) :
    KeepsTables P (fun s => if p s then f s else s) := fun s => .ite (hf s) (.refl s)

theorem KeepsTables.whileWorking {f : State → State} (h : KeepsTables P f) : KeepsTables P (whileWorking f) := fun s =>
  .ite ((h s).trans (keepsTables_settle _)) (.refl s)

theorem keepsTables_recordTracker (es : List TrackerEvent) : KeepsTables P (recordTracker es) := by
  induction es with
  | nil => exact .refl
  | cons e es ih => exact fun s => .after (ih _) rfl

theorem keepsTables_evaluateTracker : KeepsTables P evaluateTracker := fun _ => .after (keepsTables_recordTracker _ _) rfl

theorem keepsTables_boundaryContinues : KeepsTables P boundaryContinues := fun s => .ite (keepsTables_closeWindow _ s) (.refl s)

theorem keepsTables_fallHold : KeepsTables P fallHold := fun _ => .untouched rfl

theorem keepsTables_openWindow : KeepsTables P openWindow := fun _ => .untouched rfl

theorem keepsTables_setAssessor (f : State → Assessor) : KeepsTables P (fun s => s.setAssessor (f s)) := fun _ => .untouched rfl

theorem keepsTables_takePen (level : Bool) : KeepsTables P (takePen level) := fun s =>
  have held : TablesKept P s (holdPen level s) := ⟨id, id, id, id, id⟩
  .ite held (held.trans (keepsTables_evaluateTrips _))

theorem keepsTables_takeOpen (o : Output) (level : Bool) : KeepsTables P (fun s => takeOpen o level (setOpenPin o level s)) :=
  fun s => by
  have held : TablesKept P s (holdOpen o level (setOpenPin o level s)) := by cases o <;> exact ⟨id, id, id, id, id⟩
  exact .ite (held.trans (keepsTables_confirmTrip keepsTables_evaluateTrips o _)) held

theorem keepsTables_transact {act : State → Reply × State} (h : ∀ s, TablesKept P s (act s).2) : KeepsTables P (transact act) :=
  fun s => by
  unfold transact
  dsimp only
  split
  · exact .refl s
  · split
    · exact .untouched rfl
    · refine .trans (t := (act (s.setPort _)).2) ?_ (.untouched rfl)
      exact .after (h _) rfl

end

section
variable {P : Engine → Prop} (hP : EngineInvariant P)
include hP

/-! ## The sample port and the cycle (R17 to R25) -/

theorem keepsTables_patchStrobe : KeepsTables P patchStrobe := fun s => by
  have patched : TablesKept P s
      { s with engine := accumulate s.sampling.held s.engine, sampling := countPatch s.sampling } :=
    ⟨hP.accumulate _, id, id, id, id⟩
  exact .ite (.ite (patched.trans (.untouched rfl)) patched) (.refl s)

theorem keepsTables_takeSampleSet (set : SampleSet) : KeepsTables P (takeSampleSet set) := fun s => by
  have resumed : TablesKept P s (resumeSampling s) := by rw [resumeSampling_eq]; exact .untouched rfl
  exact .ite (resumed.trans ⟨hP.accumulate _, id, id, id, id⟩) (.refl s)

theorem keepsTables_takeEdge (φ : Phase) (at_ : Tick) : KeepsTables P (takeEdge φ at_) := fun s => by
  have advanced : TablesKept P s (advanceTo s at_) := by rw [advanceTo_eq]; exact .untouched rfl
  refine .trans ?_ (keepsTables_recordTracker (edge (advanceTo s at_).port.image φ at_ (advanceTo s at_).tracker).2 _)
  exact advanced.trans ⟨hP.modes _, id, id, id, id⟩

theorem keepsTables_nextStrobe : KeepsTables P nextStrobe := fun s => by
  have advanced : TablesKept P s (advanceToSome s (strobeDue s)) := by rw [advanceToSome_eq]; exact .untouched rfl
  unfold nextStrobe
  split
  · exact .ite ((advanced.trans (keepsTables_patchStrobe hP _)).trans (.after (keepsTables_strobeTimers _) rfl)) (.refl s)
  · exact .refl s

/-! ## The boundary (Chapters 1 to 5) -/

theorem keepsTables_takeRecord (r : EpochRecord) : KeepsTables P (takeRecord r) := fun s =>
  have entered : TablesKept P s (s.setEngine { s.engine with ring := ringInsert r s.engine.ring }) :=
    ⟨hP.insert r, id, id, id, id⟩
  have taken := entered.trans ((keepsTables_handRecord r).reporting _)
  .ite (taken.trans (.untouched rfl)) taken

theorem keepsTables_endAccumulation (e : EpochNum) (b : Bool) (φ : Phase) (m : TrackerMode) :
    KeepsTables P (endAccumulation e b φ m) := fun s =>
  have begun : TablesKept P s (s.setEngine (beginEpoch false s.engine)) := ⟨hP.beginEpoch false, id, id, id, id⟩
  .ite begun (begun.trans (keepsTables_takeRecord hP _ _))

theorem keepsTables_boundaryEnds (e : EpochNum) (b : Bool) (φ : Phase) (m : TrackerMode) :
    KeepsTables P (boundaryEnds e b φ m) := fun s => by
  have begun : TablesKept P s (if b then s.setTimeline { s.timeline with slewGuard := false } else s) :=
    .ite (.untouched rfl) (.refl s)
  have aged := (((begun.trans (keepsTables_countListen _)).trans (keepsTables_fallHold _)).trans
    (keepsTables_expireAlert _)).trans (keepsTables_ageTables _)
  have judged := keepsTables_silenceAnd (keepsTables_busyAndRecord (keepsTables_recordAndClose e
    (keepsTables_endAccumulation hP e b φ m)))
  exact (aged.trans (judged _)).trans (keepsTables_openWindow _)

theorem keepsTables_boundaryJumps (x : JumpTarget) : KeepsTables P (boundaryJumps x) := fun s => by
  have cleared : TablesKept P s (s.setEngine (engineJump x.cycle s.engine)) :=
    ⟨fun h => hP.clear (hP.beginEpoch _ h), id, id, id, id⟩
  have gone := (((cleared.trans (keepsTables_jumpQueue x _)).trans (keepsTables_jumpWindow x _)).trans
    (keepsTables_timelineJump x _)).trans (keepsTables_returnToBlind _)
  have judged := (gone.trans (keepsTables_setAssessor (fun t => assessorJump t.assessor) _)).trans
    (keepsTables_judgeAgreement.reporting _)
  have entered := (judged.trans (keepsTables_completeJoin _)).trans (keepsTables_fallHold _)
  exact (entered.trans (keepsTables_ageTables _)).trans (keepsTables_silenceAnd keepsTables_epochBusy _)

theorem keepsTables_endCycle : KeepsTables P endCycle := fun s =>
  (keepsTables_patchStrobe hP s).trans ⟨hP.closeCycle _, id, id, id, id⟩

/-- A cycle boundary keeps the tables (R5). -/
theorem keepsTables_boundaryBody : KeepsTables P boundaryBody := fun s => by
  have tail : KeepsTables P (fun t => strobeTimers (abandonBackoff (judgePosture (beginCycle t)))) := fun t =>
    have begun : TablesKept P t (judgePosture (beginCycle t)) := ⟨hP.modes _, id, id, id, id⟩
    (begun.trans (keepsTables_abandonBackoff _)).trans (keepsTables_strobeTimers _)
  have advanced : TablesKept P s (advanceToSome s s.tracker.next) := by rw [advanceToSome_eq]; exact .untouched rfl
  have judged : ∀ kind k, TablesKept P s (evaluateTracker (linkageTimers kind
      (endCycle ((advanceToSome s s.tracker.next).setTracker k)))) := fun kind k =>
    (((advanced.trans (.untouched (by rfl))).trans (keepsTables_endCycle hP _)).trans (keepsTables_linkageTimers kind _)).trans
      (keepsTables_evaluateTracker _)
  unfold boundaryBody
  dsimp only
  refine .trans ?_ (tail _)
  split
  · exact (judged _ _).trans (keepsTables_boundaryContinues _)
  · exact (judged _ _).trans (keepsTables_boundaryEnds hP _ _ _ _ _)
  · exact (judged _ _).trans (keepsTables_boundaryJumps hP _ _)

/-! ## Resets and START (R182, R184, R185) -/

/-- A reset leaves every table in its reset state. -/
theorem resetBlocks_tablesKept {s : State} (image : Image) (t : State) : TablesKept P s (resetBlocks image t) where
  engine _ := hP.init
  peers _ := by
    refine ⟨rfl, fun e he => ?_⟩
    rw [List.eq_of_mem_replicate he]
    exact Nat.zero_le _
  conflicts _ := Nat.zero_le _
  runtimes _ := rfl
  trips _ := Nat.zero_le _

theorem keepsTables_endValidation : KeepsTables P endValidation := fun s => by
  have started : TablesKept P s (startInstant s) := ⟨fun _ => hP.modes _ (hP.beginEpoch _ hP.init), id, id, id, id⟩
  unfold endValidation
  split
  · split
    · exact .untouched rfl
    · exact started.trans (keepsTables_settle _)
  · exact .refl s

/-! ## Every command -/

/-- Every command keeps the tables, and every invariant of the engine. -/
theorem exec_tablesKept (c : Instr) {s t : State} (ht : exec c s = .next t) : TablesKept P s t := by
  have reads : ∀ reply : State → Reply, KeepsTables P (transact (readOnly reply)) := fun _ =>
    keepsTables_transact fun _ => .untouched rfl
  have working : ∀ {f : State → State}, KeepsTables P f → t = whileWorking f s → TablesKept P s t :=
    fun hf e => e ▸ hf.whileWorking s
  cases c with
  | powerOnReset => cases ht; exact resetBlocks_tablesKept hP _ _
  | resetPin => cases ht; exact resetBlocks_tablesKept hP _ _
  | resetPinAsserted => cases ht; exact resetBlocks_tablesKept hP _ _
  | reset =>
    cases ht
    exact .ite (.refl s) ((resetBlocks_tablesKept hP s.port.image s).trans (.untouched (by rfl)))
  | getStatus => cases ht; exact reads _ s
  | getRecord k => cases ht; exact reads _ s
  | getPeer k => cases ht; exact reads _ s
  | getClaims => cases ht; exact reads _ s
  | getMap => cases ht; exact reads _ s
  | badCommand => cases ht; exact reads _ s
  | popEvent =>
    cases ht
    refine keepsTables_transact (fun s => ?_) s
    unfold popEvent
    split <;> exact .untouched rfl
  | loadConfig image =>
    cases ht
    refine keepsTables_transact (fun s => ?_) s
    unfold loadConfig
    split <;> exact .untouched rfl
  | start =>
    cases ht
    refine keepsTables_transact (fun s => ?_) s
    unfold startValidation
    split <;> exact .untouched rfl
  | startValidationEnd => cases ht; exact .ite (.refl s) (keepsTables_endValidation hP s)
  | crossingEdge φ at_ => cases ht; exact working (keepsTables_takeEdge hP φ at_) rfl
  | referenceMiss =>
    cases ht
    refine working (fun s => ?_) rfl
    unfold missReference
    split
    · dsimp only
      rw [advanceTo_eq]
      exact .untouched rfl
    · exact .refl s
  | cycleBoundary => cases ht; exact working (keepsTables_boundaryBody hP) rfl
  | sampleStrobe => cases ht; exact working (keepsTables_nextStrobe hP) rfl
  | sampleStall => cases ht; exact working (.ite (fun s => stallDue s.sampling = true) fun _ => .untouched (by rfl)) rfl
  | sampleSetArrival set => cases ht; exact working (keepsTables_takeSampleSet hP set) rfl
  | listenTimeout => cases ht; exact working (.ite (fun s => listenDue s = true) keepsTables_enterRun) rfl
  | disturbanceClose => cases ht; exact working keepsTables_testClose.reporting rfl
  | disturbanceTimeout =>
    cases ht
    exact working (KeepsTables.ite (fun s => forceDue s = true) keepsTables_forceClose).reporting rfl
  | blindExit =>
    cases ht
    exact working (KeepsTables.ite (fun s => blindExitDue s = true) keepsTables_leaveBlind).reporting rfl
  | deenergizedRestored =>
    cases ht
    exact working (KeepsTables.ite (fun s => restoreDue s = true) keepsTables_restoreLine).reporting rfl
  | alertExpired => cases ht; exact working keepsTables_expireAlert rfl
  | vigilanceHoldExpired => cases ht; exact working (.ite (fun s => s.link.hold = 0) fun _ => .untouched (by rfl)) rfl
  | probationWindowPassed k => cases ht; exact working (keepsTables_modifyPeer _ keepsRing_closeProbation) rfl
  | peerStale k =>
    cases ht
    have stale : KeepsTables P (modifyPeer k (fun e => { e with state := .stale })) :=
      keepsTables_modifyPeer _ (keepsRing_of_same fun _ => rfl)
    exact working (.ite (fun s => staleDue (peerAt s k) = true) fun s => (stale s).trans (keepsTables_tableChanged _)) rfl
  | peerLost k =>
    cases ht
    exact working (.ite (fun s => lostDue (peerAt s k) = true) fun s =>
      (keepsTables_loseSlot k s).trans (keepsTables_tableChanged _)) rfl
  | peerFreed k =>
    cases ht
    exact working (.ite (fun s => freeDue (peerAt s k) = true) fun s =>
      (keepsTables_freeSlot k s).trans (keepsTables_tableChanged _)) rfl
  | claimRefresh k f => cases ht; exact working (keepsTables_refreshIfDue (ownKey s k f)).reporting rfl
  | claimExpired key => cases ht; exact working (keepsTables_expireClaim key).reporting rfl
  | delayEnd k => cases ht; exact working (.ite (fun s => delayEnded s k = true) keepsTables_evaluateTrips) rfl
  | backupTrip k =>
    cases ht
    refine working (fun s => ?_) rfl
    split
    · exact keepsTables_expireBackup _ _ s
    · exact .refl s
  | jammedSet => cases ht; exact working (.ite (fun s => jamDue s = true) keepsTables_setJammed) rfl
  | silentSet => cases ht; exact working keepsTables_judgeSilent rfl
  | txDone =>
    cases ht
    have completed : KeepsTables P (fun s => if s.link.sending then completeFrame s else s) :=
      .ite (fun s => s.link.sending = true) keepsTables_completeFrame
    exact working (fun s => (completed s).trans (keepsTables_clearTimeouts _)) rfl
  | txCompletionTimeout => cases ht; exact working keepsTables_completeIfDue rfl
  | backoffEnd => cases ht; exact working keepsTables_endBackoffIfDue rfl
  | channelBusyChange level =>
    cases ht
    have watched : KeepsTables P (watchBusy level) := fun s => .ite (.refl s) (.untouched (by rfl))
    exact .after (watched.whileWorking { s with busyPin := level }) rfl
  | rxStart => cases ht; exact working (.ite (fun s => s.link.receiverEnable = true) fun _ => .untouched (by rfl)) rfl
  | receptionTimeout => cases ht; exact working keepsTables_endReceptionIfDue rfl
  | reportReceived frame => cases ht; exact working (keepsTables_deliver 1 keepsTables_takeReport frame) rfl
  | alertReceived frame => cases ht; exact working (keepsTables_deliver 2 keepsTables_takeAlert frame) rfl
  | claimReceived frame => cases ht; exact working (keepsTables_deliver 3 keepsTables_takeClaimFrame frame) rfl
  | releaseReceived frame => cases ht; exact working (keepsTables_deliver 4 keepsTables_takeReleaseFrame frame) rfl
  | trippedReceived frame => cases ht; exact working (keepsTables_deliver 5 keepsTables_takeTripped frame) rfl
  | receivedFrameDropped frame => cases ht; exact working (keepsTables_deliver 0 (fun _ _ _ s => .refl s) frame) rfl
  | penChange level => cases ht; exact .ite (.untouched (by rfl)) ((keepsTables_takePen level s).trans (keepsTables_settle _))
  | openConfirmChange o level =>
    cases ht
    have set : TablesKept P s (setOpenPin o level s) := by cases o <;> exact .untouched rfl
    exact .ite set ((keepsTables_takeOpen o level s).trans (keepsTables_settle _))
  | tripFailed o => cases ht; exact working (keepsTables_failIfDue o) rfl

/-- Every step keeps the tables, and every invariant of the engine; one with no command waiting moves the timebase or the queue of
commands alone. -/
theorem step_tablesKept {s t : State} (h : step s = .next t) : TablesKept P s t := by
  unfold step at h
  split at h
  · cases h
    unfold idle
    split <;> exact .untouched rfl
  · next rest _ => exact .trans (t := { s with pending := rest }) (.untouched rfl) (exec_tablesKept hP _ h)

end

/-! ## The sizes (R33, R95, R97, R105, R155, R167) -/

/-- Only an insertion and a clearing touch the history ring (R33, R34). -/
theorem ringOk_engineInvariant : EngineInvariant RingOk where
  init := ⟨Nat.zero_le _, List.nodup_nil⟩
  modes _ h := h
  accumulate _ h := h
  closeCycle _ h := h
  beginEpoch _ h := h
  insert r h := h.insert r
  clear _ := ⟨Nat.zero_le _, List.nodup_nil⟩

/-- Settles O7: `step_tablesKept` at the history ring's bound. -/
theorem tableSizeInvariant : Obligations.TableSizeInvariant := by
  intro s t h hstep
  obtain ⟨ring, peers, conflicts, runtimes, trips⟩ := tablesOk_iff.mp h
  have kept := step_tablesKept ringOk_engineInvariant hstep
  exact tablesOk_iff.mpr
    ⟨kept.engine ring, kept.peers peers, kept.conflicts conflicts, kept.runtimes runtimes, kept.trips trips⟩

end Sys2Proof.Machine

/-! The record of an epoch (O36): what an epoch's sums are, that every step keeps them, and the record that the boundary forms. -/

namespace Sys2Proof.Machine

/-! ## The sums of an epoch's cycles (R26, R28) -/

theorem PerPhase.get_zip {α β γ : Type} (f : α → β → γ) (a : PerPhase α) (b : PerPhase β) (φ : Phase) :
    (PerPhase.zip f a b).get φ = f (a.get φ) (b.get φ) := by cases φ <;> rfl

theorem PerPhase.get_map {α β : Type} (f : α → β) (a : PerPhase α) (φ : Phase) : (a.map f).get φ = f (a.get φ) := by
  cases φ <;> rfl

theorem cycleSum_append (f : Means → Nat) (cs : List ClosedCycle) (c : ClosedCycle) :
    cycleSum f (cs ++ [c]) = if c.valid then cycleSum f cs + f c.magnitudes else cycleSum f cs := by
  unfold cycleSum
  cases hc : c.valid <;> simp [hc]

theorem validCycles_append (cs : List ClosedCycle) (c : ClosedCycle) :
    validCycles (cs ++ [c]) = if c.valid then validCycles cs + 1 else validCycles cs := by
  unfold validCycles
  cases hc : c.valid <;> simp [hc]

/-- The irregularity step between two consecutive cycles (R28). -/
def residualStep (a b : ClosedCycle) : Nat :=
  if a.valid = true ∧ b.valid = true then max a.magnitudes.r b.magnitudes.r - min a.magnitudes.r b.magnitudes.r else 0

/-- A closing cycle adds its step from the cycle before it, if the epoch has one (R28). -/
theorem irregularitySteps_append (cs : List ClosedCycle) (c : ClosedCycle) :
    irregularitySteps (cs ++ [c]) = irregularitySteps cs + cs.getLast?.elim 0 (fun a => residualStep a c) := by
  induction cs with
  | nil => rfl
  | cons a cs ih =>
    cases cs with
    | nil => exact (Nat.zero_add _).symm
    | cons b cs =>
      have unfolded : ∀ l, irregularitySteps (a :: b :: l) = residualStep a b + irregularitySteps (b :: l) := fun _ => rfl
      rw [List.cons_append] at ih
      rw [List.cons_append, List.cons_append, unfolded, unfolded, ih, List.getLast?_cons_cons, Nat.add_assoc]

/-- The engine's irregularity count follows the steps (R28). -/
theorem irregularityStep_eq {e : Engine} (hi : e.irregularity = min 65535 (irregularitySteps e.closed))
    (hp : e.previous = e.closed.getLast?.map (fun c => ⟨c.magnitudes.r, c.valid⟩)) (c : ClosedCycle) :
    irregularityStep e c.magnitudes.r c.valid = min 65535 (irregularitySteps (e.closed ++ [c])) := by
  rw [irregularitySteps_append]
  unfold irregularityStep
  rw [hp, hi]
  cases e.closed.getLast? with
  | none => rfl
  | some a =>
    simp only [Option.map_some, Option.elim_some, residualStep, absDiff, Bool.and_eq_true]
    by_cases h : a.valid = true ∧ c.valid = true
    · rw [if_pos h.symm, if_pos h]
      omega
    · rw [if_neg fun k => h k.symm, if_neg h, Nat.add_zero]

theorem EpochOk.closeCycle {e : Engine} (h : EpochOk e) (valid : Bool) : EpochOk (closeCycle valid e) := by
  obtain ⟨phases, residual, count, irregularity, previous⟩ := h
  have closed : (Machine.closeCycle valid e).closed = e.closed ++ [⟨magnitudes e.acc, valid⟩] := rfl
  have sums : (Machine.closeCycle valid e).sums = if valid then Means.zip (· + ·) e.sums (magnitudes e.acc) else e.sums := rfl
  unfold EpochOk
  simp only [closed, sums, cycleSum_append, validCycles_append]
  refine ⟨fun φ => ?_, ?_, ?_, irregularityStep_eq irregularity previous ⟨magnitudes e.acc, valid⟩, ?_⟩
  · obtain ⟨current, voltage⟩ := phases φ
    cases valid
    · exact ⟨current, voltage⟩
    · exact ⟨(PerPhase.get_zip _ _ _ _).trans (congrArg (· + _) current),
        (PerPhase.get_zip _ _ _ _).trans (congrArg (· + _) voltage)⟩
  · cases valid
    · exact residual
    · exact congrArg (· + _) residual
  · cases valid
    · exact count
    · exact congrArg (· + 1) count
  · simp [Machine.closeCycle]

theorem beginEpoch_epochOk (discard : Bool) (e : Engine) : EpochOk (beginEpoch discard e) :=
  ⟨fun φ => by cases φ <;> exact ⟨rfl, rfl⟩, rfl, rfl, rfl, rfl⟩

/-- Each of the engine's operations keeps the sums those of the closed cycles (R21, R26, R28). -/
theorem epochOk_engineInvariant : EngineInvariant EpochOk where
  init := beginEpoch_epochOk false Init.engine
  modes _ h := h
  accumulate _ h := h
  closeCycle valid h := h.closeCycle valid
  beginEpoch discard _ := beginEpoch_epochOk discard _
  insert _ h := h
  clear h := h

/-! ## The record (R27 to R31) -/

/-- A cycle is valid with fewer than 4 patched sets and no STALL seen (R19, R24). -/
theorem cycleValid_eq (p : Sampling) : cycleValid p = decide (p.patched < 4 ∧ p.stallSeen = false) := by
  unfold cycleValid Config.patchedLimit
  cases p.stallSeen <;> simp

theorem recordInvalid_iff {n : Nat} {e : Engine} :
    recordInvalid n e = true ↔ 2 * e.validCount < n ∨ e.cycleModes = ⟨true, false, false⟩ := by
  have few : e.validCount < (n + 1) / 2 ↔ 2 * e.validCount < n := by omega
  simp only [recordInvalid, endedSeeking, Bool.or_eq_true, decide_eq_true_eq, few]

/-- The values of a record are the means over the epoch's valid cycles, and its counts those of its cycles (R27 to R29). -/
theorem formRecord_values {e : Engine} (h : EpochOk e) (n : Nat) (epoch : EpochNum) (slewed : Bool) (ref : Phase)
    (mode : TrackerMode) :
    let r := formRecord n epoch slewed ref mode e
    (∀ φ, r.means.i.get φ = cycleSum (fun m => m.i.get φ) e.closed / validCycles e.closed ∧
      r.means.v.get φ = cycleSum (fun m => m.v.get φ) e.closed / validCycles e.closed) ∧
    r.means.r = cycleSum (fun m => m.r) e.closed / validCycles e.closed ∧
    r.irregularity = min 65535 (irregularitySteps e.closed) ∧ r.validCycles = validCycles e.closed ∧
    (r.invalid = true ↔ 2 * validCycles e.closed < n ∨ e.cycleModes = ⟨true, false, false⟩) := by
  obtain ⟨phases, residual, count, irregularity, -⟩ := h
  have mean : ∀ (m : PerPhase Nat) φ, (m.map (fun sum => sum / e.validCount)).get φ = m.get φ / validCycles e.closed :=
    fun m φ => by rw [PerPhase.get_map, count]
  refine ⟨fun φ => ?_, ?_, irregularity, count, ?_⟩
  · rw [← (phases φ).1, ← (phases φ).2]
    exact ⟨mean _ φ, mean _ φ⟩
  · rw [← residual, ← count]
    rfl
  · rw [← count]
    exact recordInvalid_iff

/-! ## The boundary that forms it (R26, R27, R33) -/

/-- The engine of an ended cycle: its last set settled and the cycle closed (R18, R21, R23). -/
def engineClosed (s : State) : Engine := closeCycle (cycleValid (patchStrobe s).sampling) (patchStrobe s).engine

/-- The record that a boundary which ends an epoch forms, from the engine of the ended cycle and the tracker as it stood (R27). -/
def epochRecord (s : State) : EpochRecord :=
  formRecord s.port.image.n s.tracker.epoch s.tracker.slewed s.tracker.ref s.tracker.mode (engineClosed s)

theorem cycleEnded_engine (s : State) : (cycleEnded s).engine = engineClosed s := by
  obtain ⟨sampling, engine⟩ := patchStrobe_congr
    (s := (advanceToSome s s.tracker.next).setTracker (trackerFalls s.port.image (windowsClosed s.tracker))) (t := s)
    (by simp) (by simp)
  unfold engineClosed
  rw [← sampling, ← engine]
  rfl

/-- Settling the last set changes the accumulators alone in the engine (R21). -/
theorem patchStrobe_engine (s : State) : (patchStrobe s).engine = { s.engine with acc := (patchStrobe s).engine.acc } := by
  unfold patchStrobe
  split
  · dsimp only
    split <;> rfl
  · rfl

theorem engineClosed_eq (s : State) : engineClosed s =
    closeCycle (cycleValid (patchStrobe s).sampling) { s.engine with acc := (patchStrobe s).engine.acc } := by
  unfold engineClosed
  rw [← patchStrobe_engine]

/-- What the end of an epoch makes of the engine (R26, R27, R32, R33). -/
def engineEnds (ended : EpochNum) (slewed : Bool) (ref : Phase) (mode : TrackerMode) (image : Image) (e : Engine) : Engine :=
  if e.discard then beginEpoch false e
  else { beginEpoch false e with ring := ringInsert (formRecord image.n ended slewed ref mode e) e.ring }

/-- What an operation makes of the engine follows from the engine and the image alone. -/
def MakesEngine (F : Image → Engine → Engine) (f : State → State) : Prop := ∀ s, (f s).engine = F s.port.image s.engine

theorem endAccumulation_makesEngine (ended : EpochNum) (slewed : Bool) (ref : Phase) (mode : TrackerMode) :
    MakesEngine (engineEnds ended slewed ref mode) (endAccumulation ended slewed ref mode) := by
  intro s
  have taken : ∀ r t, (takeRecord r t).engine = { t.engine with ring := ringInsert r t.engine.ring } := by
    intro r t
    have handed := (keeps_reporting (keeps_handRecord r) (t.setEngine { t.engine with ring := ringInsert r t.engine.ring })).engine
    unfold takeRecord
    dsimp only
    split <;> exact handed
  unfold endAccumulation engineEnds
  dsimp only
  split
  · rfl
  · exact taken _ _

/-- An operation that leaves engine and image changes nothing of that, whether it comes first or last. -/
theorem MakesEngine.inEitherOrder {F : Image → Engine → Engine} {f g : State → State} (hg : MakesEngine F g)
    (hf : ∀ P, KeepsTables P f) (kf : KeepsCore f) (race : State → Bool) (order : Nat → Bool) :
    MakesEngine F (fun s => eitherOrder (race s) order f g s) := by
  have last : ∀ s, (f (g s)).engine = F s.port.image s.engine := fun s => (TablesKept.engine_eq fun P => hf P _).trans (hg s)
  have first : ∀ s, (g (f s)).engine = F s.port.image s.engine := fun s => by
    rw [hg, (kf s).image, TablesKept.engine_eq fun P => hf P s]
  intro s
  dsimp only
  unfold eitherOrder
  split
  · dsimp only
    split
    · exact first { s with choices := s.choices + 1 }
    · exact last { s with choices := s.choices + 1 }
  · exact last s

/-- The record's boundary brings the engine nothing but the end of its epoch (R26, R27, R33). -/
theorem boundaryEnds_makesEngine (ended : EpochNum) (slewed : Bool) (ref : Phase) (mode : TrackerMode) :
    MakesEngine (engineEnds ended slewed ref mode) (boundaryEnds ended slewed ref mode) := by
  have closes : MakesEngine (engineEnds ended slewed ref mode)
      (recordAndClose ended (endAccumulation ended slewed ref mode)) := by
    intro s
    unfold recordAndClose
    split
    · exact (endAccumulation_makesEngine ended slewed ref mode).inEitherOrder (fun _ => keepsTables_closeWindow ended)
        (keepsCore_closeWindow ended) (fun _ => true) Config.assessmentBeforeRecord s
    · exact endAccumulation_makesEngine ended slewed ref mode s
  have busy : MakesEngine (engineEnds ended slewed ref mode)
      (busyAndRecord (recordAndClose ended (endAccumulation ended slewed ref mode))) :=
    closes.inEitherOrder (fun _ => keepsTables_epochBusy) keepsCore_epochBusy jamComing _
  have silence : MakesEngine (engineEnds ended slewed ref mode)
      (silenceAnd (busyAndRecord (recordAndClose ended (endAccumulation ended slewed ref mode)))) :=
    busy.inEitherOrder (fun _ => keepsTables_epochSilence) keepsCore_epochSilence
      (fun s => jamChanging s && silentChanging s) _
  have aged : ∀ t : State, (ageTables (expireAlert (fallHold (countListen t)))).engine = t.engine ∧
      (ageTables (expireAlert (fallHold (countListen t)))).port.image = t.port.image := fun t =>
    ⟨TablesKept.engine_eq fun _ => (((keepsTables_countListen t).trans (keepsTables_fallHold _)).trans
        (keepsTables_expireAlert _)).trans (keepsTables_ageTables _),
      ((((keepsCore_countListen t).trans (keepsCore_fallHold _)).trans (keepsCore_expireAlert _)).trans
        (keepsCore_ageTables _)).image⟩
  have opened : ∀ t : State, (openWindow t).engine = t.engine := fun t =>
    TablesKept.engine_eq fun _ => keepsTables_openWindow t
  intro s
  have begun : (if slewed then s.setTimeline { s.timeline with slewGuard := false } else s).engine = s.engine ∧
      (if slewed then s.setTimeline { s.timeline with slewGuard := false } else s).port.image = s.port.image := by
    cases slewed <;> exact ⟨rfl, rfl⟩
  unfold boundaryEnds
  rw [opened, silence, (aged _).1, (aged _).2, begun.1, begun.2]

/-- A boundary that ends an epoch, as far as the engine goes (R14, R27). -/
theorem boundaryBody_ring {s : State} (hj : s.tracker.jump = none) (hend : s.tracker.epochLength ≤ s.tracker.cycleCount + 1)
    (hd : s.engine.discard = false) : (boundaryBody s).engine.ring = ringInsert (epochRecord s) s.engine.ring := by
  have kind : boundaryKind (windowsClosed s.tracker) = .epochEnds s.tracker.epoch s.tracker.slewed := by
    rw [windowsClosed_eq]
    unfold boundaryKind
    dsimp only
    rw [hj]
    exact if_neg (by omega)
  have tail : ∀ t, (strobeTimers (abandonBackoff (judgePosture (beginCycle t)))).engine.ring = t.engine.ring := fun t => by
    rw [strobeTimers_engine, abandonBackoff_eq]
    rfl
  have judged : ∀ k, (evaluateTracker (linkageTimers k (cycleEnded s))).engine = engineClosed s := fun k =>
    (TablesKept.engine_eq fun _ => (keepsTables_linkageTimers k _).trans (keepsTables_evaluateTracker _)).trans
      (cycleEnded_engine s)
  have image : ∀ k, (evaluateTracker (linkageTimers k (cycleEnded s))).port.image = s.port.image := fun k =>
    (evaluated_kept k s).2.2
  have ref : (windowsClosed s.tracker).ref = s.tracker.ref := by rw [windowsClosed_eq]
  have mode : (windowsClosed s.tracker).mode = s.tracker.mode := by rw [windowsClosed_eq]
  have kept : (engineClosed s).discard = false ∧ (engineClosed s).ring = s.engine.ring := by
    rw [engineClosed_eq]
    exact ⟨hd, rfl⟩
  have ended : (boundaryEnds s.tracker.epoch s.tracker.slewed s.tracker.ref s.tracker.mode
      (evaluateTracker (linkageTimers (.epochEnds s.tracker.epoch s.tracker.slewed) (cycleEnded s)))).engine =
      engineEnds s.tracker.epoch s.tracker.slewed s.tracker.ref s.tracker.mode s.port.image (engineClosed s) := by
    rw [boundaryEnds_makesEngine, judged, image]
  unfold cycleEnded at ended
  unfold boundaryBody
  simp only [advanceToSome_tracker, advanceToSome_port, kind, ref, mode]
  rw [tail, ended]
  unfold engineEnds
  rw [if_neg (by rw [kept.1]; decide)]
  exact congrArg (ringInsert (epochRecord s)) kept.2

/-- The cycles of the ended epoch: those closed before, and the one this boundary closes (R23, R24, R26). -/
theorem engineClosed_closed (s : State) : (engineClosed s).closed = s.engine.closed ++
    [⟨(patchStrobe s).engine.acc.map (fun sum => isqrt (sum / 32)),
      decide ((patchStrobe s).sampling.patched < 4 ∧ (patchStrobe s).sampling.stallSeen = false)⟩] := by
  rw [engineClosed_eq, ← cycleValid_eq]
  rfl

/-- Settling the last set and closing the cycle keep the sums those of the closed cycles (R21, R26). -/
theorem engineClosed_epochOk {s : State} (h : EpochOk s.engine) : EpochOk (engineClosed s) := by
  have accumulated : EpochOk (patchStrobe s).engine := by
    rw [patchStrobe_engine]
    exact h
  exact accumulated.closeCycle _

/-- The tracker states of the epoch are those noted before this boundary (R30). -/
theorem engineClosed_modes (s : State) : (engineClosed s).cycleModes = s.engine.cycleModes := by
  rw [engineClosed_eq]
  rfl

/-- The record marks HOLDOVER and SEEKING, seen in an earlier cycle of the epoch or in its last (R30). -/
theorem epochRecord_marks (s : State) :
    ((epochRecord s).holdover = true ↔ s.engine.holdoverSeen = true ∨ s.engine.cycleModes.holdover = true) ∧
    ((epochRecord s).unlocked = true ↔ s.engine.seekingSeen = true ∨ s.engine.cycleModes.seeking = true) := by
  unfold epochRecord
  rw [engineClosed_eq]
  exact ⟨Bool.or_eq_true_iff, Bool.or_eq_true_iff⟩

/-- Settles O36: the boundary's operations make of the engine what its close and its epoch's end make of it (`MakesEngine`),
and every step keeps the sums because each of the engine's operations does (`epochOk_engineInvariant`). -/
theorem recordShowsTheLastCyclesTracker : Obligations.RecordShowsTheLastCyclesTracker := by
  refine ⟨fun s hw hj hend hd => ?_, fun r => ⟨_, rfl, rfl, rfl⟩, epochOk_engineInvariant.init, fun s t h hstep =>
    (step_tablesKept epochOk_engineInvariant hstep).engine h⟩
  have settled : (settle (boundaryBody s)).engine = (boundaryBody s).engine :=
    TablesKept.engine_eq fun _ => keepsTables_settle _
  have ring : (settle (boundaryBody s)).engine.ring = ringInsert (epochRecord s) s.engine.ring := by
    rw [settled, boundaryBody_ring hj hend hd]
  have values : EpochOk s.engine → _ := fun h => formRecord_values (engineClosed_epochOk h) s.port.image.n s.tracker.epoch
    s.tracker.slewed s.tracker.ref s.tracker.mode
  rw [engineClosed_closed, engineClosed_modes] at values
  exact ⟨_, epochRecord s, _, exec_cycleBoundary hw, ring, rfl, rfl, rfl, values,
    (epochRecord_marks s).1, (epochRecord_marks s).2, rfl⟩

end Sys2Proof.Machine

/-! A record handed at a boundary (O38): why the statement fails. It takes the own STANDING records as they stand before the boundary,
and the boundary's ageing comes first: the expiry of a heard record (R147) removes its key from the register. Where an own STANDING
record shares that key it goes too, and the record handed after it closes the disturbance (R46) that the statement holds open. The
statement has no premise on the keys; `RegisterOk` (R137), which gives each its one record, rules such a register out. -/

namespace Sys2Proof.Machine

/-- A GROUND record of station 1's U end; a heard one with frame age 11 expires at the next boundary. -/
def groundClaim (own : Bool) (frameAge : Nat) : ClaimRecord :=
  ⟨⟨1, .ground, .u⟩, 10, ⟨10, 20⟩, ⟨false, false, false⟩, .standing, own, 0, 0, 0, 0, frameAge, false, false⟩

/-- The valid record of an epoch of zero values. -/
def zeroRecord (epoch : EpochNum) : EpochRecord :=
  ⟨epoch, Init.zeroMeans, 0, 6, .one, .seeking, false, false, false, false⟩

/-- The image of station 1, with no linkage entry. -/
def stationOne : Image := { Init.clearedImage with stationId := 1, position := 10, istep := 1, rstep := 1 }

/-- DISTURBED at the end of epoch 1, one quiet record short of the settle count, an own STANDING record under the key of a heard one that
is about to expire. -/
def keyHeldTwice : State :=
  { State.reset with
    run := .run
    tracker := { Init.tracker stationOne with anchor := some 0, next := some 20000, epoch := 1, cycleCount := 5 }
    engine := { Init.engine with validCount := 5, ring := [zeroRecord 0] }
    detector := { Init.detector with assessment := .disturbed, settle := 7 }
    register := ⟨[groundClaim false 11, groundClaim true 0], []⟩
    port := Init.port stationOne }

/-- The next boundary hands the record of epoch 1, leaves the register empty and returns to CALM. -/
theorem keyHeldTwice_closes : ∃ t, exec .cycleBoundary keyHeldTwice = .next t ∧
    t.engine.ring = [zeroRecord 1, zeroRecord 0] ∧ t.register.records = [] ∧ t.detector.assessment = .calm :=
  ⟨_, rfl, by decide +kernel⟩

/-- A record equal to the one before it is quiet (R46). -/
theorem zeroRecord_quiet : Quiet stationOne [zeroRecord 1, zeroRecord 0] (zeroRecord 1) := by
  refine ⟨rfl, zeroRecord 0, by decide, rfl, iff_of_false (by decide) ?current, iff_of_false (by decide) ?voltage,
    iff_of_false (by decide) ?residual⟩
  case current =>
    rintro ⟨φ, rises⟩
    cases φ <;> exact absurd rises (by decide)
  case voltage =>
    rintro ⟨φ, -, falls⟩
    cases φ <;> exact absurd falls (by decide)
  case residual => decide

/-- Refutes O38: an own STANDING record goes with the heard record of its key, and the quiet record handed then closes. -/
theorem not_returnsToCalm : ¬ Obligations.ReturnsToCalm := by
  unfold Obligations.ReturnsToCalm
  rintro ⟨-, handed⟩
  obtain ⟨t, r, older, ht, ring, -, -, -, -, -, disturbed, -⟩ :=
    handed keyHeldTwice rfl rfl (by decide) rfl rfl rfl rfl
  obtain ⟨u, hu, newRing, empty, calm⟩ := keyHeldTwice_closes
  cases ht.symm.trans hu
  obtain ⟨rfl, -⟩ := List.cons.inj (ring.symm.trans newRing)
  have quiet : Quiet stationOne t.engine.ring (zeroRecord 1) := newRing ▸ zeroRecord_quiet
  obtain ⟨-, staysOpen⟩ := disturbed rfl (by decide) 8 (fun _ => rfl) (fun loud => absurd quiet loud)
  obtain ⟨held, -⟩ := staysOpen (.inr ⟨groundClaim true 0, by decide, rfl, rfl⟩)
  rw [if_pos empty] at held
  have stays : t.detector.assessment = .disturbed := congrArg Detector.assessment (held (by decide))
  exact absurd (stays.symm.trans calm) (by decide)

end Sys2Proof.Machine

/-! The transmit queue's order (R69): what each operation of the queue does to its subjects, and the frame `QueueKept`, that an operation
of the blocks leaves a queue in order in order. -/

namespace Sys2Proof.Machine

/-! ## A queue in order is one whose subjects are -/

/-- The class of every entry of a subject. -/
def QueueSubject.cls : QueueSubject → Nat
  | .report => 2
  | .alert => 1
  | .claim _ _ => 0
  | .tripped _ => 0

theorem QueueEntry.cls_eq (e : QueueEntry) : e.cls = e.subject.cls := by
  obtain ⟨item, _, _, _, _⟩ := e
  cases item <;> rfl

/-- Distinct subjects in order of class. -/
def SubjectsOk (xs : List QueueSubject) : Prop := xs.Nodup ∧ (xs.map QueueSubject.cls).Pairwise (· ≤ ·)

theorem queueOk_iff {q : List QueueEntry} : QueueOk q ↔ SubjectsOk (q.map QueueEntry.subject) := by
  have classes : q.map QueueEntry.cls = (q.map QueueEntry.subject).map QueueSubject.cls := by
    rw [List.map_map]
    exact List.map_congr_left fun e _ => e.cls_eq
  unfold QueueOk SubjectsOk
  rw [classes]

/-- Every subject there is. -/
def QueueSubject.all : List QueueSubject :=
  [.report, .alert, .claim .openConductor .u, .claim .openConductor .d, .claim .ground .u, .claim .ground .d,
    .tripped .trip0, .tripped .trip1]

theorem QueueSubject.mem_all (x : QueueSubject) : x ∈ QueueSubject.all := by
  rcases x with _ | _ | ⟨kind, fin⟩ | output
  · decide
  · decide
  · cases kind <;> cases fin <;> decide
  · cases output <;> decide

/-- A queue in order holds at most 8 entries (R69). -/
theorem QueueOk.length_le {q : List QueueEntry} (h : QueueOk q) : q.length ≤ 8 := by
  have short := (List.subperm_of_subset h.1 fun x _ => x.mem_all).length_le
  rwa [List.length_map] at short

theorem QueueOk.sublist {p q : List QueueEntry} (h : QueueOk q) (hp : p.Sublist q) : QueueOk p :=
  ⟨h.1.sublist (hp.map _), h.2.sublist (hp.map _)⟩

theorem QueueOk.queueRemove {q : List QueueEntry} (h : QueueOk q) (x : QueueSubject) : QueueOk (queueRemove x q) :=
  h.sublist List.filter_sublist

theorem QueueOk.of_subjects {p q : List QueueEntry} (h : QueueOk q)
    (hp : p.map QueueEntry.subject = q.map QueueEntry.subject) : QueueOk p := by
  rw [queueOk_iff, hp]
  exact queueOk_iff.mp h

theorem QueueOk.queueModify {q : List QueueEntry} (h : QueueOk q) {x : QueueSubject} {f : QueueEntry → QueueEntry}
    (hf : ∀ e, e.subject = x → (f e).subject = x) : QueueOk (queueModify x f q) :=
  h.of_subjects (queueModify_subjects hf q)

theorem queueFind_none {q : List QueueEntry} {x : QueueSubject} : queueFind q x = none ↔ ∀ e ∈ q, e.subject ≠ x := by
  simp [queueFind]

/-- A new entry of a subject that has none goes to the end of its class. -/
theorem QueueOk.insertEntry {q : List QueueEntry} (h : QueueOk q) {e : QueueEntry} (he : queueFind q e.subject = none) :
    QueueOk (insertEntry e q) := by
  refine ⟨?_, ?_⟩
  · refine ((insertEntry_perm e q).map QueueEntry.subject).nodup_iff.mpr (List.nodup_cons.mpr ⟨fun hmem => ?_, h.1⟩)
    obtain ⟨x, hx, same⟩ := List.mem_map.mp hmem
    exact queueFind_none.mp he x hx same
  · have sorted := h.2
    clear h he
    induction q with
    | nil => exact List.pairwise_singleton _ _
    | cons x q ih =>
      obtain ⟨first, rest⟩ := List.pairwise_cons.mp sorted
      unfold Machine.insertEntry
      split
      · next below =>
        refine List.pairwise_cons.mpr ⟨fun c hc => ?_, ih rest⟩
        rcases List.mem_cons.mp (((insertEntry_perm e q).map QueueEntry.cls).mem_iff.mp hc) with rfl | hc
        · exact below
        · exact first c hc
      · next above =>
        refine List.pairwise_cons.mpr ⟨fun c hc => ?_, sorted⟩
        rcases List.mem_cons.mp hc with rfl | hc
        · exact Nat.le_of_not_le above
        · exact (Nat.le_of_not_le above).trans (first c hc)

theorem QueueOk.queueOffer {q : List QueueEntry} (h : QueueOk q) {e : QueueEntry} {f : QueueEntry → QueueEntry}
    (hf : ∀ x, (f x).subject = e.subject) : QueueOk (queueOffer e f q) := by
  unfold Machine.queueOffer
  split
  · exact h.queueModify fun x _ => hf x
  · next he => exact h.insertEntry he

/-- At most one entry of a queue in order has a subject. -/
theorem QueueOk.eq_of_subject {q : List QueueEntry} (h : QueueOk q) {d e : QueueEntry} (hd : d ∈ q) (he : e ∈ q)
    (same : d.subject = e.subject) : d = e :=
  List.inj_on_of_nodup_map h.1 hd he same

/-! ## The frame -/

/-- A queue in order in `s` is in order in `t`. -/
structure QueueKept (s t : State) : Prop where
  ordered : QueueOk s.link.queue → QueueOk t.link.queue

/-- A function whose result always keeps its argument's queue in order. -/
def KeepsQueue (f : State → State) : Prop := ∀ s, QueueKept s (f s)

theorem QueueKept.refl (s : State) : QueueKept s s := ⟨id⟩

theorem QueueKept.trans {s t u : State} (h : QueueKept s t) (k : QueueKept t u) : QueueKept s u := ⟨k.ordered ∘ h.ordered⟩

theorem QueueKept.same {s t : State} (h : t.link.queue = s.link.queue) : QueueKept s t := ⟨fun hq => h.symm ▸ hq⟩

/-- The queue as it stands, and then `k`. -/
theorem QueueKept.after {s t u : State} (k : QueueKept t u) (h : t.link.queue = s.link.queue) : QueueKept s u :=
  (QueueKept.same h).trans k

theorem QueueKept.ite {c : Prop} [Decidable c] {s t u : State} (ht : QueueKept s t) (hu : QueueKept s u) :
    QueueKept s (if c then t else u) := by
  split
  · exact ht
  · exact hu

theorem KeepsQueue.ite {f : State → State} (p : State → Prop) [DecidablePred p] (hf : KeepsQueue f) :
    KeepsQueue (fun s => if p s then f s else s) := fun s => .ite (hf s) (.refl s)

theorem keepsQueue_foldl {α : Type} {f : State → α → State} (h : ∀ a, KeepsQueue (fun s => f s a)) (l : List α) :
    KeepsQueue (fun s => l.foldl f s) := by
  induction l with
  | nil => exact .refl
  | cons a l ih => exact fun s => (h a s).trans (ih _)

/-! ## The queue's own operations (R69 to R74) -/

theorem keepsQueue_offerSeries (i : QueueItem) : KeepsQueue (offerSeries i) := fun _ => ⟨fun h => h.queueOffer fun _ => rfl⟩

theorem keepsQueue_offerReport (r : EpochRecord) (b : EpochNum) : KeepsQueue (offerReport r b) :=
  fun _ => ⟨fun h => h.queueOffer fun _ => rfl⟩

theorem keepsQueue_offerAlert (c : AlertContent) : KeepsQueue (offerAlert c) := fun _ => ⟨fun h => h.queueOffer fun _ => rfl⟩

theorem keepsQueue_withdrawSeries (k : ClaimKind) (e : SpanEnd) : KeepsQueue (withdrawSeries k e) :=
  fun _ => ⟨fun h => h.queueRemove _⟩

theorem keepsQueue_missReport (p : QueueEntry → Bool) : KeepsQueue (missReport p) := fun s => by
  unfold missReport
  split
  · exact .ite ⟨fun h => h.queueRemove _⟩ (.refl s)
  · exact .refl s

theorem keepsQueue_expireAlert : KeepsQueue expireAlert :=
  .ite (fun s => alertOverdue s = true) fun _ => ⟨fun h => h.queueRemove _⟩

theorem keepsQueue_rebindAlert (e : EpochNum) : KeepsQueue (rebindAlert e) := fun _ => ⟨fun h => h.queueModify fun _ he => he⟩

theorem keepsQueue_seriesDue : KeepsQueue seriesDue := fun s => ⟨fun h => by
  refine h.of_subjects ((List.map_map ..).trans (List.map_congr_left fun e _ => ?_))
  rw [Function.comp_apply]
  split <;> rfl⟩

theorem QueueOk.handedQueue {q : List QueueEntry} (h : QueueOk q) (e : QueueEntry) : QueueOk (handedQueue e q) := by
  unfold Machine.handedQueue
  split
  · exact h.queueModify fun _ he => he
  · exact h.queueRemove _

theorem keepsQueue_handOver (e : QueueEntry) : KeepsQueue (handOver e) := fun _ => ⟨fun h => h.handedQueue e⟩

/-! ## Access and the end of a command (R76 to R78) -/

theorem keepsQueue_chooseCandidate : KeepsQueue chooseCandidate := fun s => by
  unfold chooseCandidate
  split
  · exact .same rfl
  · refine .ite (.same rfl) ?_
    unfold drawBackoff
    exact .ite (.after (keepsQueue_handOver _ _) rfl) (.same rfl)

theorem keepsQueue_judgeAccess : KeepsQueue judgeAccess := fun s =>
  .ite (.refl s) (.ite (.refl s) (keepsQueue_chooseCandidate s))

theorem keepsQueue_settle : KeepsQueue settle := fun s =>
  have judged : QueueKept s (judgeAccess (judgePosture s)) := .after (keepsQueue_judgeAccess _) rfl
  .ite (.refl s) (judged.trans (.same rfl))

theorem keepsQueue_abandonBackoff : KeepsQueue abandonBackoff := fun s => .ite (.same rfl) (.refl s)

theorem keepsQueue_endBackoffIfDue : KeepsQueue endBackoffIfDue := .ite (fun s => backoffDue s = true) fun s => by
  unfold endBackoff
  split
  · exact .ite (.same rfl) (keepsQueue_handOver _ s)
  · exact .same rfl

theorem keepsQueue_shutWindow (x : EpochNum) : KeepsQueue (shutWindow x) := fun s =>
  have missed : QueueKept s (missReport (fun e => e.bound = x) (s.setLink { s.link with windowOpen := false })) :=
    .after (keepsQueue_missReport _ _) rfl
  missed.trans (.after (keepsQueue_abandonBackoff (judgePosture _)) rfl)

theorem keepsQueue_openWindow : KeepsQueue openWindow := fun _ => .after (keepsQueue_seriesDue _) rfl

/-! ## Register and Detector (Chapters 3 and 8) -/

theorem keepsQueue_recordPairs (ps : List ClaimPair) : KeepsQueue (recordPairs ps) := by
  induction ps with
  | nil => exact .refl
  | cons p ps ih => exact fun s => .after (ih _) rfl

theorem keepsQueue_rejudgePairs : KeepsQueue rejudgePairs := fun _ => .after (keepsQueue_recordPairs _ _) rfl

theorem keepsQueue_placeRecord (r : ClaimRecord) : KeepsQueue (placeRecord r) := fun _ => .after (keepsQueue_rejudgePairs _) rfl

theorem keepsQueue_releaseHold (r : ClaimRecord) : KeepsQueue (releaseHold r) := fun s =>
  have withdrawn := keepsQueue_withdrawSeries r.key.kind r.key.fin s
  .ite (.ite withdrawn (withdrawn.trans (.same rfl))) (.refl s)

theorem keepsQueue_releaseHolds (rs : List ClaimRecord) : KeepsQueue (releaseHolds rs) := by
  induction rs with
  | nil => exact .refl
  | cons r rs ih => exact fun s => (keepsQueue_releaseHold r s).trans (ih _)

theorem keepsQueue_removeRecords (p : ClaimRecord → Bool) : KeepsQueue (removeRecords p) := fun s =>
  .ite ((keepsQueue_releaseHolds _ s).trans (.after (keepsQueue_rejudgePairs _) rfl)) (.refl s)

theorem keepsQueue_withdrawAll (rs : List ClaimRecord) : KeepsQueue (withdrawAll rs) := by
  induction rs with
  | nil => exact .refl
  | cons r rs ih => exact fun s => .trans (.ite (keepsQueue_withdrawSeries _ _ s) (.refl s)) (ih _)

theorem keepsQueue_coverRecords (p : ClaimRecord → Bool) : KeepsQueue (coverRecords p) := fun s =>
  .ite ((keepsQueue_withdrawAll _ s).trans (.after (keepsQueue_rejudgePairs _) rfl)) (.refl s)

/-- An entry into CALM touches the queue through the register's part alone (R41, R49, R51). -/
theorem keepsQueue_leaveBlind : KeepsQueue leaveBlind := fun _ => .after (keepsQueue_removeRecords _ _) rfl

theorem keepsQueue_returnToCalm : KeepsQueue returnToCalm := fun _ => .after (keepsQueue_removeRecords _ _) rfl

theorem keepsQueue_forceClose : KeepsQueue forceClose := fun _ => .after (keepsQueue_returnToCalm _) rfl

theorem keepsQueue_restoreLine : KeepsQueue restoreLine := fun s => by
  refine .trans (t := registerCalm true _) ?_ (.same rfl)
  exact .after (keepsQueue_removeRecords _ _) rfl

theorem keepsQueue_testClose : KeepsQueue testClose :=
  .ite (fun s => closeDue s = true) fun _ => .after (keepsQueue_returnToCalm _) rfl

theorem keepsQueue_testCloseOnChange : KeepsQueue testCloseOnChange := fun s => by
  rw [testCloseOnChange_eq]
  exact (keepsQueue_testClose s).trans (.same rfl)

theorem keepsQueue_requestDisturbance (c : OpenCause) (x : EventSubject) : KeepsQueue (requestDisturbance c x) := fun s => by
  unfold requestDisturbance
  split <;> exact .same rfl

theorem keepsQueue_openOwn (m : CauseMask) (r : EpochRecord) : KeepsQueue (openOwn m r) := fun _ =>
  .ite (.after (keepsQueue_offerAlert _ _) rfl) (.same rfl)

theorem keepsQueue_handBlind (e : EpochRecord) : KeepsQueue (handBlind e) := fun _ =>
  .ite (.after (keepsQueue_leaveBlind _) rfl) (.same rfl)

theorem keepsQueue_handCalm (e : EpochRecord) : KeepsQueue (handCalm e) := fun s => by
  unfold handCalm
  split
  · exact .ite (keepsQueue_openOwn _ _ s) (.refl s)
  · exact .refl s

theorem keepsQueue_handDisturbed (e : EpochRecord) : KeepsQueue (handDisturbed e) := fun s =>
  have tested : QueueKept s (testClose (s.setDetector { s.detector with
      settle := if quiet s.port.image s.engine.ring e then raise s.port.image.settleCount s.detector.settle else 0 })) :=
    .after (keepsQueue_testClose _) rfl
  have forced : KeepsQueue moveForced := fun _ => .ite (.after (keepsQueue_forceClose _) rfl) (.same rfl)
  .ite (tested.trans (forced _)) tested

theorem keepsQueue_handDeenergized (e : EpochRecord) : KeepsQueue (handDeenergized e) := fun _ =>
  .ite (.after (keepsQueue_restoreLine _) rfl) (.same rfl)

/-- An own record handed to the Detector (R38 to R51). -/
theorem keepsQueue_handRecord (e : EpochRecord) : KeepsQueue (handRecord e) := fun s => by
  have taken : QueueKept s (takeReference e s) := .same rfl
  unfold handRecord
  dsimp only
  split
  · exact taken.trans (keepsQueue_handBlind e _)
  · exact .ite taken (taken.trans (keepsQueue_handCalm e _))
  · exact taken.trans (keepsQueue_handDisturbed e _)
  · exact taken.trans (keepsQueue_handDeenergized e _)

theorem keepsQueue_enterDeenergized (n p : Nat) : KeepsQueue (enterDeenergized n p) := fun _ =>
  .ite (.same rfl) (.after (.trans (keepsQueue_coverRecords _ _) (keepsQueue_removeRecords _ _)) rfl)

theorem keepsQueue_returnToBlind : KeepsQueue returnToBlind := fun s => by
  unfold returnToBlind
  dsimp only
  split <;> exact .same rfl

/-! ## The Trip Linkage (Chapter 9) -/

theorem keepsQueue_setTrip (o : Output) (r : TripRecord) : KeepsQueue (setTrip o r) := fun _ => by
  cases o <;> exact .same rfl

theorem keepsQueue_timerByTripped (c : TrippedContent) (k : Nat) : KeepsQueue (timerByTripped c k) := fun s => by
  unfold timerByTripped
  split
  · exact .refl s
  · split
    · split <;> exact .same rfl
    · exact .refl s
  · exact .ite (.same rfl) (.refl s)

theorem keepsQueue_timersByTripped (c : TrippedContent) : KeepsQueue (timersByTripped c) :=
  keepsQueue_foldl (keepsQueue_timerByTripped c) _

theorem keepsQueue_coverZone (c : TrippedContent) : KeepsQueue (coverZone c) := fun s => by
  unfold coverZone
  split
  · exact .refl s
  · have covered := keepsQueue_coverRecords (fun r => r.span.within c.zone) s
    exact .ite (covered.trans (keepsQueue_testCloseOnChange _)) covered

section
variable {ev : State → State} (hev : KeepsQueue ev)
include hev

theorem keepsQueue_offerTripped (c : TrippedContent) : KeepsQueue (offerTripped ev c) := fun s =>
  have listed : QueueKept s (takeIntoTripList s.port.image.stationId c (offerSeries (.tripped c) s)) :=
    (keepsQueue_offerSeries (.tripped c) s).trans (.same rfl)
  ((listed.trans (keepsQueue_timersByTripped c _)).trans (keepsQueue_coverZone c _)).trans (hev _)

theorem keepsQueue_confirmTrip (o : Output) : KeepsQueue (confirmTrip ev o) := fun s =>
  (keepsQueue_setTrip o _ s).trans (.after (keepsQueue_offerTripped hev _ _) rfl)

theorem keepsQueue_failTrip (o : Output) : KeepsQueue (failTrip ev o) := fun s =>
  (keepsQueue_setTrip o _ s).trans (.after (keepsQueue_offerTripped hev _ _) rfl)

theorem keepsQueue_actPrimary (k : Nat) (e : LinkageEntry) (x : Span) : KeepsQueue (actPrimary ev k e x) := fun s =>
  have asserted : ∀ o, KeepsQueue (assertOutput k e x o) := fun o t =>
    .ite ((keepsQueue_setTrip o _ t).trans (.same rfl)) (.refl t)
  have confirmed : ∀ b o, KeepsQueue (confirmAtOnce ev k b o) := fun _ o t =>
    .ite (keepsQueue_confirmTrip hev o t) (.refl t)
  have driven := (asserted .trip0 s).trans (asserted .trip1 _)
  .ite (driven.trans (.after (.trans (confirmed _ _ _) (confirmed _ _ _)) rfl)) (.ite (.refl s) (.same rfl))

theorem keepsQueue_evaluateEntry (k : Nat) (e : LinkageEntry) : KeepsQueue (evaluateEntry ev k e) := fun s => by
  unfold evaluateEntry
  split
  · exact .refl s
  · split
    · split
      · exact keepsQueue_actPrimary hev _ _ _ s
      · exact .refl s
    · dsimp only
      split
      · exact .after (keepsQueue_actPrimary hev _ _ _ _) rfl
      · exact .same rfl

theorem keepsQueue_evaluateEntries (es : List LinkageEntry) (k : Nat) : KeepsQueue (evaluateEntries ev k es) := by
  induction es generalizing k with
  | nil => exact .refl
  | cons e es ih => exact fun s => (keepsQueue_evaluateEntry hev k e s).trans (ih _ _)

end

theorem keepsQueue_evaluateRounds (n : Nat) : KeepsQueue (evaluateRounds n) := by
  induction n with
  | zero => exact .refl
  | succ n ih => exact fun s => keepsQueue_evaluateEntries ih _ _ s

/-- An evaluation of the Trip Linkage keeps the queue in order (R159). -/
theorem keepsQueue_evaluateTrips : KeepsQueue evaluateTrips := .ite (fun s => s.run = .run) (keepsQueue_evaluateRounds _)

theorem KeepsQueue.reporting {f : State → State} (hf : KeepsQueue f) : KeepsQueue (reporting f) := fun s =>
  .ite (hf s) ((hf s).trans (keepsQueue_evaluateTrips _))

theorem keepsQueue_failIfDue (o : Output) : KeepsQueue (failIfDue o) :=
  .ite (fun s => failDue s o = true) (keepsQueue_failTrip keepsQueue_evaluateTrips o)

theorem keepsQueue_expireBackup (k : Nat) (e : LinkageEntry) : KeepsQueue (expireBackup k e) := fun s => by
  unfold expireBackup
  split
  · split
    · exact .ite (.same rfl) (.after (keepsQueue_actPrimary (keepsQueue_evaluateRounds _) _ _ _ _) rfl)
    · exact .refl s
  · exact .refl s

theorem keepsQueue_expireBackups (es : List LinkageEntry) (k : Nat) : KeepsQueue (expireBackups k es) := by
  induction es generalizing k with
  | nil => exact .refl
  | cons e es ih => exact fun s => (keepsQueue_expireBackup k e s).trans (ih _ _)

/-- The Linkage's timers at a boundary (R161, R163, R165). -/
theorem keepsQueue_linkageTimers (kind : BoundaryKind) : KeepsQueue (linkageTimers kind) := fun s =>
  have raised : QueueKept (raiseConfirms s) (raiseTimers (raiseConfirms s)) := .ite (.same rfl) (.refl _)
  have timers : QueueKept s (if kind.begins then
      expireBackups 0 (raiseConfirms s).port.image.entries (raiseTimers (raiseConfirms s)) else raiseConfirms s) :=
    .ite (.after (raised.trans (keepsQueue_expireBackups _ _ _)) rfl) (.same rfl)
  (timers.trans (keepsQueue_failIfDue .trip0 _)).trans (keepsQueue_failIfDue .trip1 _)

theorem keepsQueue_linkageTripped (n : Nat) (c : TrippedContent) : KeepsQueue (linkageTripped n c) := fun s => by
  have heard : QueueKept s (if tripKnown s.linkage.trips n c then takeIntoTripList n c s
      else record (takeIntoTripList n c s) .trippedHeard (.station n) (some c.span) (.trip c.result c.output)) :=
    .ite (.same rfl) (.same rfl)
  exact .ite ((heard.trans (keepsQueue_timersByTripped c _)).trans (keepsQueue_evaluateTrips _)) heard

/-! ## Claims and the assessment (Chapters 7 and 8) -/

theorem keepsQueue_refreshSeries (e : EpochNum) (r : ClaimRecord) : KeepsQueue (refreshSeries e r) := fun _ =>
  .after (keepsQueue_offerSeries _ _) rfl

theorem keepsQueue_refreshIfDue (key : ClaimKey) : KeepsQueue (refreshIfDue key) := fun s => by
  unfold refreshIfDue
  split
  · exact .ite (keepsQueue_refreshSeries _ _ s) (.refl s)
  · exact .refl s

theorem keepsQueue_refreshAll (rs : List ClaimRecord) : KeepsQueue (refreshAll rs) := by
  induction rs with
  | nil => exact .refl
  | cons r rs ih => exact fun s => .trans (.ite (keepsQueue_refreshSeries _ _ s) (.refl s)) (ih _)

theorem keepsQueue_expireClaim (key : ClaimKey) : KeepsQueue (expireClaim key) := fun s => by
  unfold expireClaim
  split
  · exact .ite (.trans (.ite (.same (by rfl)) (.refl s)) (keepsQueue_removeRecords _ _)) (.refl s)
  · exact .refl s

theorem keepsQueue_expireEach (keys : List ClaimKey) : KeepsQueue (expireEach keys) := by
  induction keys with
  | nil => exact .refl
  | cons key keys ih => exact fun s => ((keepsQueue_expireClaim key).reporting s).trans (ih _)

/-- The register's ageing (R140, R147). -/
theorem keepsQueue_ageRegister : KeepsQueue ageRegister := fun s =>
  have aged : KeepsQueue (fun s => s.setRecords (s.register.records.map ageRecord)) := fun _ => .same rfl
  have refreshed : KeepsQueue refreshDueRecords := fun s => keepsQueue_refreshAll _ s
  ((aged.reporting s).trans (refreshed.reporting _)).trans (keepsQueue_expireEach _ _)

theorem keepsQueue_enterHeard (h : Header) (c : ClaimContent) : KeepsQueue (enterHeard h c) := fun _ =>
  .after (.trans (keepsQueue_placeRecord _ _) (keepsQueue_requestDisturbance _ _ _)) rfl

theorem keepsQueue_admitClaim (h : Header) (c : ClaimContent) : KeepsQueue (admitClaim h c) := fun s => by
  have evicted : ∀ r, QueueKept s (evictClaim r s) := fun r =>
    have removed := keepsQueue_removeRecords (fun x => x.key = r.key) s
    .ite (removed.trans (.same rfl)) removed
  unfold admitClaim
  split
  · split
    · exact (evicted _).trans (keepsQueue_enterHeard h c _)
    · exact .same rfl
  · exact keepsQueue_enterHeard h c s

theorem keepsQueue_takeClaim (h : Header) (c : ClaimContent) (b : Bool) : KeepsQueue (takeClaim h c b) := fun s => by
  unfold takeClaim
  split
  · split
    · exact keepsQueue_admitClaim h c s
    · split
      · exact .ite (.same rfl) (.ite (.after (keepsQueue_rejudgePairs _) rfl) (keepsQueue_placeRecord _ s))
      · exact .after (keepsQueue_placeRecord _ _) rfl
      · exact .refl s
  · exact .refl s

theorem keepsQueue_takeRelease (h : Header) (c : ClaimContent) : KeepsQueue (takeRelease h c) := fun s => by
  unfold takeRelease
  split
  · split
    · exact .ite (.after (keepsQueue_rejudgePairs _) rfl) (.refl s)
    · exact .refl s
  · exact .refl s

theorem keepsQueue_raiseOwn (e : EpochNum) (c : ClaimContent) : KeepsQueue (raiseOwn e c) := fun s =>
  have raised : ∀ r, QueueKept s (offerSeries (.claim c false) (recordClaim .claimRaised r (.mask c.mask) (placeRecord r s))) :=
    fun r => (keepsQueue_placeRecord r s).trans (.after (keepsQueue_offerSeries _ _) rfl)
  .ite ((raised _).trans (keepsQueue_requestDisturbance _ _ _)) (raised _)

theorem keepsQueue_changeMask (e : EpochNum) (key : ClaimKey) (m : PerPhase Bool) : KeepsQueue (changeMask e key m) :=
  fun s => by
  unfold changeMask
  split
  · exact .after ((keepsQueue_refreshSeries e _ _).trans (.after (keepsQueue_rejudgePairs _) rfl)) rfl
  · exact .refl s

theorem keepsQueue_releaseOwn (key : ClaimKey) : KeepsQueue (releaseOwn key) := fun s => by
  unfold releaseOwn
  split
  · next r _ =>
    let t := offerSeries (.release r.content)
      (s.setRecords (modifyRecord key (fun x => { x with status := .released }) s.register.records))
    have offered : QueueKept s t := .after (keepsQueue_offerSeries _ _) rfl
    have judged := offered.trans (.after (keepsQueue_rejudgePairs (recordClaim .claimReleased r (.named .own) t)) rfl)
    exact judged.trans (.after (keepsQueue_testCloseOnChange (unpin _ _)) rfl)
  · exact .refl s

theorem keepsQueue_handOff (e : EpochNum) (k : ClaimKind) (f : SpanEnd) : KeepsQueue (handOff e k f) := fun s => by
  have raised : ∀ m, QueueKept s (raiseClaim e k f m s) := fun m => by
    unfold raiseClaim
    split
    · exact .after ((keepsQueue_raiseOwn _ _).reporting _) rfl
    · exact .refl s
  dsimp only [handOff]
  split
  · exact raised _
  · split
    · exact raised _
    · exact .ite (.refl s) ((keepsQueue_changeMask _ _ _).reporting s)
    · exact .refl s
  · exact .ite ((keepsQueue_releaseOwn _).reporting s) (.refl s)
  · exact .refl s

/-- An assessment (R116). -/
theorem keepsQueue_assess (x : EpochNum) : KeepsQueue (assess x) := fun s => by
  have located : ∀ n a b, KeepsQueue (recordLocated n a b) := fun _ _ _ s => .ite (.same rfl) (.refl s)
  have agreed : KeepsQueue judgeAgreement := fun _ => .same rfl
  have mapped : ∀ r, KeepsQueue (takeMap r) := fun r _ =>
    .after (.trans (.trans (.trans (.trans (located _ _ _ _) (located _ _ _ _)) (located _ _ _ _)) (located _ _ _ _))
      (agreed.reporting _)) rfl
  have mirrored : KeepsQueue (mirrorClaims x) := fun s =>
    (((keepsQueue_handOff x _ _ s).trans (keepsQueue_handOff x _ _ _)).trans (keepsQueue_handOff x _ _ _)).trans
      (keepsQueue_handOff x _ _ _)
  unfold assess
  split
  · next o _ =>
    have moved : KeepsQueue (moveCells o) := fun _ => .same rfl
    exact (((mapped o s).trans (moved _)).trans (mirrored _)).trans (keepsQueue_evaluateTrips _)
  · exact keepsQueue_evaluateTrips s

end Sys2Proof.Machine

/-! The frame `QueueKept` for the Peer Table, the fault unit, the completions, the delivered frames and the boundary, and with them for
every command: the statement O6. -/

namespace Sys2Proof.Machine

/-! ## Fault unit and Peer Table (Chapters 6 and 10) -/

theorem keepsQueue_judgeImpaired : KeepsQueue judgeImpaired := fun s =>
  .ite (.refl s) (.after (keepsQueue_evaluateTrips _) rfl)

theorem keepsQueue_judgeSilent : KeepsQueue judgeSilent := fun s =>
  .ite (.refl s) (.ite (.after (keepsQueue_judgeImpaired _) rfl) (.after (keepsQueue_judgeImpaired _) rfl))

theorem keepsQueue_frameHeard : KeepsQueue frameHeard := fun _ => .after (keepsQueue_judgeSilent _) rfl

theorem keepsQueue_setJammed : KeepsQueue setJammed := fun s =>
  have missed : QueueKept s (missReport (fun _ => true) (s.setFault { s.fault with jammed := true })) :=
    .after (keepsQueue_missReport _ _) rfl
  missed.trans (.after (keepsQueue_judgeImpaired (record _ _ _ _ _)) rfl)

theorem keepsQueue_epochBusy : KeepsQueue epochBusy := fun s =>
  have cleared : QueueKept s (clearJammed s) := .after (keepsQueue_judgeImpaired _) rfl
  .ite (.ite (.refl s) cleared) (.ite (.after (keepsQueue_setJammed _) rfl) (.same rfl))

theorem keepsQueue_epochSilence : KeepsQueue epochSilence := fun _ => .after (keepsQueue_judgeSilent _) rfl

theorem keepsQueue_tableChanged : KeepsQueue tableChanged := fun s =>
  have judged : QueueKept s (judgeSource s) := .ite (.refl s) (.same rfl)
  judged.trans (.after (keepsQueue_judgeSilent (State.setFault _ _)) rfl)

theorem keepsQueue_setAdjacent (x : Side) (k : Option Nat) : KeepsQueue (setAdjacent x k) := fun s =>
  .ite (.refl s) (.same rfl)

theorem keepsQueue_evaluateAdjacency : KeepsQueue evaluateAdjacency := fun s =>
  (keepsQueue_setAdjacent _ _ s).trans (keepsQueue_setAdjacent _ _ _)

theorem keepsQueue_dropAdjacent (k : Nat) : KeepsQueue (dropAdjacent k) := fun s =>
  have up : QueueKept s (if s.peers.adjacentUp = some k then setAdjacent .up none s else s) :=
    .ite (keepsQueue_setAdjacent _ _ s) (.refl s)
  .ite (up.trans (keepsQueue_setAdjacent _ _ _)) up

theorem keepsQueue_freeSlot (k : Nat) : KeepsQueue (freeSlot k) := fun _ => .after (keepsQueue_dropAdjacent k _) rfl

theorem keepsQueue_evict (k : Nat) : KeepsQueue (evict k) := fun s =>
  have dropped := keepsQueue_dropAdjacent k s
  .ite (.refl s) (.ite dropped (dropped.trans (.same rfl)))

theorem admitPeer_queueKept (n p : Nat) (s : State) : QueueKept s (admitPeer n p s).1 := by
  unfold admitPeer
  split
  · split
    · exact .refl s
    · exact .same rfl
  · split
    · exact .same rfl
    · exact (keepsQueue_evict _ s).trans (.after (keepsQueue_tableChanged (setConflicts (modifyPeer _ _ _) _)) rfl)

theorem moved_queueKept (k n p : Nat) (s : State) : QueueKept s (moved k n p s).1 := by
  dsimp only [moved]
  split
  · exact .same rfl
  · split
    · exact (keepsQueue_freeSlot k s).trans (.after (keepsQueue_tableChanged (setConflicts (recordConflict _ _ _) _)) rfl)
    · exact .after ((keepsQueue_dropAdjacent k _).trans (keepsQueue_tableChanged _)) rfl

theorem findEntry_queueKept (h : Header) (s : State) : QueueKept s (findEntry h s).1 := by
  have mismatch : ∀ k, KeepsQueue (judgeMismatch k h) := fun _ _ => .ite (.same rfl) (.same rfl)
  have judged : ∀ r : State × Option Nat, QueueKept s r.1 → QueueKept s
      (match r with
        | (t, some k) => (judgeMismatch k h t, some k)
        | (t, none) => (t, none)).1 := by
    rintro ⟨t, _ | k⟩ found
    · exact found
    · exact found.trans (mismatch k t)
  unfold findEntry
  refine judged _ ?_
  split
  · split
    · exact .refl s
    · exact moved_queueKept _ _ _ s
  · exact admitPeer_queueKept _ _ s

/-- A frame taken by the Peer Table: its entry found, what acts on that entry, and what every change of the table brings. -/
theorem keepsQueue_tableReport (h : Header) (p : ReportPayload) : KeepsQueue (tableReport h p) := fun s => by
  have found := findEntry_queueKept h s
  have acted : ∀ k, KeepsQueue (reportActs k h p) := fun _ _ => .ite (.same rfl) (.same rfl)
  unfold tableReport
  split
  · next heq => rw [heq] at found; exact (found.trans (acted _ _)).trans (keepsQueue_tableChanged _)
  · next heq => rw [heq] at found; exact found.trans (keepsQueue_tableChanged _)

theorem keepsQueue_tableOther (h : Header) : KeepsQueue (tableOther h) := fun s => by
  have found := findEntry_queueKept h s
  unfold tableOther
  split
  · next heq => rw [heq] at found; exact found.trans (.after (keepsQueue_tableChanged (otherActs _ h _)) rfl)
  · next heq => rw [heq] at found; exact found.trans (keepsQueue_tableChanged _)

theorem keepsQueue_tableAlert (h : Header) (c : AlertContent) : KeepsQueue (tableAlert h c) := fun s => by
  have found := findEntry_queueKept h s
  unfold tableAlert
  split
  · next t k heq =>
    rw [heq] at found
    have acted := found.trans (.after (keepsQueue_tableChanged (modifyPeer k (fun e => { e with snapshot := some c })
      (otherActs k h t))) rfl)
    exact .ite (acted.trans (keepsQueue_requestDisturbance _ _ _)) acted
  · next heq => rw [heq] at found; exact found.trans (keepsQueue_tableChanged _)

theorem keepsQueue_loseSlot (k : Nat) : KeepsQueue (loseSlot k) := fun _ => .same rfl

theorem keepsQueue_moveSlot (k : Nat) : KeepsQueue (moveSlot k) := fun s =>
  .ite (.same rfl) (.ite (keepsQueue_loseSlot k s) (.ite (keepsQueue_freeSlot k s) (.refl s)))

theorem keepsQueue_agePeers : KeepsQueue agePeers := fun s =>
  have aged : QueueKept s (s.setEntries (s.peers.entries.map (fun e => closeProbation (raiseAge (raiseSilences e))))) := .same rfl
  have moves : KeepsQueue (fun s => (List.range 16).foldl (fun s k => moveSlot k s) s) :=
    keepsQueue_foldl keepsQueue_moveSlot _
  (aged.trans (moves _)).trans (keepsQueue_tableChanged _)

theorem keepsQueue_ageTables : KeepsQueue ageTables := fun s => (keepsQueue_agePeers s).trans (keepsQueue_ageRegister _)

/-! ## Completions and the counts of a strobe (R56, R72, R173) -/

theorem keepsQueue_tellOwner (x : QueueSubject) : KeepsQueue (tellOwner x) := fun s => by
  have closed : ∀ kind fin, KeepsQueue (releaseClosed kind fin) := fun _ _ s =>
    (keepsQueue_removeRecords _ s).trans (keepsQueue_testCloseOnChange _)
  unfold tellOwner
  split
  · exact (closed _ _).reporting s
  · exact .refl s

theorem keepsQueue_completeSeries (x : QueueSubject) : KeepsQueue (completeSeries x) := fun s => by
  have removed : QueueKept s (s.setQueue (queueRemove x s.link.queue)) := ⟨fun h => h.queueRemove x⟩
  have advanced : QueueKept s (s.setQueue (queueModify x advanceSeries s.link.queue)) :=
    ⟨fun h => h.queueModify fun e he => (advanceSeries_subject e).trans he⟩
  unfold completeSeries
  split
  · exact .ite (.refl s) (.ite (removed.trans (keepsQueue_tellOwner x _)) advanced)
  · exact .refl s

theorem keepsQueue_completeFrame : KeepsQueue completeFrame := fun s => by
  unfold completeFrame
  split
  · exact .after (keepsQueue_completeSeries _ _) rfl
  · exact .same rfl

theorem keepsQueue_countTimeout : KeepsQueue countTimeout := fun _ => .ite (.after (keepsQueue_judgeImpaired _) rfl) (.same rfl)

theorem keepsQueue_clearTimeouts : KeepsQueue clearTimeouts := fun _ =>
  .ite (.after (keepsQueue_judgeImpaired _) rfl) (.same rfl)

theorem keepsQueue_completeIfDue : KeepsQueue completeIfDue :=
  .ite (fun s => completionDue s = true) fun s => (keepsQueue_completeFrame s).trans (keepsQueue_countTimeout _)

theorem keepsQueue_endReceptionIfDue : KeepsQueue endReceptionIfDue := .ite (fun s => receptionDue s = true) fun _ => .same rfl

/-- The counts of a strobe (R56, R59, R78). -/
theorem keepsQueue_strobeTimers : KeepsQueue strobeTimers := fun _ =>
  .after (.trans (.trans (keepsQueue_completeIfDue _) (keepsQueue_endReceptionIfDue _)) (keepsQueue_endBackoffIfDue _)) rfl

/-! ## Delivered frames (Chapters 4 and 5) -/

theorem keepsQueue_timelineReport (h : Header) (l : Stamp) : KeepsQueue (timelineReport h l) := fun s => by
  have source : KeepsQueue (sourceReport h l) := fun s => by
    unfold sourceReport
    dsimp only
    split
    · exact .ite (.same rfl) (.ite (.same rfl) (.same rfl))
    · exact .ite (.same rfl) (.same rfl)
    · exact .same rfl
  have marked : QueueKept s (setMark h.sender (alignedBy s.port.image.n h l) s) := by
    unfold setMark
    split <;> exact .same rfl
  unfold timelineReport
  dsimp only
  split
  · exact marked
  · exact marked.trans (.ite (.same rfl) (.refl _))
  · exact .ite (marked.trans (source _)) marked

theorem keepsQueue_takeReport (h : Header) (p : Payload) (l : Stamp) : KeepsQueue (takeReport h p l) := fun s => by
  unfold takeReport
  split
  · exact ((keepsQueue_frameHeard s).trans (keepsQueue_tableReport h _ _)).trans (keepsQueue_timelineReport h l _)
  · exact .refl s

theorem frameHeard_setHold_queueKept (s : State) : QueueKept s (setHold (frameHeard s)) :=
  (keepsQueue_frameHeard s).trans (.same rfl)

theorem tableOther_queueKept (h : Header) (s : State) : QueueKept s (tableOther h (setHold (frameHeard s))) :=
  (frameHeard_setHold_queueKept s).trans (keepsQueue_tableOther h _)

theorem keepsQueue_takeAlert (h : Header) (p : Payload) (l : Stamp) : KeepsQueue (takeAlert h p l) := fun s => by
  unfold takeAlert
  split
  · exact (frameHeard_setHold_queueKept s).trans (keepsQueue_tableAlert h _ _)
  · exact .refl s

theorem keepsQueue_takeClaimFrame (h : Header) (p : Payload) (l : Stamp) : KeepsQueue (takeClaimFrame h p l) := fun s => by
  unfold takeClaimFrame
  split
  · exact (tableOther_queueKept h s).trans ((keepsQueue_takeClaim _ _ _).reporting _)
  · exact .refl s

theorem keepsQueue_takeReleaseFrame (h : Header) (p : Payload) (l : Stamp) : KeepsQueue (takeReleaseFrame h p l) :=
  fun s => by
  unfold takeReleaseFrame
  split
  · exact (tableOther_queueKept h s).trans ((keepsQueue_takeRelease _ _).reporting _)
  · exact .refl s

theorem keepsQueue_trippedBlocks (n : Nat) (h : Header) (c : TrippedContent) : KeepsQueue (trippedBlocks n h c) := fun s => by
  have d : KeepsQueue (detectorTripped h c) := fun s => .ite ((keepsQueue_enterDeenergized _ _).reporting s) (.refl s)
  have r := (keepsQueue_coverZone c).reporting
  have l := keepsQueue_linkageTripped h.sender c
  dsimp only [trippedBlocks]
  split
  · exact ((d s).trans (r _)).trans (l _)
  · exact ((d s).trans (l _)).trans (r _)
  · exact ((r s).trans (d _)).trans (l _)
  · exact ((r s).trans (l _)).trans (d _)
  · exact ((l s).trans (d _)).trans (r _)
  · exact ((l s).trans (r _)).trans (d _)

theorem keepsQueue_takeTripped (h : Header) (p : Payload) (l : Stamp) : KeepsQueue (takeTripped h p l) := fun s => by
  unfold takeTripped
  split
  · exact (tableOther_queueKept h s).trans (.after (keepsQueue_trippedBlocks _ _ _ (nextChoice _).2) rfl)
  · exact .refl s

theorem keepsQueue_deliver (kind : Nat) {act : Header → Payload → Stamp → State → State}
    (h : ∀ x p l, KeepsQueue (act x p l)) (frame : List Byte) : KeepsQueue (deliver kind act frame) := fun s => by
  unfold deliver
  split
  · exact .same rfl
  · exact .ite (.after (h _ _ _ _) rfl) (.refl s)

/-! ## The boundary (Chapters 1 to 5) -/

theorem KeepsQueue.eitherOrder {f g : State → State} (hf : KeepsQueue f) (hg : KeepsQueue g) (race : State → Bool)
    (order : Nat → Bool) : KeepsQueue (fun s => eitherOrder (race s) order f g s) := fun s =>
  have chosen : QueueKept s (nextChoice s).2 := .same rfl
  .ite (.ite ((chosen.trans (hf _)).trans (hg _)) ((chosen.trans (hg _)).trans (hf _))) ((hg s).trans (hf _))

theorem keepsQueue_silenceAnd {f : State → State} (h : KeepsQueue f) : KeepsQueue (silenceAnd f) :=
  keepsQueue_epochSilence.eitherOrder h (fun s => jamChanging s && silentChanging s) _

theorem keepsQueue_enterRun : KeepsQueue enterRun := fun _ => .after (keepsQueue_evaluateTrips _) rfl

theorem keepsQueue_closeWindow (x : EpochNum) : KeepsQueue (closeWindow x) := fun s =>
  ((keepsQueue_shutWindow x s).trans (keepsQueue_evaluateAdjacency _)).trans (keepsQueue_assess x _)

theorem keepsQueue_endAccumulation (e : EpochNum) (b : Bool) (φ : Phase) (m : TrackerMode) :
    KeepsQueue (endAccumulation e b φ m) := fun s => by
  have taken : ∀ r, KeepsQueue (takeRecord r) := fun r s =>
    have handed : QueueKept s (reporting (handRecord r) (s.setEngine { s.engine with ring := ringInsert r s.engine.ring })) :=
      .after ((keepsQueue_handRecord r).reporting _) rfl
    .ite (handed.trans (keepsQueue_offerReport _ _ _)) handed
  exact .ite (.same rfl) (.after (taken _ _) rfl)

theorem keepsQueue_boundaryEnds (e : EpochNum) (b : Bool) (φ : Phase) (m : TrackerMode) :
    KeepsQueue (boundaryEnds e b φ m) := fun s => by
  have begun : QueueKept s (if b then s.setTimeline { s.timeline with slewGuard := false } else s) :=
    .ite (.same rfl) (.refl s)
  have listened : KeepsQueue countListen := fun s =>
    .ite (.ite (.after (keepsQueue_enterRun _) rfl) (.same rfl)) (.refl s)
  have aged := (begun.trans (listened _)).trans
    (.trans (.after (keepsQueue_expireAlert (fallHold _)) rfl) (keepsQueue_ageTables _))
  have recorded : KeepsQueue (recordAndClose e (endAccumulation e b φ m)) := fun s =>
    .ite ((keepsQueue_closeWindow e).eitherOrder (keepsQueue_endAccumulation e b φ m) (fun _ => true) _ s)
      (keepsQueue_endAccumulation e b φ m s)
  have judged := keepsQueue_silenceAnd (keepsQueue_epochBusy.eitherOrder recorded jamComing Config.jamBeforeReport)
  exact (aged.trans (judged _)).trans (keepsQueue_openWindow _)

theorem keepsQueue_boundaryJumps (x : JumpTarget) : KeepsQueue (boundaryJumps x) := fun s => by
  have left : KeepsQueue leaveWindow := .ite (fun s => s.link.windowOpen = true) fun _ => .after (keepsQueue_evaluateAdjacency _) rfl
  have window : KeepsQueue (jumpWindow x) := fun s => .ite ((left s).trans (keepsQueue_openWindow _)) (left s)
  have queue : KeepsQueue (jumpQueue x) := fun s => (keepsQueue_missReport _ s).trans (keepsQueue_rebindAlert _ _)
  have assessed : KeepsQueue (fun t => t.setAssessor (assessorJump t.assessor)) := fun _ => .same rfl
  have agreed : KeepsQueue judgeAgreement := fun _ => .same rfl
  have fallen : KeepsQueue fallHold := fun _ => .same rfl
  have joined : KeepsQueue completeJoin := fun s => .ite (keepsQueue_enterRun s) (.refl s)
  have jumped : QueueKept s (jumpWindow x (jumpQueue x (s.setEngine (engineJump x.cycle s.engine)))) :=
    .after ((queue _).trans (window _)) rfl
  have blind := jumped.trans (.after (keepsQueue_returnToBlind (timelineJump x _)) rfl)
  have entered := ((blind.trans (assessed _)).trans (agreed.reporting _)).trans (joined _)
  exact ((entered.trans (fallen _)).trans (keepsQueue_ageTables _)).trans (keepsQueue_silenceAnd keepsQueue_epochBusy _)

theorem keepsQueue_patchStrobe : KeepsQueue patchStrobe := fun s => by
  rw [patchStrobe_eq]
  exact .same rfl

theorem keepsQueue_recordTracker (es : List TrackerEvent) : KeepsQueue (recordTracker es) := by
  induction es with
  | nil => exact .refl
  | cons e es ih => exact fun s => .after (ih _) rfl

theorem keepsQueue_advanceToSome (s : State) (x : Option Tick) : QueueKept s (advanceToSome s x) := .same (by simp)

/-- A cycle boundary (R5). -/
theorem keepsQueue_boundaryBody : KeepsQueue boundaryBody := fun s => by
  have tail : KeepsQueue (fun t => strobeTimers (abandonBackoff (judgePosture (beginCycle t)))) := fun _ =>
    .after ((keepsQueue_abandonBackoff _).trans (keepsQueue_strobeTimers _)) rfl
  have ended : KeepsQueue endCycle := fun s => (keepsQueue_patchStrobe s).trans (.same rfl)
  have evaluated : KeepsQueue evaluateTracker := fun _ => .after (keepsQueue_recordTracker _ _) rfl
  have continues : KeepsQueue boundaryContinues := fun s => .ite (keepsQueue_closeWindow _ s) (.refl s)
  have judged : ∀ kind k, QueueKept s (evaluateTracker (linkageTimers kind
      (endCycle ((advanceToSome s s.tracker.next).setTracker k)))) := fun kind k =>
    (keepsQueue_advanceToSome s _).trans
      (.after ((ended _).trans ((keepsQueue_linkageTimers kind _).trans (evaluated _))) rfl)
  unfold boundaryBody
  dsimp only
  refine .trans ?_ (tail _)
  split
  · exact (judged _ _).trans (continues _)
  · exact (judged _ _).trans (keepsQueue_boundaryEnds _ _ _ _ _)
  · exact (judged _ _).trans (keepsQueue_boundaryJumps _ _)

/-! ## The other commands' own operations -/

theorem keepsQueue_transact {act : State → Reply × State} (h : ∀ s, QueueKept s (act s).2) : KeepsQueue (transact act) :=
  fun s => by
  unfold transact
  dsimp only
  split
  · exact .refl s
  · split
    · exact .same rfl
    · refine .trans (t := (act (s.setPort _)).2) ?_ (.same rfl)
      exact .after (h _) rfl

theorem keepsQueue_endValidation : KeepsQueue endValidation := fun s => by
  have started : QueueKept s (startInstant s) := ⟨fun _ => ⟨List.nodup_nil, .nil⟩⟩
  unfold endValidation
  split
  · split
    · exact .same rfl
    · exact started.trans (keepsQueue_settle _)
  · exact .refl s

theorem keepsQueue_takeEdge (φ : Phase) (x : Tick) : KeepsQueue (takeEdge φ x) := fun s => by
  unfold takeEdge
  dsimp only
  rw [advanceTo_eq]
  exact .after (keepsQueue_recordTracker _ _) rfl

theorem keepsQueue_nextStrobe : KeepsQueue nextStrobe := fun s => by
  unfold nextStrobe
  split
  · next k _ =>
    have issued : KeepsQueue (fun t => { t with sampling := issueStrobe (k + 1) t.sampling }) := fun _ => .same rfl
    exact .ite ((((keepsQueue_advanceToSome s _).trans (keepsQueue_patchStrobe _)).trans (issued _)).trans
      (keepsQueue_strobeTimers _)) (.refl s)
  · exact .refl s

theorem keepsQueue_takePen (level : Bool) : KeepsQueue (takePen level) := fun _ =>
  .ite (.same rfl) (.after (keepsQueue_evaluateTrips _) rfl)

theorem keepsQueue_setOpenPin (o : Output) (level : Bool) : KeepsQueue (setOpenPin o level) := fun _ => by
  cases o <;> exact .same rfl

theorem keepsQueue_takeOpen (o : Output) (level : Bool) : KeepsQueue (takeOpen o level) := fun s =>
  have held : QueueKept s (holdOpen o level s) := by cases o <;> exact .same rfl
  .ite (held.trans (keepsQueue_confirmTrip keepsQueue_evaluateTrips o _)) held

theorem resetBlocks_queueOk (image : Image) (s : State) : QueueOk (resetBlocks image s).link.queue := ⟨List.nodup_nil, .nil⟩

theorem KeepsQueue.whileWorking {f : State → State} (h : KeepsQueue f) : KeepsQueue (whileWorking f) := fun s =>
  .ite ((h s).trans (keepsQueue_settle _)) (.refl s)

/-! ## Every command -/

/-- Every command keeps the queue in order. -/
theorem exec_queueKept (c : Instr) {s t : State} (ht : exec c s = .next t) : QueueKept s t := by
  have reads : ∀ reply : State → Reply, KeepsQueue (transact (readOnly reply)) := fun _ => keepsQueue_transact .refl
  have working : ∀ {f : State → State}, KeepsQueue f → t = whileWorking f s → QueueKept s t := fun hf e => e ▸ hf.whileWorking s
  cases c with
  | powerOnReset => cases ht; exact ⟨fun _ => resetBlocks_queueOk _ _⟩
  | resetPin => cases ht; exact ⟨fun _ => resetBlocks_queueOk _ _⟩
  | resetPinAsserted => cases ht; exact ⟨fun _ => resetBlocks_queueOk _ _⟩
  | reset => cases ht; exact .ite (.refl s) ⟨fun _ => resetBlocks_queueOk s.port.image s⟩
  | getStatus => cases ht; exact reads _ s
  | getRecord k => cases ht; exact reads _ s
  | getPeer k => cases ht; exact reads _ s
  | getClaims => cases ht; exact reads _ s
  | getMap => cases ht; exact reads _ s
  | badCommand => cases ht; exact reads _ s
  | popEvent =>
    cases ht
    refine keepsQueue_transact (fun s => ?_) s
    unfold popEvent
    split <;> exact .same rfl
  | loadConfig image =>
    cases ht
    refine keepsQueue_transact (fun s => ?_) s
    unfold loadConfig
    split <;> exact .same rfl
  | start =>
    cases ht
    refine keepsQueue_transact (fun s => ?_) s
    unfold startValidation
    split <;> exact .same rfl
  | startValidationEnd => cases ht; exact .ite (.refl s) (keepsQueue_endValidation s)
  | crossingEdge φ x => cases ht; exact working (keepsQueue_takeEdge φ x) rfl
  | referenceMiss =>
    cases ht
    refine working (fun s => ?_) rfl
    unfold missReference
    split
    · dsimp only
      rw [advanceTo_eq]
      exact .same rfl
    · exact .refl s
  | cycleBoundary => cases ht; exact working keepsQueue_boundaryBody rfl
  | sampleStrobe => cases ht; exact working keepsQueue_nextStrobe rfl
  | sampleStall => cases ht; exact working (.ite (fun s => stallDue s.sampling = true) fun _ => .same (by rfl)) rfl
  | sampleSetArrival set =>
    cases ht
    refine working (fun s => ?_) rfl
    rw [takeSampleSet_eq]
    exact .same rfl
  | listenTimeout => cases ht; exact working (.ite (fun s => listenDue s = true) keepsQueue_enterRun) rfl
  | disturbanceClose => cases ht; exact working keepsQueue_testClose.reporting rfl
  | disturbanceTimeout =>
    cases ht
    exact working (KeepsQueue.ite (fun s => forceDue s = true) keepsQueue_forceClose).reporting rfl
  | blindExit =>
    cases ht
    exact working (KeepsQueue.ite (fun s => blindExitDue s = true) keepsQueue_leaveBlind).reporting rfl
  | deenergizedRestored =>
    cases ht
    exact working (KeepsQueue.ite (fun s => restoreDue s = true) keepsQueue_restoreLine).reporting rfl
  | alertExpired => cases ht; exact working keepsQueue_expireAlert rfl
  | vigilanceHoldExpired => cases ht; exact working (.ite (fun s => s.link.hold = 0) fun _ => .same (by rfl)) rfl
  | probationWindowPassed k => cases ht; exact working (fun _ => .same (by rfl)) rfl
  | peerStale k =>
    cases ht
    exact working (.ite (fun s => staleDue (peerAt s k) = true) fun s =>
      .after (keepsQueue_tableChanged (modifyPeer k (fun e => { e with state := .stale }) s)) rfl) rfl
  | peerLost k =>
    cases ht
    exact working (.ite (fun s => lostDue (peerAt s k) = true) fun s =>
      (keepsQueue_loseSlot k s).trans (keepsQueue_tableChanged _)) rfl
  | peerFreed k =>
    cases ht
    exact working (.ite (fun s => freeDue (peerAt s k) = true) fun s =>
      (keepsQueue_freeSlot k s).trans (keepsQueue_tableChanged _)) rfl
  | claimRefresh k f => cases ht; exact working (keepsQueue_refreshIfDue (ownKey s k f)).reporting rfl
  | claimExpired key => cases ht; exact working (keepsQueue_expireClaim key).reporting rfl
  | delayEnd k => cases ht; exact working (.ite (fun s => delayEnded s k = true) keepsQueue_evaluateTrips) rfl
  | backupTrip k =>
    cases ht
    refine working (fun s => ?_) rfl
    split
    · exact keepsQueue_expireBackup _ _ s
    · exact .refl s
  | jammedSet => cases ht; exact working (.ite (fun s => jamDue s = true) keepsQueue_setJammed) rfl
  | silentSet => cases ht; exact working keepsQueue_judgeSilent rfl
  | txDone =>
    cases ht
    have completed : KeepsQueue (fun s => if s.link.sending then completeFrame s else s) :=
      .ite (fun s => s.link.sending = true) keepsQueue_completeFrame
    exact working (fun s => (completed s).trans (keepsQueue_clearTimeouts _)) rfl
  | txCompletionTimeout => cases ht; exact working keepsQueue_completeIfDue rfl
  | backoffEnd => cases ht; exact working keepsQueue_endBackoffIfDue rfl
  | channelBusyChange level =>
    cases ht
    have watched : KeepsQueue (watchBusy level) := fun s => .ite (.refl s) (.same (by rfl))
    exact .after (watched.whileWorking { s with busyPin := level }) rfl
  | rxStart => cases ht; exact working (.ite (fun s => s.link.receiverEnable = true) fun _ => .same (by rfl)) rfl
  | receptionTimeout => cases ht; exact working keepsQueue_endReceptionIfDue rfl
  | reportReceived frame => cases ht; exact working (keepsQueue_deliver 1 keepsQueue_takeReport frame) rfl
  | alertReceived frame => cases ht; exact working (keepsQueue_deliver 2 keepsQueue_takeAlert frame) rfl
  | claimReceived frame => cases ht; exact working (keepsQueue_deliver 3 keepsQueue_takeClaimFrame frame) rfl
  | releaseReceived frame => cases ht; exact working (keepsQueue_deliver 4 keepsQueue_takeReleaseFrame frame) rfl
  | trippedReceived frame => cases ht; exact working (keepsQueue_deliver 5 keepsQueue_takeTripped frame) rfl
  | receivedFrameDropped frame => cases ht; exact working (keepsQueue_deliver 0 (fun _ _ _ s => .refl s) frame) rfl
  | penChange level => cases ht; exact .ite (.same (by rfl)) ((keepsQueue_takePen level s).trans (keepsQueue_settle _))
  | openConfirmChange o level =>
    cases ht
    have set := keepsQueue_setOpenPin o level s
    exact .ite set ((set.trans (keepsQueue_takeOpen o level _)).trans (keepsQueue_settle _))
  | tripFailed o => cases ht; exact working (keepsQueue_failIfDue o) rfl

/-- Settles O6: a step with a command waiting by `exec_queueKept`, one with none touches no queue entry; the bound is the number of
subjects. -/
theorem transmitQueueInvariant : Obligations.TransmitQueueInvariant := by
  refine ⟨fun s t h hstep => ?_, fun q h => h.length_le⟩
  unfold step at hstep
  split at hstep
  · cases hstep
    unfold idle
    split <;> exact h
  · next c rest _ => exact (exec_queueKept c (s := { s with pending := rest }) hstep).ordered h

end Sys2Proof.Machine

/-! Posture and receiver-enable (R57, R67): every command of a working part ends in the re-judging that sets them, and no other command
touches what they are judged by; the statement O10. -/

namespace Sys2Proof.Machine

/-- Posture and receiver are judged by the run state, the link, the Detector and the register alone (R57, R67). -/
theorem PostureOk.congr {s t : State} (h : PostureOk s) (run : t.run = s.run) (link : t.link = s.link)
    (detector : t.detector = s.detector) (register : t.register = s.register) : PostureOk t := by
  unfold PostureOk vigilantNow receiverNow at h ⊢
  rw [run, link, detector, register]
  exact h

/-- In CONFIG nothing is asked of them. -/
theorem postureOk_of_config {s : State} (h : s.run = .config) : PostureOk s := fun hn => absurd h hn

theorem whileWorking_posture {f : State → State} {s : State} (h : PostureOk s) : PostureOk (whileWorking f s) := by
  cases hw : s.working with
  | false => rw [whileWorking_of_idle hw]; exact h
  | true => rw [whileWorking_of_working hw]; exact settle_posture

theorem transact_posture {act : State → Reply × State} {s : State}
    (hact : ∀ s, PostureOk s → PostureOk (act s).2) (h : PostureOk s) : PostureOk (transact act s) := by
  cases held : s.resetHeld with
  | true => rw [transact_of_held held]; exact h
  | false =>
    cases busy : s.port.busy with
    | true => rw [transact_of_busy held busy]; exact h.congr rfl rfl rfl rfl
    | false =>
      rw [transact_of_ready held busy]
      refine (hact { s with port := { s.port with shifted := some s.port.reply } } ?_).congr rfl rfl rfl rfl
      exact h.congr rfl rfl rfl rfl

theorem endValidation_posture {s : State} (h : PostureOk s) : PostureOk (endValidation s) := by
  unfold endValidation
  split
  · split
    · exact h.congr rfl rfl rfl rfl
    · exact settle_posture
  · exact h

/-- Every command keeps posture and receiver as their rules give them. -/
theorem exec_posture (c : Instr) {s t : State} (h : PostureOk s) (ht : exec c s = .next t) : PostureOk t := by
  cases c with
  | powerOnReset => cases ht; exact postureOk_of_config rfl
  | resetPin => cases ht; exact postureOk_of_config rfl
  | resetPinAsserted => cases ht; exact postureOk_of_config rfl
  | reset =>
    cases ht
    unfold commandReset
    split
    · exact h
    · exact postureOk_of_config rfl
  | getStatus => cases ht; exact transact_posture (fun _ h => h) h
  | getRecord k => cases ht; exact transact_posture (fun _ h => h) h
  | getPeer k => cases ht; exact transact_posture (fun _ h => h) h
  | getClaims => cases ht; exact transact_posture (fun _ h => h) h
  | getMap => cases ht; exact transact_posture (fun _ h => h) h
  | badCommand => cases ht; exact transact_posture (fun _ h => h) h
  | popEvent => cases ht; exact transact_posture (fun _ h => by unfold popEvent; split <;> exact h.congr rfl rfl rfl rfl) h
  | loadConfig image => cases ht; exact transact_posture (fun _ h => by unfold loadConfig; split <;> exact h.congr rfl rfl rfl rfl) h
  | start => cases ht; exact transact_posture (fun _ h => by unfold startValidation; split <;> exact h.congr rfl rfl rfl rfl) h
  | startValidationEnd =>
    cases ht
    split
    · exact h
    · exact endValidation_posture h
  | channelBusyChange level => cases ht; exact whileWorking_posture (s := { s with busyPin := level }) (h.congr rfl rfl rfl rfl)
  | penChange level =>
    cases ht
    split
    · exact h.congr rfl rfl rfl rfl
    · exact settle_posture
  | openConfirmChange o level =>
    cases ht
    split
    · cases o <;> exact h.congr rfl rfl rfl rfl
    · exact settle_posture
  | _ => cases ht; exact whileWorking_posture h

/-- Settles O10: with a command waiting by `exec_posture`; a step with none moves the timebase or the queue of commands alone. -/
theorem postureInvariant : Obligations.PostureInvariant := by
  intro s t h hstep
  unfold step at hstep
  split at hstep
  · cases hstep
    unfold idle
    split <;> exact h
  · next c rest _ => exact exec_posture c (s := { s with pending := rest }) h hstep

end Sys2Proof.Machine

/-! What the link does of itself at the end of a command (R57, R67, R76 to R78), read off `LinkSettled` and in each case of the access:
the layer under the statements about the link's events. -/

namespace Sys2Proof.Machine

/-! ## The queue's operations, entry by entry (R69) -/

/-- The entry of a subject after a change in place that keeps subjects. -/
theorem queueFind_queueModify {f : QueueEntry → QueueEntry} (hf : ∀ e, (f e).subject = e.subject) (q : List QueueEntry)
    (x y : QueueSubject) : queueFind (queueModify y f q) x = if x = y then (queueFind q x).map f else queueFind q x := by
  induction q with
  | nil => split <;> rfl
  | cons e q ih =>
    have subject : (if e.subject = y then f e else e).subject = e.subject := by
      split
      · exact hf e
      · rfl
    simp only [queueFind, queueModify, List.map_cons, List.find?_cons, subject] at ih ⊢
    by_cases hx : e.subject = x
    · simp only [hx, decide_true, Option.map_some]
      split <;> rfl
    · simpa only [hx, decide_false] using ih

/-- The mark of a series just handed over (R55). -/
def marked (e : QueueEntry) : QueueEntry := { e with mark := .current }

theorem marked_subject (e : QueueEntry) : (marked e).subject = e.subject := rfl

/-! ## Commands of a working part -/

/-- A working part's command is taken, and the link re-judged. -/
theorem next_whileWorking {s : State} (hw : s.working = true) (f : State → State) :
    (Host.Outcome.next (whileWorking f s) : Outcome) = .next (settle (f s)) := by
  rw [whileWorking_of_working hw]

/-! ## Consequences of `LinkSettled` -/

section
variable {l : Link} {t : State}

/-- Where no frame is handed over, the access and its lines alone have moved (R57, R67, R76 to R78). -/
theorem LinkSettled.unsent (h : LinkSettled l t) (hs : t.link.sending = l.sending) : t.link = { l with
    vigilant := t.link.vigilant, receiverEnable := t.link.receiverEnable
    access := t.link.access, candidate := t.link.candidate, backoff := t.link.backoff, lfsr := t.link.lfsr } := by
  obtain ⟨-, -, same, -⟩ := h
  obtain ⟨link, -⟩ := same hs
  exact link

/-- The queue stands, or a due series in it has been handed over and marked (R55). -/
theorem LinkSettled.queue (h : LinkSettled l t) : (t.link.queue = l.queue ∧ t.link.inFlight = l.inFlight) ∨
    ∃ e ∈ l.queue, e.cls = 0 ∧ e.due = true ∧ e.mark = .noFrame ∧ t.link.inFlight.map InFlight.subject = some e.subject ∧
      t.link.sending = true ∧ t.link.queue = queueModify e.subject marked l.queue := by
  by_cases hs : t.link.sending = l.sending
  · exact .inl (by rw [h.unsent hs]; exact ⟨rfl, rfl⟩)
  · obtain ⟨-, -, -, handed⟩ := h
    obtain ⟨-, -, -, -, e, he, cls, due, mark, flight, link⟩ := handed hs
    exact .inr ⟨e, he, cls, due, mark, flight, by rw [link], by rw [link]; rfl⟩

/-- No entry enters or leaves the queue. -/
theorem LinkSettled.subjects (h : LinkSettled l t) : t.link.queue.map QueueEntry.subject = l.queue.map QueueEntry.subject := by
  rcases h.queue with ⟨hq, -⟩ | ⟨e, -, -, -, -, -, -, hq⟩
  · rw [hq]
  · rw [hq]
    exact queueModify_subjects (f := marked) (fun _ hx => hx) _

/-- The window and the counters stand. -/
theorem LinkSettled.counters (h : LinkSettled l t) : t.link.windowOpen = l.windowOpen ∧ t.link.drops = l.drops ∧
    t.link.reportsMissed = l.reportsMissed ∧ t.link.alertsExpired = l.alertsExpired := by
  by_cases hs : t.link.sending = l.sending
  · rw [h.unsent hs]
    exact ⟨rfl, rfl, rfl, rfl⟩
  · obtain ⟨-, -, -, handed⟩ := h
    obtain ⟨-, -, -, -, e, -, -, -, -, -, link⟩ := handed hs
    rw [link]
    exact ⟨rfl, rfl, rfl, rfl⟩

/-- Only a free part in RUN, its channel idle and its queue not empty, hands over at once (R76, R78). -/
theorem LinkSettled.hands_over_nothing (h : LinkSettled l t)
    (quiet : t.run = .listen ∨ l.queue = [] ∨ l.sending = true ∨ t.busyPin = true) : t.link.sending = l.sending := by
  obtain ⟨-, -, -, handed⟩ := h
  by_contra hs
  obtain ⟨run, free, idle, -, e, he, -⟩ := handed hs
  rcases quiet with listen | empty | sending | busy
  · exact absurd (run.symm.trans listen) (by decide)
  · exact absurd (empty ▸ he) List.not_mem_nil
  · exact absurd (free.symm.trans sending) (by decide)
  · exact absurd (idle.symm.trans busy) (by decide)

end

/-! ## The re-judging of a state -/

section
variable {s : State}

theorem settle_handed (hr : s.run ≠ .config) (hs : (settle s).link.sending ≠ s.link.sending) :
    HandedOverAtOnce s (settle s) := by
  obtain ⟨-, -, -, handed⟩ := settle_linkSettled hr
  have before : ({ settle s with link := s.link } : State) = s := by rw [settle_eq]
  have now := handed hs
  rwa [before] at now

theorem settle_of_running (hr : s.run ≠ .config) : settle s = judgeReceiver (judgePosture (judgeAccess (judgePosture s))) :=
  if_neg hr

/-- A posture judged before the re-judging is judged again (R67). -/
theorem settle_judgePosture (hr : s.run ≠ .config) : settle (judgePosture s) = settle s := by
  rw [settle_of_running hr, settle_of_running (s := judgePosture s) hr]
  rfl

/-- Nothing is chosen while a frame is in flight (R76). -/
theorem settle_of_sending (hr : s.run ≠ .config) (hs : s.link.sending = true) : (settle s).link = { s.link with
    vigilant := (settle s).link.vigilant, receiverEnable := (settle s).link.receiverEnable } := by
  obtain ⟨-, quiet, -, -⟩ := settle_linkSettled hr
  exact quiet (.inr (.inl hs))

/-- Where no backoff runs, a free part in RUN chooses its candidate afresh (R76). -/
theorem settle_chooses (hr : s.run = .run) (hs : s.link.sending = false) (ha : s.link.access ≠ .backoff) :
    settle s = judgeReceiver (judgePosture (chooseCandidate (judgePosture s))) := by
  rw [settle_of_running (by rw [hr]; decide)]
  unfold judgeAccess
  rw [if_neg (by simp [judgePosture, hr, hs]), if_neg (by simp [judgePosture, ha])]

/-- On a busy channel the first eligible entry waits (R76). -/
theorem settle_defers_first {e : QueueEntry} (hr : s.run = .run) (hs : s.link.sending = false) (ha : s.link.access ≠ .backoff)
    (hb : s.busyPin = true) (he : firstEligible (judgePosture s) = some e) :
    settle s = judgeReceiver (judgePosture (deferAccess e (judgePosture s))) := by
  rw [settle_chooses hr hs ha]
  unfold chooseCandidate
  rw [he]
  exact congrArg (fun t => judgeReceiver (judgePosture t)) (if_pos hb)

/-- On an idle channel it draws a backoff (R77). -/
theorem settle_draws {e : QueueEntry} (hr : s.run = .run) (hs : s.link.sending = false) (ha : s.link.access ≠ .backoff)
    (hb : s.busyPin = false) (he : firstEligible (judgePosture s) = some e) :
    settle s = judgeReceiver (judgePosture (drawBackoff e (judgePosture s))) := by
  rw [settle_chooses hr hs ha]
  unfold chooseCandidate
  rw [he]
  exact congrArg (fun t => judgeReceiver (judgePosture t)) (if_neg (by rw [show (judgePosture s).busyPin = false from hb]; decide))

/-- Nothing is drawn on a busy channel (R77). -/
theorem settle_lfsr_of_busy (hb : s.busyPin = true) : (settle s).link.lfsr = s.link.lfsr := by
  unfold settle judgeAccess chooseCandidate
  split
  · rfl
  · split
    · rfl
    · split
      · rfl
      · split
        · rfl
        · rw [if_pos (show (judgePosture s).busyPin = true from hb)]
          rfl

/-- Where the posture stands as its rule gives it, the re-judging finds the entries eligible that were (R67, R75). -/
theorem eligible_judgePosture (hp : PostureOk s) (hr : s.run ≠ .config) : eligible (judgePosture s) = eligible s :=
  eligible_congr rfl (hp hr).1.symm rfl rfl rfl

/-- Eligibility reads of the fault unit JAMMED and XCVR_FAULT alone (R172, R174). -/
theorem eligible_of_fault {t : State} (hr : t.run = s.run) (hl : t.link = s.link) (he : t.tracker = s.tracker)
    (hj : t.fault.jammed = s.fault.jammed) (hx : t.fault.xcvrFault = s.fault.xcvrFault) : eligible t = eligible s := by
  funext e
  simp only [eligible, timely, barred, hr, hl, he, hj, hx]

end

end Sys2Proof.Machine

/-! The link's events other than a completion (R58, R59, R67, R68, R71, R76 to R78): the statements O40, O42, O43 and O44. -/

namespace Sys2Proof.Machine

/-! ## ALERT_EXPIRED (R71) -/

/-- The link once an expired ALERT has been removed and counted (R71). -/
def alertRemoved (l : Link) : Link := { l with
  queue := queueRemove .alert l.queue, alertsExpired := raise16 l.alertsExpired }

theorem expireAlert_of_overdue {e : QueueEntry} {s : State} (he : queueFind s.link.queue .alert = some e)
    (h : 2 ≤ epochDiff s.tracker.epoch e.bound) : expireAlert s = s.setLink (alertRemoved s.link) := by
  unfold expireAlert alertOverdue
  rw [he]
  exact if_pos (decide_eq_true h)

theorem expireAlert_of_young {e : QueueEntry} {s : State} (he : queueFind s.link.queue .alert = some e)
    (h : epochDiff s.tracker.epoch e.bound < 2) : expireAlert s = s := by
  unfold expireAlert alertOverdue
  rw [he]
  exact if_neg (Bool.eq_false_iff.mp (decide_eq_false (by omega)))

/-- An overdue ALERT leaves the queue, and none comes back at the end of the command. -/
theorem alertExpired_of_overdue {e : QueueEntry} {s : State} (hr : s.run ≠ .config)
    (he : queueFind s.link.queue .alert = some e) (h : 2 ≤ epochDiff s.tracker.epoch e.bound)
    (hc : s.link.alertsExpired ≤ 65535) :
    let t := settle (expireAlert s)
    (∀ x ∈ t.link.queue, x.subject ≠ .alert) ∧ t.link.alertsExpired = min 65535 (s.link.alertsExpired + 1) ∧
      LinkSettled { s.link with
        queue := s.link.queue.filter (fun x => x.subject ≠ .alert)
        alertsExpired := min 65535 (s.link.alertsExpired + 1) } t := by
  have count : raise16 s.link.alertsExpired = min 65535 (s.link.alertsExpired + 1) := raise_eq_min hc
  have settled : LinkSettled (alertRemoved s.link) (settle (s.setLink (alertRemoved s.link))) :=
    settle_linkSettled (s := s.setLink (alertRemoved s.link)) hr
  obtain ⟨-, -, -, counted⟩ := settled.counters
  rw [expireAlert_of_overdue he h]
  refine ⟨fun x hx => ?_, counted.trans count, ?_⟩
  · obtain ⟨y, hy, same⟩ := List.mem_map.mp (settled.subjects ▸ List.mem_map_of_mem (f := QueueEntry.subject) hx)
    rw [← same]
    exact queueRemove_subject y hy
  · rw [← count]
    exact settled

/-- A younger ALERT stays as it stands, whatever is handed over at the end of the command. -/
theorem alertExpired_of_young {e : QueueEntry} {s : State} (hr : s.run ≠ .config)
    (he : queueFind s.link.queue .alert = some e) (h : epochDiff s.tracker.epoch e.bound < 2) :
    let t := settle (expireAlert s)
    queueFind t.link.queue .alert = some e ∧ t.link.alertsExpired = s.link.alertsExpired ∧ LinkSettled s.link t := by
  have settled := settle_linkSettled hr
  obtain ⟨-, -, -, counted⟩ := settled.counters
  rw [expireAlert_of_young he h]
  refine ⟨?_, counted, settled⟩
  rcases settled.queue with ⟨hq, -⟩ | ⟨d, -, cls, -, -, -, -, hq⟩
  · rw [hq, he]
  · have other : QueueSubject.alert ≠ d.subject := fun hd => by
      rw [QueueEntry.cls_eq, ← hd] at cls
      exact absurd cls (by decide)
    rw [hq, queueFind_queueModify marked_subject, if_neg other, he]

/-! ## VIGILANCE_HOLD_EXPIRED (R57, R67, R68) -/

/-- With the hold at 0 the assessment state and the register alone make the posture (R67). -/
theorem vigilantNow_of_no_hold {s : State} (h : s.link.hold = 0) :
    vigilantNow s = true ↔ s.detector.assessment ≠ .calm ∨ s.register.records ≠ [] := by
  simp [vigilantNow, h]

/-- The receiver-enable line of a part in LISTEN or RUN (R57). -/
theorem receiverNow_iff {s : State} (hr : s.run ≠ .config) : receiverNow s = true ↔ s.link.sending = false ∧
    (s.run = .listen ∨ s.link.vigilant = true ∨ s.link.windowOpen = true ∨ s.link.receiving = true) := by
  unfold receiverNow
  cases h : s.run with
  | config => exact absurd h hr
  | listen => simp
  | run => simp [or_assoc]

theorem holdExpired_judges {s : State} (hr : s.run ≠ .config) (hh : s.link.hold = 0)
    (same : (settle s).link.sending = s.link.sending) :
    let t := settle s
    t.link.hold = 0 ∧ t.link.queue = s.link.queue ∧
      (t.link.vigilant = true ↔ s.detector.assessment ≠ .calm ∨ s.register.records ≠ []) ∧
      (t.link.receiverEnable = true ↔ s.link.sending = false ∧
        (s.run = .listen ∨ t.link.vigilant = true ∨ s.link.windowOpen = true ∨ s.link.receiving = true)) := by
  have frame := settle_eq s
  obtain ⟨posture, -⟩ := settle_linkSettled hr
  have link := (settle_linkSettled hr).unsent same
  have run : (settle s).run = s.run := by rw [frame]
  have hold : (settle s).link.hold = 0 := by rw [link]; exact hh
  obtain ⟨vigilant, receiver⟩ := posture (by rw [run]; exact hr)
  refine ⟨hold, by rw [link], ?_, ?_⟩
  · rw [vigilant, vigilantNow_of_no_hold hold, frame]
  · rw [receiver, receiverNow_iff (by rw [run]; exact hr), run, same, show (settle s).link.windowOpen = s.link.windowOpen by rw [link],
      show (settle s).link.receiving = s.link.receiving by rw [link]]

/-- Settles O40: the ALERT by its age, the hold by the re-judging alone. -/
theorem alertAndHoldRunOut : Obligations.AlertAndHoldRunOut := by
  refine ⟨fun e s hw he hc => ⟨_, next_whileWorking hw expireAlert, ?_, fun h => ?_, fun h => ?_⟩, fun s hw hh => ?_⟩
  · rw [settle_eq]
    unfold expireAlert
    split <;> rfl
  · exact alertExpired_of_overdue (State.working_run hw) he h hc
  · exact alertExpired_of_young (State.working_run hw) he h
  · have hr := State.working_run hw
    have judged : settle (if s.link.hold = 0 then judgePosture s else s) = settle s := by
      rw [if_pos hh, settle_judgePosture hr]
    refine ⟨_, next_whileWorking hw _, ?_⟩
    rw [judged]
    exact ⟨settle_eq s, settle_linkSettled hr, holdExpired_judges hr hh, settle_handed hr⟩

/-! ## BACKOFF_END (R55, R57, R78) -/

/-- A hand-over, and the re-judging after it: the frame goes, and the receiver with it (R55, R57). -/
theorem settle_handOver {e : QueueEntry} {s : State} (hr : s.run = .run) :
    (settle (handOver e s)).link = { (handOver e s).link with
      vigilant := vigilantNow (handOver e s), receiverEnable := false } := by
  have run : (handOver e s).run ≠ .config := by rw [show (handOver e s).run = .run from hr]; decide
  have frame := settle_eq (handOver e s)
  have link := settle_of_sending run rfl
  obtain ⟨vigilant, receiver⟩ := settle_posture (s := handOver e s) (by rw [frame]; exact run)
  have judged : vigilantNow (settle (handOver e s)) = vigilantNow (handOver e s) := by
    unfold vigilantNow
    rw [show (settle (handOver e s)).link.hold = (handOver e s).link.hold by rw [link], frame]
  have off : receiverNow (settle (handOver e s)) = false := Bool.eq_false_iff.mpr fun on => by
    obtain ⟨ready, -⟩ := (receiverNow_iff (by rw [frame]; exact run)).mp on
    rw [link] at ready
    exact absurd ready (show ¬ true = false by decide)
  rw [link, vigilant, receiver, judged, off]

/-- The end of a backoff on an idle channel (R55, R68, R78). -/
theorem backoffEnd_hands_over {e : QueueEntry} {s : State} (hr : s.run = .run) :
    let t := settle (handOver e s)
    t.link.sending = true ∧ t.link.inFlight = some ⟨e.subject, putFrame (stampedFrame s e.item)⟩ ∧
      t.link.completionTimer = 0 ∧ t.link.access = .idle ∧ t.link.candidate = none ∧
      t.link.receiverEnable = false ∧ t.link.receiving = false ∧ t.link.latch = none ∧
      (e.cls = 2 → t.link.hold = s.link.hold) ∧
      (e.cls ≠ 2 → t.link.hold = 20 ∧ t.link.vigilant = true) ∧
      (e.cls ≠ 0 → t.link.queue = s.link.queue.filter (fun x => x.subject ≠ e.subject)) ∧
      (e.cls = 0 → t.link.queue = s.link.queue.map (fun x => if x.subject = e.subject then { x with mark := .current } else x)) ∧
      LinkSettled { s.link with
        queue := t.link.queue, inFlight := t.link.inFlight, sending := true, completionTimer := 0, hold := t.link.hold
        access := .idle, candidate := none, backoff := 0, receiving := false, latch := none, receptionTimer := 0 } t := by
  have settled := settle_linkSettled (s := handOver e s) (by rw [show (handOver e s).run = .run from hr]; decide)
  have link := settle_handOver (e := e) hr
  have queue : (settle (handOver e s)).link.queue = handedQueue e s.link.queue := by rw [link]; rfl
  have flight : (settle (handOver e s)).link.inFlight = some ⟨e.subject, putFrame (stampedFrame s e.item)⟩ := by rw [link]; rfl
  have hold : (settle (handOver e s)).link.hold = if e.cls = 2 then s.link.hold else Config.holdEpochs := by rw [link]; rfl
  dsimp only
  rw [queue, flight, hold]
  refine ⟨by rw [link]; rfl, rfl, by rw [link]; rfl, by rw [link]; rfl, by rw [link]; rfl, by rw [link], by rw [link]; rfl,
    by rw [link]; rfl, fun h => if_pos h, fun h => ⟨if_neg h, ?_⟩, fun h => if_neg (by simp [QueueEntry.isSeries, h]),
    fun h => if_pos (by simp [QueueEntry.isSeries, h]), settled⟩
  rw [link]
  simp [vigilantNow, handOver, h, Config.holdEpochs]

/-- The end of a backoff on a busy channel: the first eligible entry waits (R76, R78, log 43). -/
theorem backoffEnd_defers {e : QueueEntry} {s : State} (hr : s.run = .run) (hs : s.link.sending = false) (hp : PostureOk s)
    (he : e ∈ s.link.queue) (hel : eligible s e = true) (hb : s.busyPin = true) :
    let t := settle (deferAccess e s)
    t.link.sending = false ∧ t.link.access = .defer ∧ t.link.queue = s.link.queue ∧
      t.link.candidate = (firstEligible s).map QueueEntry.subject ∧
      LinkSettled { s.link with access := .defer, candidate := some e.subject, backoff := 0 } t := by
  have hrun : s.run ≠ .config := by rw [hr]; decide
  have same : eligible (judgePosture (deferAccess e s)) = eligible s := eligible_congr rfl (hp hrun).1.symm rfl rfl rfl
  obtain ⟨c, hc⟩ : ∃ c, firstEligible s = some c := Option.isSome_iff_exists.mp (List.find?_isSome.mpr ⟨e, he, hel⟩)
  have first : firstEligible (judgePosture (deferAccess e s)) = some c := by
    unfold firstEligible
    rw [same]
    exact hc
  have settled := settle_linkSettled (s := deferAccess e s) hrun
  have waits := settle_defers_first (s := deferAccess e s) hr hs (show Access.defer ≠ .backoff by decide) hb first
  refine ⟨by rw [waits]; exact hs, by rw [waits]; rfl, by rw [waits]; rfl, by rw [waits, hc]; rfl, settled⟩

/-- Settles O42: the ended backoff's candidate is handed over, or waits in DEFER. -/
theorem backoffEndHandsOverOrDefers : Obligations.BackoffEndHandsOverOrDefers := by
  intro e s hw hr hs hp ha hz hc hel
  have he : e ∈ s.link.queue := by
    obtain ⟨x, -, hx⟩ := Option.bind_eq_some_iff.mp hc
    exact (queueFind_some hx).1
  have ends : endBackoffIfDue s = if s.busyPin then deferAccess e s else handOver e s := by
    unfold endBackoffIfDue backoffDue endBackoff
    rw [ha, hz, hc]
    rfl
  refine ⟨_, next_whileWorking hw endBackoffIfDue, by rw [settle_eq, endBackoffIfDue_eq], ?_, fun hb => ?_, fun hb => ?_⟩
  · rw [ends]
    cases hb : s.busyPin with
    | false =>
      rw [if_neg (by decide), settle_handOver hr]
      rfl
    | true =>
      rw [if_pos rfl]
      exact settle_lfsr_of_busy (s := deferAccess e s) hb
  · rw [ends, hb]
    exact backoffEnd_hands_over hr
  · rw [ends, hb]
    exact backoffEnd_defers hr hs hp he hel hb

/-! ## CHANNEL_BUSY_CHANGE and the LFSR (R76, R77, R171) -/

theorem lfsrStep_getLsbD_zero (x : BitVec 16) : (lfsrStep x).getLsbD 0 =
    xor (xor (x.getLsbD 15) (x.getLsbD 13)) (xor (x.getLsbD 12) (x.getLsbD 10)) := by
  simp [lfsrStep]

theorem lfsrStep_getLsbD_succ (x : BitVec 16) {i : Nat} (h : i < 15) : (lfsrStep x).getLsbD (i + 1) = x.getLsbD i := by
  simp [lfsrStep]
  omega

/-- The step loses no bit: bit 16, shifted out, is what the new bit 1 shows once the others are 0 (R77). -/
theorem lfsrStep_ne_zero {x : BitVec 16} (hx : x ≠ 0) : lfsrStep x ≠ 0 := by
  intro h
  have zero : ∀ i, (lfsrStep x).getLsbD i = false := by simp [h]
  have low : ∀ i < 15, x.getLsbD i = false := fun i hi => (lfsrStep_getLsbD_succ x hi).symm.trans (zero (i + 1))
  have top : x.getLsbD 15 = false := by
    have new := zero 0
    rwa [lfsrStep_getLsbD_zero, low 13 (by decide), low 12 (by decide), low 10 (by decide), Bool.xor_false, Bool.xor_false,
      Bool.xor_false] at new
  refine hx (BitVec.eq_of_getLsbD_eq fun i hi => ?_)
  rcases Nat.lt_or_ge i 15 with h | h
  · simpa using low i h
  · obtain rfl : i = 15 := by omega
    simpa using top

/-- The backoff of a class, as R77's table gives it. -/
theorem backoffSlots_eq (cls : Nat) (x : BitVec 16) : backoffSlots cls x =
    if cls = 0 then x.toNat % 4 else if cls = 1 then 4 + x.toNat % 8 else 12 + x.toNat % 64 := by
  unfold backoffSlots
  split
  · rfl
  · rfl
  · rw [if_neg (by assumption), if_neg (by assumption)]

/-- A backoff drawn: it runs, or at 0 its candidate is handed over at once (R77, R78). -/
theorem drawBackoff_link (e : QueueEntry) (s : State) :
    let t := judgeReceiver (judgePosture (drawBackoff e s))
    let b := backoffSlots e.cls (lfsrStep s.link.lfsr)
    t.link.lfsr = lfsrStep s.link.lfsr ∧
      (0 < b → t.link.access = .backoff ∧ t.link.candidate = some e.subject ∧ t.link.backoff = b ∧
        t.link.sending = s.link.sending ∧ t.link.queue = s.link.queue) ∧
      (b = 0 → t.link.sending = true ∧ t.link.inFlight.map InFlight.subject = some e.subject) := by
  dsimp only [drawBackoff]
  split
  · next h => exact ⟨rfl, fun hb => absurd h (by omega), fun _ => ⟨rfl, rfl⟩⟩
  · next h => exact ⟨rfl, fun _ => ⟨rfl, rfl, rfl, rfl, rfl⟩, fun hb => absurd hb h⟩

/-- Settles O43: an idle channel is drawn on, a busy one is not. -/
theorem idleChannelDrawsABackoff : Obligations.IdleChannelDrawsABackoff := by
  refine ⟨fun x hx => lfsrStep_ne_zero hx, fun e s hw hr hs hp ha he => ?_, fun s hw => ?_⟩
  · let u : State := { s with busyPin := false, fault := { s.fault with busyUnbroken := false } }
    have hrun := State.working_run hw
    have first : firstEligible (judgePosture u) = some e := by
      unfold firstEligible
      rw [eligible_judgePosture (s := u) (hp.congr rfl rfl rfl rfl) hrun, eligible_of_fault (s := s) (t := u) rfl rfl rfl rfl rfl]
      exact he
    have draws := settle_draws (s := u) hr hs (by rw [show u.link.access = .defer from ha]; decide) rfl first
    obtain ⟨lfsr, runs, hands⟩ := drawBackoff_link e (judgePosture u)
    rw [backoffSlots_eq] at runs hands
    have done : exec (.channelBusyChange false) s = .next (settle u) :=
      next_whileWorking (s := { s with busyPin := false }) hw (watchBusy false)
    refine ⟨_, done, by rw [settle_eq], by rw [settle_eq], by rw [settle_eq], settle_linkSettled (s := u) hrun, ?_, ?_, ?_⟩
    · rw [draws]
      exact lfsr
    · rw [draws, ← hs]
      exact runs
    · rw [draws]
      exact hands
  · have done : exec (.channelBusyChange true) s = .next (settle { s with busyPin := true }) :=
      next_whileWorking (s := { s with busyPin := true }) hw (watchBusy true)
    refine ⟨_, done, by rw [settle_eq], ?_, settle_linkSettled (s := { s with busyPin := true }) (State.working_run hw)⟩
    exact settle_lfsr_of_busy (s := { s with busyPin := true }) rfl

/-! ## RX_START and RECEPTION_TIMEOUT (R58, R59) -/

/-- The reception of a link replaced: whether one runs, its latch and its timer. -/
def Link.withReception (l : Link) (r : Bool) (x : Option Stamp) (n : Nat) : Link :=
  { l with receiving := r, latch := x, receptionTimer := n }

/-- A hand-over at once takes whatever reception there is, so it is one of the state with any other reception too (R55). -/
theorem HandedOverAtOnce.of_withReception {s t : State} {r : Bool} {x : Option Stamp} {n : Nat}
    (h : HandedOverAtOnce (s.setLink (s.link.withReception r x n)) t) : HandedOverAtOnce s t := by
  obtain ⟨run, free, idle, draw, e, he, cls, due, mark, flight, link⟩ := h
  exact ⟨run, free, idle, draw, e, he, cls, due, mark, flight, link⟩

/-- A change of the reception alone, and the re-judging after it. -/
theorem settle_withReception {s : State} (hw : s.working = true) (r : Bool) (x : Option Stamp) (n : Nat) :
    let t := settle (s.setLink (s.link.withReception r x n))
    t = { s with link := t.link } ∧ LinkSettled (s.link.withReception r x n) t ∧
      (s.run = .listen ∨ s.link.queue = [] ∨ s.link.sending = true ∨ s.busyPin = true → t.link.sending = s.link.sending) ∧
      (t.link.sending ≠ s.link.sending → HandedOverAtOnce s t) ∧
      (t.link.sending = s.link.sending →
        t.link.queue = s.link.queue ∧ t.link.receiving = r ∧ t.link.latch = x ∧ t.link.receptionTimer = n) := by
  have hr : (s.setLink (s.link.withReception r x n)).run ≠ .config := State.working_run hw
  have settled : LinkSettled (s.link.withReception r x n) (settle (s.setLink (s.link.withReception r x n))) :=
    settle_linkSettled hr
  have frame := settle_eq (s.setLink (s.link.withReception r x n))
  refine ⟨by rw [frame]; rfl, settled, fun quiet => settled.hands_over_nothing ?_, fun hs => (settle_handed hr hs).of_withReception,
    fun hs => ?_⟩
  · rw [frame]
    exact quiet
  · rw [settled.unsent hs]
    exact ⟨rfl, rfl, rfl, rfl⟩

theorem takeRxStart_eq (s : State) : takeRxStart s = s.setLink
    (if s.link.receiverEnable = true then s.link.withReception true (some (ownStamp s)) 0 else s.link) := by
  unfold takeRxStart
  split <;> rfl

/-- Settles O44: each event changes the reception alone; where it does not, the link's own reception stands for the change. -/
theorem receptionLatchesTheTimeline : Obligations.ReceptionLatchesTheTimeline := by
  intro s hw
  have stands := settle_withReception hw s.link.receiving s.link.latch s.link.receptionTimer
  refine ⟨⟨_, next_whileWorking hw takeRxStart, ?_⟩, ⟨_, next_whileWorking hw endReceptionIfDue, ?_⟩⟩
  · rw [takeRxStart_eq]
    cases enabled : s.link.receiverEnable with
    | false =>
      obtain ⟨frame, settled, quiet, handed, same⟩ := stands
      exact ⟨frame, settled, quiet, handed, fun hs => ⟨(same hs).1, fun h => absurd h (by decide), fun _ => (same hs).2⟩⟩
    | true =>
      obtain ⟨frame, settled, quiet, handed, same⟩ := settle_withReception hw true (some (ownStamp s)) 0
      refine ⟨frame, settled, quiet, handed, fun hs => ?_⟩
      obtain ⟨queue, receiving, latch, timer⟩ := same hs
      exact ⟨queue, fun _ => ⟨receiving, timer, latch⟩, fun h => absurd h (by decide)⟩
  · by_cases due : s.link.receiving = true ∧ 64 ≤ s.link.receptionTimer
    · have ends : endReceptionIfDue s = s.setLink (s.link.withReception false none 0) :=
        if_pos (Bool.and_eq_true_iff.mpr ⟨due.1, decide_eq_true due.2⟩)
      obtain ⟨frame, settled, quiet, handed, same⟩ := settle_withReception hw false none 0
      rw [ends, if_pos due]
      refine ⟨frame, settled, quiet, handed, fun _ _ => ?_, fun hs => ⟨(same hs).1, fun h => absurd due.2 (by omega)⟩⟩
      by_cases hs : (settle (s.setLink (s.link.withReception false none 0))).link.sending = s.link.sending
      · exact (same hs).2
      · obtain ⟨-, -, -, -, e, -, -, -, -, -, link⟩ := handed hs
        rw [link]
        exact ⟨rfl, rfl, rfl⟩
    · have goes : endReceptionIfDue s = s := by
        refine if_neg fun h => due ?_
        obtain ⟨receiving, timer⟩ := Bool.and_eq_true_iff.mp h
        exact ⟨receiving, of_decide_eq_true timer⟩
      obtain ⟨frame, settled, quiet, handed, same⟩ := stands
      rw [goes, if_neg due]
      exact ⟨frame, settled, quiet, handed, fun hr ht => absurd ⟨hr, ht⟩ due, fun hs => ⟨(same hs).1, fun _ => (same hs).2⟩⟩

end Sys2Proof.Machine

/-! Frames on the link (R60 to R64, section 4.3): what the receive filter makes of any bytes, and what it reads back of the bytes a
frame is put in; the statements O45 and O46. -/

namespace Sys2Proof.Machine

/-! ## Bytes -/

theorem get8_lt (b : List Byte) (k : Nat) : get8 b k < 256 := (b.getD k 0).isLt

theorem get16_lt (b : List Byte) (k : Nat) : get16 b k < 65536 := by
  have hi := get8_lt b k
  have lo := get8_lt b (k + 1)
  unfold get16
  omega

/-- A mask names a phase exactly where its byte is not 0 in bits 0 to 2. -/
theorem getMask_some (b : List Byte) (k : Nat) : (getMask b k).some = true ↔ get8 b k % 8 ≠ 0 := by
  unfold getMask PerPhase.some get8
  generalize b.getD k 0 = x
  simp only [← BitVec.testBit_toNat, Nat.testBit_eq_decide_div_mod_eq, Bool.or_eq_true, decide_eq_true_eq]
  omega

theorem meansInRange_iff {m : Means} : meansInRange m = true ↔ meansPlaced m := by
  simp only [meansInRange, meansPlaced, Bool.and_eq_true, decide_eq_true_eq, and_assoc]

theorem meansInRange_eq_false (b : List Byte) (k : Nat) : meansInRange (getMeans b k) = false ↔ MeansOutOfRange b k := by
  have six : (∃ j : Fin 6, 8192 < get16 b (k + 2 * j.val)) ↔ 8192 < get16 b k ∨ 8192 < get16 b (k + 2) ∨
      8192 < get16 b (k + 4) ∨ 8192 < get16 b (k + 6) ∨ 8192 < get16 b (k + 8) ∨ 8192 < get16 b (k + 10) := by
    simp [Fin.exists_fin_succ]
  unfold MeansOutOfRange
  rw [six, ← Bool.not_eq_true, meansInRange_iff]
  dsimp only [meansPlaced, getMeans]
  omega

/-! ## Codes (section 4.3) -/

theorem phaseOf_eq_none {n : Nat} : phaseOf n = none ↔ n = 0 ∨ 3 < n := by
  match n with
  | 0 | 1 | 2 | 3 => decide
  | n + 4 => exact ⟨fun _ => .inr (by omega), fun _ => rfl⟩

theorem modeOf_eq_none {n : Nat} : modeOf n = none ↔ 2 < n := by
  match n with
  | 0 | 1 | 2 => decide
  | n + 3 => exact ⟨fun _ => by omega, fun _ => rfl⟩

theorem kindOf_eq_none {n : Nat} : kindOf n = none ↔ n = 0 ∨ 2 < n := by
  match n with
  | 0 | 1 | 2 => decide
  | n + 3 => exact ⟨fun _ => .inr (by omega), fun _ => rfl⟩

theorem kindOf_kindCode (k : ClaimKind) : kindOf (kindCode k) = some k := by
  cases k <;> rfl

theorem kindOf_eq_ground {n : Nat} : kindOf n = some .ground ↔ n = 2 := by
  match n with
  | 0 | 1 | 2 => decide
  | n + 3 => exact ⟨fun h => (nomatch h), fun h => by omega⟩

theorem endOf_eq_none {n : Nat} : endOf n = none ↔ n = 0 ∨ 2 < n := by
  match n with
  | 0 | 1 | 2 => decide
  | n + 3 => exact ⟨fun _ => .inr (by omega), fun _ => rfl⟩

theorem resultOf_eq_none {n : Nat} : resultOf n = none ↔ n = 0 ∨ 2 < n := by
  match n with
  | 0 | 1 | 2 => decide
  | n + 3 => exact ⟨fun _ => .inr (by omega), fun _ => rfl⟩

theorem outputOf_eq_none {n : Nat} : outputOf n = none ↔ 1 < n := by
  match n with
  | 0 | 1 => decide
  | n + 2 => exact ⟨fun _ => by omega, fun _ => rfl⟩

/-! ## Fields out of range (R64, check 4) -/

theorem getReport_eq_none (b : List Byte) : getReport b = none ↔
    MeansOutOfRange b 12 ∨ 17 < get8 b 28 ∨ get8 b 29 / 64 = 0 ∨ get8 b 29 / 16 % 4 = 3 := by
  have byte := get8_lt b 29
  have noPhase : phaseOf (get8 b 29 / 64) = none ↔ get8 b 29 / 64 = 0 := by rw [phaseOf_eq_none]; omega
  have noMode : modeOf (get8 b 29 / 16 % 4) = none ↔ get8 b 29 / 16 % 4 = 3 := by rw [modeOf_eq_none]; omega
  rw [← meansInRange_eq_false, ← noPhase, ← noMode]
  unfold getReport
  dsimp only
  cases phaseOf (get8 b 29 / 64) with
  | none => simp
  | some ref =>
    cases modeOf (get8 b 29 / 16 % 4) with
    | none => simp
    | some mode => cases meansInRange (getMeans b 12) <;> simp

theorem getAlert_eq_none (b : List Byte) : getAlert b = none ↔ MeansOutOfRange b 14 := by
  rw [← meansInRange_eq_false]
  unfold getAlert
  simp

theorem getClaim_eq_none (b : List Byte) : getClaim b = none ↔
    get8 b 16 = 0 ∨ 2 < get8 b 16 ∨ get8 b 18 = 0 ∨ 2 < get8 b 18 ∨ get16 b 14 ≤ get16 b 12 ∨
      (get8 b 16 = 2 ∧ get8 b 17 % 8 ≠ 0) := by
  rw [← getMask_some, ← kindOf_eq_ground, ← or_assoc, ← kindOf_eq_none, ← or_assoc (a := get8 b 18 = 0), ← endOf_eq_none]
  unfold getClaim
  cases kindOf (get8 b 16) <;> cases endOf (get8 b 18) <;> simp [imp_iff_not_or]

theorem getTripped_eq_none (b : List Byte) : getTripped b = none ↔
    get8 b 12 = 0 ∨ 2 < get8 b 12 ∨ 1 < get8 b 13 ∨ get16 b 16 < get16 b 14 ∨ get16 b 20 ≤ get16 b 18 := by
  rw [← or_assoc, ← resultOf_eq_none, ← outputOf_eq_none]
  unfold getTripped
  cases resultOf (get8 b 12) <;> cases outputOf (get8 b 13) <;> simp [imp_iff_not_or]

theorem headerInRange_iff {h : Header} : headerInRange h = true ↔
    1 ≤ h.sender ∧ h.sender ≤ 65534 ∧ h.position ≤ 4095 ∧ 4 ≤ h.n ∧ h.n ≤ 16 ∧ h.stamp < 32 * h.n := by
  simp only [headerInRange, Bool.and_eq_true, decide_eq_true_eq, and_assoc]

theorem headerInRange_eq_false (b : List Byte) : headerInRange (getHeader b) = false ↔
    get16 b 2 = 0 ∨ get16 b 2 = 65535 ∨ 4095 < get16 b 4 ∨ get8 b 10 < 4 ∨ 16 < get8 b 10 ∨ 32 * get8 b 10 ≤ get16 b 8 := by
  have sender := get16_lt b 2
  rw [← Bool.not_eq_true, headerInRange_iff]
  dsimp only [getHeader]
  omega

/-- Check 4 fails exactly on a malformed frame of the kind (R64). -/
theorem malformed_iff {b : List Byte} (h1 : 1 ≤ get8 b 0) (h5 : get8 b 0 ≤ 5) : Malformed b ↔
    headerInRange (getHeader b) = false ∨ getPayload (get8 b 0) b = none := by
  rw [headerInRange_eq_false]
  unfold Malformed
  refine or_congr_right ?_
  obtain h | h | h | h | h : get8 b 0 = 1 ∨ get8 b 0 = 2 ∨ get8 b 0 = 3 ∨ get8 b 0 = 4 ∨ get8 b 0 = 5 := by omega
  · rw [h]
    simpa [getPayload] using (getReport_eq_none b).symm
  · rw [h]
    simpa [getPayload] using (getAlert_eq_none b).symm
  · rw [h]
    simpa [getPayload] using (getClaim_eq_none b).symm
  · rw [h]
    simpa [getPayload] using (getClaim_eq_none b).symm
  · rw [h]
    simpa [getPayload] using (getTripped_eq_none b).symm

/-- A payload read is of the kind asked for. -/
theorem getPayload_kind {k : Nat} {b : List Byte} {p : Payload} (h : getPayload k b = some p) : p.kind = k := by
  unfold getPayload at h
  split at h
  · unfold getReport at h
    split at h
    · dsimp only at h
      split at h
      · cases h; rfl
      · cases h
    · cases h
  · unfold getAlert at h
    dsimp only at h
    split at h
    · cases h; rfl
    · cases h
  · obtain ⟨c, -, rfl⟩ := Option.map_eq_some_iff.mp h; rfl
  · obtain ⟨c, -, rfl⟩ := Option.map_eq_some_iff.mp h; rfl
  · unfold getTripped at h
    split at h
    · dsimp only at h
      split at h
      · cases h; rfl
      · cases h
    · cases h
  · cases h

/-! ## The receive filter, check by check (R64) -/

theorem crcMatches_of_short {b : List Byte} (h : b.length < 14) : crcMatches b = false := by
  unfold crcMatches
  rw [decide_eq_false (by omega)]
  rfl

section
variable {image : Image} {b : List Byte}

theorem receiveFilter_crc (h : crcMatches b = false) : receiveFilter image b = .dropped .crc := by
  unfold receiveFilter
  rw [h]
  rfl

theorem receiveFilter_unknownKind (hc : crcMatches b = true) (h : get8 b 0 = 0 ∨ 5 < get8 b 0) :
    receiveFilter image b = .dropped .unknownKind := by
  unfold receiveFilter
  rw [hc, if_neg (by decide), if_pos]
  simp
  omega

variable (hc : crcMatches b = true) (h1 : 1 ≤ get8 b 0) (h5 : get8 b 0 ≤ 5)
include hc h1 h5

theorem receiveFilter_length (h : b.length ≠ frameLength (get8 b 0)) : receiveFilter image b = .dropped .length := by
  unfold receiveFilter
  rw [hc, if_neg (by decide), if_neg (by simp [h1, h5]), if_pos h]

variable (hl : b.length = frameLength (get8 b 0))
include hl

theorem receiveFilter_malformed (h : headerInRange (getHeader b) = false ∨ getPayload (get8 b 0) b = none) :
    receiveFilter image b = .dropped .malformed := by
  unfold receiveFilter
  rw [hc, if_neg (by decide), if_neg (by simp [h1, h5]), if_neg (by simp [hl])]
  cases hp : getPayload (get8 b 0) b with
  | none => rfl
  | some p =>
    rcases h with h | h
    · dsimp only
      rw [h]
      rfl
    · exact absurd (hp.symm.trans h) (by simp)

/-- A frame that passes check 4 is judged by its segment and its sender. -/
theorem receiveFilter_passed {p : Payload} (hh : headerInRange (getHeader b) = true) (hp : getPayload (get8 b 0) b = some p) :
    receiveFilter image b =
      if (getHeader b).segment ≠ image.segment then .dropped .foreignSegment
      else if (getHeader b).sender = image.stationId then .dropped .ownId
      else .valid ⟨getHeader b, p⟩ := by
  unfold receiveFilter
  rw [hc, if_neg (by decide), if_neg (by simp [h1, h5]), if_neg (by simp [hl]), hp]
  dsimp only
  rw [hh]
  rfl

end

/-- The length of a frame of a kind, as the layout table gives it. -/
theorem frameLength_eq {k : Nat} (h1 : 1 ≤ k) (h5 : k ≤ 5) : frameLength k = [32, 30, 22, 22, 24].getD (k - 1) 0 := by
  obtain rfl | rfl | rfl | rfl | rfl : k = 1 ∨ k = 2 ∨ k = 3 ∨ k = 4 ∨ k = 5 := by omega
  all_goals rfl

/-! ## A dropped frame (R64) -/

theorem deliver_dropped {frame : List Byte} {cause : DropCause} {s : State} (h : receiveFilter s.port.image frame = .dropped cause)
    (kind : Nat) (act : Header → Payload → Stamp → State → State) :
    deliver kind act frame s = countDrop cause (endReception s) := by
  unfold deliver
  rw [h]

/-- The drop counted, and what the freed link then does of itself. -/
theorem settle_countDrop {s : State} (hw : s.working = true) (cause : DropCause) :
    let t := settle (countDrop cause (endReception s))
    t = { s with link := t.link } ∧ t.link.receiving = false ∧ t.link.latch = none ∧ t.link.drops = s.link.drops.count cause ∧
      LinkSettled { s.link with receiving := false, latch := none, receptionTimer := 0, drops := s.link.drops.count cause } t := by
  have settled := settle_linkSettled (s := countDrop cause (endReception s)) (State.working_run hw)
  obtain ⟨-, drops, -, -⟩ := settled.counters
  obtain ⟨receiving, latch⟩ : (settle (countDrop cause (endReception s))).link.receiving = false ∧
      (settle (countDrop cause (endReception s))).link.latch = none := by
    rcases settled.moved with same | ⟨-, receiving, latch⟩
    · rw [same]
      exact ⟨rfl, rfl⟩
    · exact ⟨receiving, latch⟩
  exact ⟨by rw [settle_eq]; rfl, receiving, latch, drops, settled⟩

/-- Settles O45: the filter check by check, and the drop whichever row delivers the frame. -/
theorem droppedFramesAreCountedOnce : Obligations.DroppedFramesAreCountedOnce := by
  refine ⟨fun image b => ⟨fun h => receiveFilter_crc (crcMatches_of_short h), fun h14 h => receiveFilter_crc ?_,
    fun hc h => receiveFilter_unknownKind hc h, fun hc h1 h5 h => receiveFilter_length hc h1 h5 ?_, fun hc h1 h5 h => ?_⟩,
    fun frame cause c s hw hf hrow => ?_⟩
  · unfold crcMatches
    rw [decide_eq_false h, Bool.and_false]
  · rwa [frameLength_eq h1 h5]
  · rw [← frameLength_eq h1 h5] at h
    rw [malformed_iff h1 h5]
    refine ⟨receiveFilter_malformed hc h1 h5 h, fun passes => ?_⟩
    obtain ⟨hh, hp⟩ := not_or.mp passes
    obtain ⟨p, hp⟩ := Option.ne_none_iff_exists'.mp hp
    rw [receiveFilter_passed hc h1 h5 h (Bool.not_eq_false _ ▸ hh) hp]
    exact ⟨fun hseg => if_pos hseg, fun hseg hid => (if_neg (not_not.mpr hseg)).trans (if_pos hid),
      fun hseg hid => ⟨p, (if_neg (not_not.mpr hseg)).trans (if_neg hid), getPayload_kind hp⟩⟩
  · have done : exec c s = .next (settle (countDrop cause (endReception s))) := by
      have delivered : ∀ kind act, (Host.Outcome.next (whileWorking (deliver kind act frame) s) : Outcome) =
          .next (settle (countDrop cause (endReception s))) := fun kind act => by
        rw [next_whileWorking hw, deliver_dropped hf]
      rcases hrow with rfl | rfl | rfl | rfl | rfl | rfl <;> exact delivered _ _
    obtain ⟨frame, receiving, latch, drops, settled⟩ := settle_countDrop hw cause
    refine ⟨_, done, frame, receiving, latch, ?_⟩
    cases cause <;> exact ⟨drops, settled⟩

/-! ## Frames read back (R60 to R63) -/

/-- A byte read where one was put. -/
theorem get8_of_put {b : List Byte} {k n : Nat} (hb : b.getD k 0 = BitVec.ofNat 8 n) (hn : n < 256) : get8 b k = n := by
  unfold get8
  rw [hb, BitVec.toNat_ofNat, Nat.mod_eq_of_lt hn]

/-- Two bytes read where two were put, high byte first. -/
theorem get16_of_put {b : List Byte} {k n : Nat} (hi : b.getD k 0 = BitVec.ofNat 8 (n / 256))
    (lo : b.getD (k + 1) 0 = BitVec.ofNat 8 n) (hn : n < 65536) : get16 b k = n := by
  unfold get16 get8
  rw [hi, lo, BitVec.toNat_ofNat, BitVec.toNat_ofNat]
  omega

/-- Three flags read where three were put. -/
theorem getMask_of_put {b : List Byte} {k : Nat} {x y z : Bool} (hb : b.getD k 0 = BitVec.ofNat 8 (bits3 x y z)) :
    getMask b k = ⟨x, y, z⟩ := by
  unfold getMask
  rw [hb]
  cases x <;> cases y <;> cases z <;> rfl

/-- A body with its CRC behind it matches (R63). -/
theorem crcMatches_append {body : List Byte} (h : 12 ≤ body.length) : crcMatches (body ++ put16 (crc16 body).toNat) = true := by
  have length : (body ++ put16 (crc16 body).toNat).length = body.length + 2 := List.length_append
  have crc : get16 (body ++ put16 (crc16 body).toNat) body.length = (crc16 body).toNat := by
    refine get16_of_put ?_ ?_ (crc16 body).isLt
    · rw [List.getD_append_right _ _ _ _ (Nat.le_refl _), Nat.sub_self]
      rfl
    · rw [List.getD_append_right _ _ _ _ (Nat.le_add_right _ 1), Nat.add_sub_cancel_left]
      rfl
  unfold crcMatches
  rw [length, Nat.add_sub_cancel, List.take_left, crc, decide_eq_true rfl, decide_eq_true (by omega)]
  rfl

theorem Payload.kind_bounds (p : Payload) : 1 ≤ p.kind ∧ p.kind ≤ 5 := by
  cases p <;> simp [Payload.kind]

section
variable {f : Frame}

theorem putFrame_kind (f : Frame) : get8 (putFrame f) 0 = f.payload.kind :=
  get8_of_put rfl (by have known := f.payload.kind_bounds; omega)

theorem putFrame_length (f : Frame) : (putFrame f).length = frameLength f.payload.kind := by
  obtain ⟨header, payload⟩ := f
  cases payload <;> rfl

theorem putFrame_crc (f : Frame) : crcMatches (putFrame f) = true := by
  refine crcMatches_append ?_
  rw [List.length_append]
  exact Nat.le_add_right 12 _

/-- The payload's bytes stand behind the 12 of the header (R61). -/
theorem putFrame_payload {j : Nat} (hj : j < (putPayload f.payload).length) :
    (putFrame f).getD (12 + j) 0 = (putPayload f.payload).getD j 0 := by
  have header : (putHeader f.payload.kind f.header).length = 12 := rfl
  unfold putFrame
  rw [List.getD_append _ _ _ _ (by rw [List.length_append]; omega), List.getD_append_right _ _ _ _ (by omega), header,
    Nat.add_sub_cancel_left]

/-- The header reads back as it was put. -/
theorem getHeader_putFrame (h : headerPlaced f.header) : getHeader (putFrame f) = f.header := by
  obtain ⟨segment, -, sender, position, -, n, stamp⟩ := h
  have epoch : get16 (putFrame f) 6 = f.header.epoch.toNat := get16_of_put rfl rfl f.header.epoch.isLt
  unfold getHeader
  rw [get8_of_put (k := 1) (n := f.header.segment) rfl (by omega), get16_of_put (k := 2) (n := f.header.sender) rfl rfl (by omega),
    get16_of_put (k := 4) (n := f.header.position) rfl rfl (by omega), epoch,
    get16_of_put (k := 8) (n := f.header.stamp) rfl rfl (by omega), get8_of_put (k := 10) (n := f.header.n) rfl (by omega),
    BitVec.ofNat_toNat, BitVec.setWidth_eq]
  rfl

theorem headerInRange_of_placed {h : Header} (hp : headerPlaced h) : headerInRange h = true := by
  obtain ⟨-, placed⟩ := hp
  exact headerInRange_iff.mpr placed

end

/-- Seven magnitudes read where they were put: a list that holds their bytes from an offset on. -/
theorem getMeans_of_put {b : List Byte} {k : Nat} {m : Means} (h : meansPlaced m)
    (hb : ∀ j < 14, b.getD (k + j) 0 = (putMeans m).getD j 0) : getMeans b k = m := by
  obtain ⟨i1, i2, i3, v1, v2, v3, r⟩ := h
  unfold getMeans
  rw [get16_of_put (k := k) (n := m.i.p1) (hb 0 (by decide)) (hb 1 (by decide)) (by omega),
    get16_of_put (k := k + 2) (n := m.i.p2) (hb 2 (by decide)) (hb 3 (by decide)) (by omega),
    get16_of_put (k := k + 4) (n := m.i.p3) (hb 4 (by decide)) (hb 5 (by decide)) (by omega),
    get16_of_put (k := k + 6) (n := m.v.p1) (hb 6 (by decide)) (hb 7 (by decide)) (by omega),
    get16_of_put (k := k + 8) (n := m.v.p2) (hb 8 (by decide)) (hb 9 (by decide)) (by omega),
    get16_of_put (k := k + 10) (n := m.v.p3) (hb 10 (by decide)) (hb 11 (by decide)) (by omega),
    get16_of_put (k := k + 12) (n := m.r) (hb 12 (by decide)) (hb 13 (by decide)) (by omega)]

theorem getReport_putFrame (h : Header) {p : ReportPayload} (hp : payloadPlaced (.report p)) :
    getReport (putFrame ⟨h, .report p⟩) = some (.report p) := by
  obtain ⟨means, irregularity, cycles⟩ := hp
  have byte : (putFrame ⟨h, .report p⟩).getD 29 0 =
      BitVec.ofNat 8 (64 * p.ref.number + 16 * modeCode p.mode + 8 * p.slewed.toNat) := rfl
  have values : getMeans (putFrame ⟨h, .report p⟩) 12 = p.means :=
    getMeans_of_put means fun j hj => by
      have within : j < 18 := by omega
      rw [putFrame_payload within]
      dsimp only [putPayload]
      rw [List.append_assoc, List.append_assoc, List.getD_append _ _ _ _ hj]
  have steps : get16 (putFrame ⟨h, .report p⟩) 26 = p.irregularity := get16_of_put rfl rfl (by omega)
  have valid : get8 (putFrame ⟨h, .report p⟩) 28 = p.validCycles := get8_of_put rfl (by omega)
  have ref : phaseOf (get8 (putFrame ⟨h, .report p⟩) 29 / 64) = some p.ref := by
    unfold get8
    rw [byte]
    cases p.ref <;> cases p.mode <;> cases p.slewed <;> rfl
  have mode : modeOf (get8 (putFrame ⟨h, .report p⟩) 29 / 16 % 4) = some p.mode := by
    unfold get8
    rw [byte]
    cases p.ref <;> cases p.mode <;> cases p.slewed <;> rfl
  have slewed : ((putFrame ⟨h, .report p⟩).getD 29 0).getLsbD 3 = p.slewed := by
    rw [byte]
    cases p.ref <;> cases p.mode <;> cases p.slewed <;> rfl
  unfold getReport
  rw [ref, mode]
  dsimp only
  rw [values, steps, valid, slewed, if_pos (by simp [meansInRange_iff.mpr means, cycles])]

theorem getAlert_putFrame (h : Header) {c : AlertContent} (hc : payloadPlaced (.alert c)) :
    getAlert (putFrame ⟨h, .alert c⟩) = some (.alert c) := by
  have values : getMeans (putFrame ⟨h, .alert c⟩) 14 = c.values :=
    getMeans_of_put hc fun j hj => by
      have within : 2 + j < 16 := by omega
      rw [Nat.add_assoc 12 2 j, putFrame_payload within]
      exact (List.getD_append_right _ _ _ _ (Nat.le_add_right 2 j)).trans
        (congrArg (fun i => (putMeans c.values).getD i 0) (Nat.add_sub_cancel_left 2 j))
  have cause : getMask (putFrame ⟨h, .alert c⟩) 13 = ⟨c.cause.a, c.cause.b, c.cause.c⟩ := getMask_of_put rfl
  have sequence : (putFrame ⟨h, .alert c⟩).getD 12 0 = c.sequence :=
    show BitVec.ofNat 8 c.sequence.toNat = c.sequence by rw [BitVec.ofNat_toNat, BitVec.setWidth_eq]
  unfold getAlert
  rw [values, cause, sequence]
  exact if_pos (meansInRange_iff.mpr hc)

/-- A claim's content and its REFRESH flag read where they were put. -/
theorem getClaim_of_put {b : List Byte} {c : ClaimContent} {refresh : Bool} (hc : claimPlaced c)
    (hb : ∀ j < 8, b.getD (12 + j) 0 = (putClaim c refresh).getD j 0) :
    getClaim b = some c ∧ getRefresh b = refresh := by
  obtain ⟨order, low, ground⟩ := hc
  have up : get16 b 12 = c.span.up := get16_of_put (hb 0 (by decide)) (hb 1 (by decide)) (by omega)
  have down : get16 b 14 = c.span.down := get16_of_put (hb 2 (by decide)) (hb 3 (by decide)) (by omega)
  have kind : get8 b 16 = kindCode c.kind := get8_of_put (hb 4 (by decide)) (by cases c.kind <;> decide)
  have mask : getMask b 17 = c.mask := getMask_of_put (hb 5 (by decide))
  have fin : get8 b 18 = endCode c.fin := get8_of_put (hb 6 (by decide)) (by cases c.fin <;> decide)
  have readEnd : endOf (endCode c.fin) = some c.fin := by cases c.fin <;> rfl
  constructor
  · unfold getClaim
    rw [kind, fin, kindOf_kindCode, readEnd]
    dsimp only
    rw [up, down, mask, if_pos]
    rw [decide_eq_true order]
    cases hk : c.kind with
    | openConductor => rfl
    | ground => rw [ground hk]; rfl
  · unfold getRefresh
    rw [hb 7 (by decide), show (putClaim c refresh).getD 7 0 = BitVec.ofNat 8 refresh.toNat from rfl]
    cases refresh <;> rfl

theorem getTripped_putFrame (h : Header) {c : TrippedContent} (hc : payloadPlaced (.tripped c)) :
    getTripped (putFrame ⟨h, .tripped c⟩) = some (.tripped c) := by
  obtain ⟨zone, zoneHigh, order, low⟩ := hc
  have result : resultOf (get8 (putFrame ⟨h, .tripped c⟩) 12) = some c.result := by
    rw [get8_of_put (n := resultCode c.result) rfl (by cases c.result <;> decide)]
    cases c.result <;> rfl
  have output : outputOf (get8 (putFrame ⟨h, .tripped c⟩) 13) = some c.output := by
    rw [get8_of_put (n := outputCode c.output) rfl (by cases c.output <;> decide)]
    cases c.output <;> rfl
  have lo : get16 (putFrame ⟨h, .tripped c⟩) 14 = c.zone.lo := get16_of_put rfl rfl (by omega)
  have hi : get16 (putFrame ⟨h, .tripped c⟩) 16 = c.zone.hi := get16_of_put rfl rfl (by omega)
  have up : get16 (putFrame ⟨h, .tripped c⟩) 18 = c.span.up := get16_of_put rfl rfl (by omega)
  have down : get16 (putFrame ⟨h, .tripped c⟩) 20 = c.span.down := get16_of_put rfl rfl (by omega)
  unfold getTripped
  rw [result, output]
  dsimp only
  rw [lo, hi, up, down]
  exact if_pos (by simp [zone, order])

/-- The payload of each kind reads back as it was put. -/
theorem getPayload_putFrame {f : Frame} (hp : payloadPlaced f.payload) : getPayload f.payload.kind (putFrame f) = some f.payload := by
  obtain ⟨h, p⟩ := f
  cases p with
  | report p => exact getReport_putFrame h hp
  | alert c => exact getAlert_putFrame h hp
  | claim c refresh =>
    obtain ⟨content, flag⟩ := getClaim_of_put (b := putFrame ⟨h, .claim c refresh⟩) (refresh := refresh) hp
      fun _ hj => putFrame_payload hj
    change (getClaim _).map (fun x => Payload.claim x (getRefresh _)) = _
    rw [content, flag]
    rfl
  | release c refresh =>
    obtain ⟨content, flag⟩ := getClaim_of_put (b := putFrame ⟨h, .release c refresh⟩) (refresh := refresh) hp
      fun _ hj => putFrame_payload hj
    change (getClaim _).map (fun x => Payload.release x (getRefresh _)) = _
    rw [content, flag]
    rfl
  | tripped c => exact getTripped_putFrame h hp

/-- Settles O46: CRC, kind and length as put, header and payload read back, and then the two last checks. -/
theorem framesReadBackAsTheyWerePut : Obligations.FramesReadBackAsTheyWerePut := by
  intro image f hh hp
  have kind := putFrame_kind f
  have known := f.payload.kind_bounds
  have header := getHeader_putFrame hh
  have passed := receiveFilter_passed (image := image) (b := putFrame f) (p := f.payload) (putFrame_crc f) (by rw [kind]; exact known.1)
    (by rw [kind]; exact known.2) (by rw [kind]; exact putFrame_length f) (by rw [header]; exact headerInRange_of_placed hh)
    (by rw [kind]; exact getPayload_putFrame hp)
  rw [header] at passed
  rw [passed]
  exact ⟨fun hs => if_pos hs, fun hs hi => (if_neg (not_not.mpr hs)).trans (if_pos hi),
    fun hs hi => (if_neg (not_not.mpr hs)).trans (if_neg hi)⟩

end Sys2Proof.Machine

/-! Completions (R56, R72, R141, R173): what becomes of the frame in flight, of its series and of the fault unit's counts; the statement
O41. -/

namespace Sys2Proof.Machine

/-! ## The fault unit at a completion (R173, R176) -/

theorem judgeImpaired_fault (s : State) : (judgeImpaired s).fault =
    { s.fault with impaired := s.fault.jammed || s.fault.xcvrFault || s.fault.silent } := by
  dsimp only [judgeImpaired]
  split
  · next h => rw [h]
  · exact (keeps_evaluateTrips _).fault

/-- A change of IMPAIRED brings nothing but an evaluation (R176). -/
theorem judgeImpaired_within (s : State) : Within (s.setFault (judgeImpaired s).fault) (judgeImpaired s) := by
  rw [judgeImpaired_fault]
  dsimp only [judgeImpaired]
  split
  · next h =>
    rw [h]
    exact .refl s
  · exact keeps_evaluateTrips _

theorem judgeImpaired_of_noTripTable {s : State} (h : NoTripTable s) :
    judgeImpaired s = s.setFault (judgeImpaired s).fault := by
  rw [judgeImpaired_fault]
  dsimp only [judgeImpaired]
  split
  · next same =>
    rw [same]
    rfl
  · exact evaluateTrips_of_noTripTable h

/-- No evaluation can act after an operation that keeps run state and image, where none could before (R159). -/
theorem NoTripTable.within {s t : State} (h : NoTripTable s) (k : Within s t) : NoTripTable t := by
  unfold NoTripTable
  rw [k.run, k.coreKept.image]
  exact h

section
variable (s : State)

/-- The state whose IMPAIRED is judged when a TX_DONE clears XCVR_FAULT. -/
def faultCleared : State := record ((s.setFault { s.fault with timeouts := 0 }).setFault
  { s.fault with timeouts := 0, xcvrFault := false }) .linkRestored .absent none (.named .xcvrFault)

theorem clearTimeouts_of_fault (h : s.fault.xcvrFault = true) : clearTimeouts s = judgeImpaired (faultCleared s) := if_pos h

theorem clearTimeouts_of_no_fault (h : s.fault.xcvrFault = false) : clearTimeouts s = s.setFault { s.fault with timeouts := 0 } :=
  if_neg (by simp [h])

/-- The fault unit that a TX_DONE leaves. -/
theorem clearTimeouts_fault : (clearTimeouts s).fault = { s.fault with
    timeouts := 0, xcvrFault := false
    impaired := if s.fault.xcvrFault = true then s.fault.jammed || s.fault.silent else s.fault.impaired } := by
  cases h : s.fault.xcvrFault with
  | false =>
    rw [clearTimeouts_of_no_fault s h]
    simp [← h]
  | true =>
    rw [clearTimeouts_of_fault s h, judgeImpaired_fault]
    simp [faultCleared, record]

theorem clearTimeouts_within : Within (s.setFault (clearTimeouts s).fault) (clearTimeouts s) := by
  cases h : s.fault.xcvrFault with
  | false =>
    rw [clearTimeouts_of_no_fault s h]
    exact .refl _
  | true =>
    rw [clearTimeouts_of_fault s h]
    exact (keeps_record _ _ _ _ (s.setFault (judgeImpaired (faultCleared s)).fault)).trans (judgeImpaired_within (faultCleared s))

theorem clearTimeouts_of_noTripTable (h : NoTripTable s ∨ s.fault.xcvrFault = false) : clearTimeouts s = { s with
    fault := (clearTimeouts s).fault
    port := if s.fault.xcvrFault = true then (record s .linkRestored .absent none (.named .xcvrFault)).port else s.port } := by
  cases hx : s.fault.xcvrFault with
  | false =>
    rw [clearTimeouts_of_no_fault s hx]
    rfl
  | true =>
    have none : NoTripTable s := h.resolve_right (by simp [hx])
    have evaluated : judgeImpaired (faultCleared s) = (faultCleared s).setFault (judgeImpaired (faultCleared s)).fault :=
      judgeImpaired_of_noTripTable none
    rw [clearTimeouts_of_fault s hx, evaluated]
    rfl

/-- The completion by the timer that sets XCVR_FAULT (R173). -/
def thirdTimeout : Bool := decide (2 ≤ s.fault.timeouts ∧ s.fault.xcvrFault = false)

/-- The state whose IMPAIRED is judged at the third completion by the timer. -/
def faultSet : State := record ((s.setFault { s.fault with timeouts := raise 3 s.fault.timeouts }).setFault
  { s.fault with timeouts := raise 3 s.fault.timeouts, xcvrFault := true }) .linkImpaired .absent none (.named .xcvrFault)

theorem countTimeout_eq : countTimeout s = if thirdTimeout s = true then judgeImpaired (faultSet s)
    else s.setFault { s.fault with timeouts := raise 3 s.fault.timeouts } := by
  have third : (decide (raise 3 s.fault.timeouts = 3) && !s.fault.xcvrFault) = thirdTimeout s := by
    unfold thirdTimeout raise
    rw [Bool.eq_iff_iff]
    simp only [Bool.and_eq_true, decide_eq_true_eq, Bool.not_eq_true']
    refine and_congr_left fun _ => ?_
    split <;> omega
  rw [← third]
  rfl

/-- The fault unit that a completion by the timer leaves. -/
theorem countTimeout_fault : (countTimeout s).fault = { s.fault with
    timeouts := min 3 (s.fault.timeouts + 1), xcvrFault := s.fault.xcvrFault || thirdTimeout s
    impaired := s.fault.impaired || thirdTimeout s } := by
  rw [countTimeout_eq, ← raise_eq]
  cases thirdTimeout s with
  | false => simp
  | true =>
    rw [if_pos rfl, judgeImpaired_fault]
    simp [faultSet, record]

theorem countTimeout_within : Within (s.setFault (countTimeout s).fault) (countTimeout s) := by
  rw [countTimeout_eq]
  split
  · exact (keeps_record _ _ _ _ (s.setFault (judgeImpaired (faultSet s)).fault)).trans (judgeImpaired_within (faultSet s))
  · exact .refl _

theorem countTimeout_of_noTripTable (h : NoTripTable s ∨ thirdTimeout s = false) : countTimeout s = { s with
    fault := (countTimeout s).fault
    port := if thirdTimeout s = true then (record s .linkImpaired .absent none (.named .xcvrFault)).port else s.port } := by
  rw [countTimeout_eq]
  cases hx : thirdTimeout s with
  | false => rfl
  | true =>
    have none : NoTripTable s := h.resolve_right (by simp [hx])
    have evaluated : judgeImpaired (faultSet s) = (faultSet s).setFault (judgeImpaired (faultSet s)).fault :=
      judgeImpaired_of_noTripTable none
    rw [if_pos rfl, evaluated]
    rfl

end

/-! ## The frame in flight (R56) -/

theorem completeFrame_within (s : State) : Within (readyAgain s) (completeFrame s) := by
  unfold completeFrame
  split
  · exact keeps_completeSeries _ _
  · exact .refl _

/-- The handshake after a completion: READY with none in flight, unless the choice that begins again hands over at once. -/
theorem settle_frameCompleted {s v : State} (hr : s.run ≠ .config) (run : v.run = s.run)
    (link : v.link = { s.link with sending := false, inFlight := none, completionTimer := 0, queue := v.link.queue }) :
    FrameCompleted s (settle v) := by
  have hv : v.run ≠ .config := by rw [run]; exact hr
  by_cases hs : (settle v).link.sending = v.link.sending
  · have ready : (settle v).link.sending = false := by rw [hs, link]
    have same := (settle_linkSettled hv).unsent hs
    refine ⟨by rw [same, link], fun _ => by rw [same, link], fun h => absurd (ready.symm.trans h) (by decide)⟩
  · obtain ⟨inRun, -, -, -, e, -, -, -, -, -, handed⟩ := settle_handed hv hs
    refine ⟨by rw [handed], fun h => absurd (show (settle v).link.sending = true by rw [handed]) (by simp [h]), fun _ => ⟨?_, ?_⟩⟩
    · rw [← run, inRun]
    · rw [handed, link]

/-! ## The series of the frame (R72) -/

section
variable {s : State} {x : QueueSubject} {e : QueueEntry}

theorem completeSeries_of_none (h : queueFind s.link.queue x = none) : completeSeries x s = s := by
  unfold completeSeries
  rw [h]

theorem completeSeries_of_noFrame (h : queueFind s.link.queue x = some e) (hm : e.mark = .noFrame) : completeSeries x s = s := by
  unfold completeSeries
  rw [h]
  exact if_pos hm

theorem completeSeries_advances (h : queueFind s.link.queue x = some e) (hm : e.mark ≠ .noFrame)
    (hr : (advanceSeries e).remaining ≠ 0) : completeSeries x s = s.setQueue (queueModify x advanceSeries s.link.queue) := by
  unfold completeSeries
  rw [h]
  exact (if_neg hm).trans (if_neg hr)

theorem completeSeries_closes (h : queueFind s.link.queue x = some e) (hm : e.mark ≠ .noFrame)
    (hr : (advanceSeries e).remaining = 0) : completeSeries x s = tellOwner x (s.setQueue (queueRemove x s.link.queue)) := by
  unfold completeSeries
  rw [h]
  exact (if_neg hm).trans (if_pos hr)

end

theorem advanceSeries_of_current {e : QueueEntry} (h : e.mark = .current) :
    advanceSeries e = { e with remaining := e.remaining - 1, due := false, mark := .noFrame } := by
  unfold advanceSeries
  rw [h]

theorem advanceSeries_of_superseded {e : QueueEntry} (h : e.mark = .superseded) : advanceSeries e = { e with mark := .noFrame } := by
  unfold advanceSeries
  rw [h]

theorem advanceSeries_of_noFrame {e : QueueEntry} (h : e.mark = .noFrame) : advanceSeries e = e := by
  unfold advanceSeries
  rw [h]

theorem completeFrame_of_inFlight {s : State} {f : InFlight} (h : s.link.inFlight = some f) :
    completeFrame s = completeSeries f.subject (readyAgain s) := by
  unfold completeFrame
  rw [h]

/-! ## The owner of a closed series told (R72, R141) -/

theorem recordPairs_queue (ps : List ClaimPair) (s : State) : (recordPairs ps s).link.queue = s.link.queue := by
  induction ps generalizing s with
  | nil => rfl
  | cons p ps ih => exact ih _

theorem releaseHolds_queue (rs : List ClaimRecord) (s : State) : (releaseHolds rs s).link.queue.Sublist s.link.queue := by
  induction rs generalizing s with
  | nil => exact .refl _
  | cons r rs ih =>
    refine (ih _).trans ?_
    unfold releaseHold
    split
    · dsimp only
      split <;> exact List.filter_sublist
    · exact .refl _

/-- A removal of records only takes entries from the queue (R133, R143). -/
theorem removeRecords_queue (p : ClaimRecord → Bool) (s : State) : (removeRecords p s).link.queue.Sublist s.link.queue := by
  unfold removeRecords
  split
  · dsimp only [rejudgePairs]
    rw [recordPairs_queue]
    exact releaseHolds_queue _ s
  · exact .refl _

/-- The records that a removal leaves are those that do not meet its test, but for their corroborated marks. -/
theorem removeRecords_mem {p : ClaimRecord → Bool} {s : State} {r : ClaimRecord} (h : r ∈ (removeRecords p s).register.records) :
    ∃ o ∈ s.register.records, p o = false ∧ r.key = o.key ∧ r.own = o.own ∧ r.status = o.status := by
  unfold removeRecords at h
  split at h
  · rw [rejudgePairs_register] at h
    obtain ⟨o, ho, rfl⟩ := List.mem_map.mp h
    obtain ⟨mem, fails⟩ := List.mem_filter.mp ho
    exact ⟨o, mem, by simpa using fails, rfl, rfl, rfl⟩
  · next none => exact ⟨r, h, by simpa using fun hp => none (List.any_eq_true.mpr ⟨r, h, hp⟩), rfl, rfl, rfl⟩

theorem testCloseOnChange_queue (s : State) : (testCloseOnChange s).link.queue.Sublist s.link.queue := by
  unfold testCloseOnChange
  split
  · exact removeRecords_queue _ _
  · exact .refl _

theorem testCloseOnChange_mem {s : State} {r : ClaimRecord} (h : r ∈ (testCloseOnChange s).register.records) :
    ∃ o ∈ s.register.records, r.key = o.key ∧ r.own = o.own ∧ r.status = o.status := by
  unfold testCloseOnChange at h
  split at h
  · obtain ⟨o, ho, -, same⟩ := removeRecords_mem h
    exact ⟨o, ho, same⟩
  · exact ⟨r, h, rfl, rfl, rfl⟩

theorem releaseClosed_queue (kind : ClaimKind) (fin : SpanEnd) (s : State) :
    (releaseClosed kind fin s).link.queue.Sublist s.link.queue :=
  (testCloseOnChange_queue _).trans (removeRecords_queue _ _)

/-- No RELEASED own record is left under the key of a closed series (R141). -/
theorem releaseClosed_no_released {kind : ClaimKind} {fin : SpanEnd} {s : State} :
    ∀ r ∈ (releaseClosed kind fin s).register.records, ¬ (r.key = ownKey s kind fin ∧ r.own = true ∧ r.status = .released) := by
  rintro r hr ⟨key, own, released⟩
  obtain ⟨o, ho, sameKey, sameOwn, sameStatus⟩ := testCloseOnChange_mem hr
  obtain ⟨c, -, fails, keptKey, keptOwn, keptStatus⟩ := removeRecords_mem ho
  have keys : c.key = ownKey s kind fin := by rw [← keptKey, ← sameKey, key]
  have owned : c.own = true := by rw [← keptOwn, ← sameOwn, own]
  have status : c.status = .released := by rw [← keptStatus, ← sameStatus, released]
  simp [keys, owned, status] at fails

/-- The owner told where no evaluation can act: the series' entry does not come back, and with a RELEASE series its record has left
the register. -/
theorem tellOwner_of_noTripTable {s : State} (h : NoTripTable s) (x : QueueSubject) :
    (tellOwner x s).link.queue.Sublist s.link.queue ∧ ∀ kind fin, x = .claim kind fin → ∀ r ∈ (tellOwner x s).register.records,
      ¬ (r.key = ownKey s kind fin ∧ r.own = true ∧ r.status = .released) := by
  unfold tellOwner
  split
  · next kind fin =>
    rw [reporting_of_noTripTable (h.within (keeps_releaseClosed kind fin s))]
    refine ⟨releaseClosed_queue kind fin s, fun k f same => ?_⟩
    obtain ⟨rfl, rfl⟩ := QueueSubject.claim.inj same
    exact releaseClosed_no_released
  · next other => exact ⟨.refl _, fun kind fin same => absurd same (other kind fin)⟩

/-! ## The series after the re-judging -/

/-- An entry stands through the re-judging, or, due again, it is handed over at once and marked (R55, R76). -/
theorem settle_queueFind {v : State} {x : QueueSubject} {e : QueueEntry} (hr : v.run ≠ .config) (hq : QueueOk v.link.queue)
    (hf : v.link.inFlight = none) (he : queueFind v.link.queue x = some e) :
    queueFind (settle v).link.queue x = some
      (if (settle v).link.inFlight.map InFlight.subject = some x then marked e else e) ∧
    ((settle v).link.inFlight.map InFlight.subject = some x → e.due = true) := by
  rcases (settle_linkSettled hr).queue with ⟨queue, flight⟩ | ⟨d, hd, -, due, -, flight, -, queue⟩
  · rw [queue, flight, hf, he]
    exact ⟨rfl, fun h => nomatch h⟩
  · obtain ⟨mem, subject⟩ := queueFind_some he
    rw [queue, flight, queueFind_queueModify marked_subject, he]
    by_cases same : x = d.subject
    · rw [if_pos same, if_pos (by rw [same])]
      exact ⟨rfl, fun _ => hq.eq_of_subject hd mem (same.symm.trans subject.symm) ▸ due⟩
    · have other : some d.subject ≠ some x := fun h => same (Option.some.inj h).symm
      rw [if_neg same, if_neg other]
      exact ⟨rfl, fun h => absurd h other⟩

/-- The completed frame's series, in each of its three ends, where the state re-judged has the queue and the register that the
completion left. -/
theorem settle_seriesAdvanced {s v : State} (hr : s.run ≠ .config) (hq : QueueOk s.link.queue)
    (h : NoTripTable s ∨ NoSeriesCloses s) (run : v.run = s.run) (queue : v.link.queue = (completeFrame s).link.queue)
    (flight : v.link.inFlight = none) (register : v.register = (completeFrame s).register) : SeriesAdvanced s (settle v) := by
  intro f e hf he _
  have hv : v.run ≠ .config := by rw [run]; exact hr
  rw [completeFrame_of_inFlight hf] at queue register
  have advances : ∀ {e'}, advanceSeries e = e' → e.mark ≠ .noFrame → e'.remaining ≠ 0 →
      QueueOk v.link.queue ∧ queueFind v.link.queue f.subject = some e' := by
    rintro _ rfl hm hrem
    rw [queue, completeSeries_advances (s := readyAgain s) he hm hrem]
    refine ⟨hq.queueModify fun _ hx => (advanceSeries_subject _).trans hx, ?_⟩
    exact (queueFind_queueModify advanceSeries_subject _ _ _).trans (by rw [if_pos rfl]; exact congrArg (Option.map advanceSeries) he)
  refine ⟨fun hm hrem => ?_, fun hm hrem => ?_, fun hm hrem => ?_⟩
  · obtain ⟨ordered, found⟩ := advances (advanceSeries_of_current hm) (by rw [hm]; decide) (by dsimp only; omega)
    obtain ⟨finds, due⟩ := settle_queueFind hv ordered flight found
    rw [finds, if_neg fun handed => absurd (due handed) Bool.false_ne_true]
  · have none : NoTripTable s := h.resolve_right fun closes => by
      have more := (closes f e hf he).1 hm
      omega
    have closes := completeSeries_closes (s := readyAgain s) he (by rw [hm]; decide)
      (by rw [advanceSeries_of_current hm]; dsimp only; omega)
    obtain ⟨shrinks, gone⟩ := tellOwner_of_noTripTable
      (s := (readyAgain s).setQueue (queueRemove f.subject s.link.queue)) none f.subject
    refine ⟨queueFind_none.mpr fun d hd same => ?_, fun kind fin hx => ?_⟩
    · have mem : d.subject ∈ v.link.queue.map QueueEntry.subject :=
        (settle_linkSettled hv).subjects ▸ List.mem_map_of_mem (f := QueueEntry.subject) hd
      obtain ⟨c, hc, sameSubject⟩ := List.mem_map.mp mem
      rw [queue, closes] at hc
      exact queueRemove_subject c (shrinks.subset hc) (sameSubject.trans same)
    · rw [settle_eq, register, closes]
      exact gone kind fin hx
  · obtain ⟨ordered, found⟩ := advances (advanceSeries_of_superseded hm) (by rw [hm]; decide) (by dsimp only; omega)
    obtain ⟨finds, -⟩ := settle_queueFind hv ordered flight found
    rw [finds]
    split <;> rfl

/-! ## A completion that closes no series -/

theorem queueModify_of_fixed {q : List QueueEntry} {x : QueueSubject} {f : QueueEntry → QueueEntry}
    (h : ∀ e ∈ q, e.subject = x → f e = e) : queueModify x f q = q := by
  refine (List.map_congr_left fun e he => ?_).trans (List.map_id q)
  split
  · next hx => exact h e he hx
  · rfl

/-- What `linkCompleted` makes of the queue. -/
theorem linkCompleted_queue (s : State) : (linkCompleted s).queue = match s.link.inFlight with
    | some f => queueModify f.subject advanceSeries s.link.queue
    | none => s.link.queue := by
  unfold linkCompleted
  cases s.link.inFlight with
  | none => exact List.map_id _
  | some f =>
    refine List.map_congr_left fun e _ => ?_
    by_cases h : e.subject = f.subject
    · exact (if_pos (congrArg some h.symm)).trans (if_pos h).symm
    · exact (if_neg fun same => h (Option.some.inj same).symm).trans (if_neg h).symm

/-- A completion that closes no series changes the link alone. -/
theorem completeFrame_of_noSeriesCloses {s : State} (h : NoSeriesCloses s) :
    completeFrame s = { s with link := (completeFrame s).link } ∧
      (QueueOk s.link.queue → (completeFrame s).link = linkCompleted s) := by
  have ready : ∀ q, q = (linkCompleted s).queue → { (readyAgain s).link with queue := q } = linkCompleted s := by
    rintro _ rfl
    rfl
  cases hf : s.link.inFlight with
  | none =>
    have done : completeFrame s = readyAgain s := by
      unfold completeFrame
      rw [hf]
    rw [done]
    exact ⟨rfl, fun _ => ready _ (by rw [linkCompleted_queue, hf])⟩
  | some f =>
    have completed : (linkCompleted s).queue = queueModify f.subject advanceSeries s.link.queue := by rw [linkCompleted_queue, hf]
    have stands : (∀ e ∈ s.link.queue, e.subject = f.subject → advanceSeries e = e) → (readyAgain s).link = linkCompleted s :=
      fun fixed => ready _ (completed.trans (queueModify_of_fixed fixed)).symm
    rw [completeFrame_of_inFlight hf]
    cases he : queueFind s.link.queue f.subject with
    | none =>
      rw [completeSeries_of_none (s := readyAgain s) he]
      exact ⟨rfl, fun _ => stands fun e mem same => absurd same (queueFind_none.mp he e mem)⟩
    | some e =>
      obtain ⟨current, superseded⟩ := h f e hf he
      obtain ⟨mem, subject⟩ := queueFind_some he
      by_cases hm : e.mark = .noFrame
      · rw [completeSeries_of_noFrame (s := readyAgain s) he hm]
        refine ⟨rfl, fun hq => stands fun d hd same => ?_⟩
        rw [hq.eq_of_subject hd mem (same.trans subject.symm), advanceSeries_of_noFrame hm]
      · have left : (advanceSeries e).remaining ≠ 0 := by
          cases mark : e.mark with
          | noFrame => exact absurd mark hm
          | current =>
            have more := current mark
            rw [advanceSeries_of_current mark]
            dsimp only
            omega
          | superseded =>
            have more := superseded mark
            rw [advanceSeries_of_superseded mark]
            dsimp only
            omega
        rw [completeSeries_advances (s := readyAgain s) he hm left]
        exact ⟨rfl, fun _ => ready _ completed.symm⟩

/-! ## The three rows' ends -/

/-- A frame completed, `v` the state in which the fault unit has taken the completion, and the re-judging. -/
theorem settle_completed {s v : State} {f : FaultUnit} (hr : s.run ≠ .config) (kept : Within ((completeFrame s).setFault f) v) :
    FrameCompleted s (settle v) ∧ (settle v).fault = f := by
  have done := completeFrame_within s
  have run : v.run = s.run := kept.run.trans done.run
  have link : v.link = { s.link with sending := false, inFlight := none, completionTimer := 0, queue := v.link.queue } := by
    rw [kept.link, State.setFault_link, done.link]
    rfl
  exact ⟨settle_frameCompleted hr run link, by rw [settle_eq]; exact kept.fault⟩

/-- The series too, where the fault unit's part has left link and register. -/
theorem settle_completed_series {s v : State} {f : FaultUnit} {p : Port} (hr : s.run ≠ .config) (hq : QueueOk s.link.queue)
    (h : NoTripTable s ∨ NoSeriesCloses s) (left : v = { completeFrame s with fault := f, port := p }) :
    SeriesAdvanced s (settle v) := by
  have done := completeFrame_within s
  subst left
  exact settle_seriesAdvanced hr hq h done.run rfl (by rw [done.link]; rfl) rfl

/-- Where no series closes, the completion and the fault unit's part are all that happens, but for the re-judging. -/
theorem settle_completed_quiet {s v : State} {f : FaultUnit} {p : Port} (hr : s.run ≠ .config) (h : NoSeriesCloses s)
    (left : v = { completeFrame s with fault := f, port := p }) :
    settle v = { s with link := (settle v).link, fault := f, port := p } ∧
      (QueueOk s.link.queue → SeriesAdvanced s (settle v) ∧ LinkSettled (linkCompleted s) (settle v)) := by
  obtain ⟨frame, link⟩ := completeFrame_of_noSeriesCloses h
  refine ⟨?_, fun hq => ⟨settle_completed_series hr hq (.inr h) left, ?_⟩⟩
  · rw [settle_eq, left, frame]
  · have settled := settle_linkSettled (s := v) (by rw [left, frame]; exact hr)
    rwa [show v.link = linkCompleted s by rw [left]; exact link hq] at settled

/-! ## O41 -/

section
variable {s : State}

theorem completeFrame_noTripTable (h : NoTripTable s) : NoTripTable (completeFrame s) :=
  NoTripTable.within (s := readyAgain s) h (completeFrame_within s)

theorem completeFrame_fault (s : State) : (completeFrame s).fault = s.fault := (completeFrame_within s).fault

theorem thirdTimeout_completeFrame (s : State) : thirdTimeout (completeFrame s) = thirdTimeout s := by
  unfold thirdTimeout
  rw [completeFrame_fault]

theorem takeTxDone_of_sending (h : s.link.sending = true) : takeTxDone s = clearTimeouts (completeFrame s) := by
  unfold takeTxDone
  rw [if_pos h]

theorem takeTxDone_of_ready (h : s.link.sending = false) : takeTxDone s = clearTimeouts s := by
  unfold takeTxDone
  rw [if_neg (by simp [h])]

theorem completeIfDue_of_limit (hs : s.link.sending = true) (h : 64 ≤ s.link.completionTimer) :
    completeIfDue s = countTimeout (completeFrame s) := by
  unfold completeIfDue
  exact if_pos (by simp [completionDue, hs, h, Config.linkTimeout])

theorem completeIfDue_of_running (h : s.link.completionTimer < 64) : completeIfDue s = s :=
  completeIfDue_of_not_due (by
    have below : ¬ Config.linkTimeout ≤ s.link.completionTimer := by
      unfold Config.linkTimeout
      omega
    simp [completionDue, below])

/-- The port at a completion that closes no series is the one that the event alone leaves. -/
theorem record_port_completeFrame (h : NoSeriesCloses s) (b : Bool) (k : EventKind) (x : EventSubject) (p : Option Span)
    (d : Detail) :
    (if b = true then (record (completeFrame s) k x p d).port else (completeFrame s).port) =
      if b = true then (record s k x p d).port else s.port := by
  rw [(completeFrame_of_noSeriesCloses h).1]
  rfl

end

/-- Settles O41: each completion is `completeFrame`, then the fault unit's part, then the re-judging; the three are taken one after the
other, the series by its mark. -/
theorem framesComplete : Obligations.FramesComplete := by
  unfold Obligations.FramesComplete
  refine ⟨fun s hw => ⟨_, next_whileWorking hw takeTxDone, ?_⟩, fun s hw hs => ⟨fun due => ⟨_, next_whileWorking hw completeIfDue, ?_⟩,
    fun early => ⟨_, next_whileWorking hw completeIfDue, ?_⟩⟩⟩
  · have hr := State.working_run hw
    cases hs : s.link.sending with
    | false =>
      rw [takeTxDone_of_ready hs]
      have fault : (settle (clearTimeouts s)).fault = (clearTimeouts s).fault := by rw [settle_eq]
      refine ⟨by rw [fault, clearTimeouts_fault], nofun, nofun, fun _ none => ?_⟩
      have left := clearTimeouts_of_noTripTable s none
      refine ⟨?_, fun _ => ?_, nofun⟩
      · rw [← fault] at left
        exact (settle_eq _).trans (congrArg (fun v : State => { v with link := (settle (clearTimeouts s)).link }) left)
      · have settled := settle_linkSettled (s := clearTimeouts s) (by rw [left]; exact hr)
        rwa [show (clearTimeouts s).link = s.link by rw [left]] at settled
    | true =>
      rw [takeTxDone_of_sending hs]
      obtain ⟨completed, fault⟩ := settle_completed hr (clearTimeouts_within (completeFrame s))
      refine ⟨by rw [fault, clearTimeouts_fault, completeFrame_fault], fun _ => completed, fun _ hq none => ?_, fun closes none => ?_⟩
      · exact settle_completed_series hr hq (.inl none) (clearTimeouts_of_noTripTable _ (.inl (completeFrame_noTripTable none)))
      · have quiet := closes.resolve_left (by decide)
        have left := clearTimeouts_of_noTripTable (completeFrame s)
          (none.imp completeFrame_noTripTable fun h => by rw [completeFrame_fault]; exact h)
        rw [record_port_completeFrame quiet, completeFrame_fault, ← fault] at left
        obtain ⟨rest, series⟩ := settle_completed_quiet hr quiet left
        exact ⟨rest, nofun, fun _ => series⟩
  · have hr := State.working_run hw
    rw [completeIfDue_of_limit hs due]
    obtain ⟨completed, fault⟩ := settle_completed hr (countTimeout_within (completeFrame s))
    refine ⟨completed, ?_, fun hq none => ?_, fun quiet none => ?_⟩
    · rw [fault, countTimeout_fault, thirdTimeout_completeFrame, completeFrame_fault]
      rfl
    · exact settle_completed_series hr hq (.inl none) (countTimeout_of_noTripTable _ (.inl (completeFrame_noTripTable none)))
    · have left := countTimeout_of_noTripTable (completeFrame s)
        (none.imp completeFrame_noTripTable fun h => by rw [thirdTimeout_completeFrame]; exact h)
      rw [record_port_completeFrame quiet, thirdTimeout_completeFrame, ← fault] at left
      exact settle_completed_quiet hr quiet left
  · have hr := State.working_run hw
    rw [completeIfDue_of_running early]
    rw [← settle_of_sending hr hs]
    exact settle_eq s

end Sys2Proof.Machine

/-! A REPORT at the Peer Table (Chapters 6 and 10): what its slots, its timing source, the fault unit and each operation on one entry
make of the table; the layer under the statements O49, O51 and O52. -/

namespace Sys2Proof.Machine

/-! ## Slots (R96) -/

theorem findIndexFrom_eq {α : Type} (p : α → Bool) (l : List α) (i : Nat) :
    findIndexFrom p i l = (l.findIdx? p).map (· + i) := by
  induction l generalizing i with
  | nil => rfl
  | cons a l ih =>
    rw [findIndexFrom, List.findIdx?_cons]
    split
    · simp
    · rw [ih, Option.map_map]
      exact congrArg (Option.map · _) (funext fun j => by simp only [Function.comp_apply]; omega)

theorem findIndex_eq_findIdx? {α : Type} (p : α → Bool) (l : List α) : findIndex p l = l.findIdx? p :=
  (findIndexFrom_eq p l 0).trans Option.map_id'

/-- An entry in use under a station id. -/
def HeldAs (id : Nat) (e : PeerEntry) : Prop := e.state ≠ .free ∧ e.id = id

theorem used_and_id_iff {id : Nat} {e : PeerEntry} : (e.used && decide (e.id = id)) = true ↔ HeldAs id e := by
  simp [PeerEntry.used, HeldAs]

theorem slotOf_eq_none_iff {es : List PeerEntry} {id : Nat} : slotOf es id = none ↔ ∀ e ∈ es, ¬ HeldAs id e := by
  unfold slotOf
  rw [findIndex_eq_findIdx?, List.findIdx?_eq_none_iff]
  exact forall₂_congr fun e _ => by rw [← used_and_id_iff, Bool.not_eq_true]

theorem slotOf_eq_some_iff {es : List PeerEntry} {id k : Nat} : slotOf es id = some k ↔
    (∃ e, es[k]? = some e ∧ HeldAs id e) ∧ ∀ j e, j < k → es[j]? = some e → ¬ HeldAs id e := by
  unfold slotOf
  rw [findIndex_eq_findIdx?, List.findIdx?_eq_some_iff_getElem]
  constructor
  · rintro ⟨hk, found, before⟩
    refine ⟨⟨_, List.getElem?_eq_getElem hk, used_and_id_iff.mp found⟩, fun j e hj he held => before j hj ?_⟩
    obtain ⟨hl, rfl⟩ := List.getElem?_eq_some_iff.mp he
    exact used_and_id_iff.mpr held
  · rintro ⟨⟨e, he, held⟩, before⟩
    obtain ⟨hk, rfl⟩ := List.getElem?_eq_some_iff.mp he
    exact ⟨hk, used_and_id_iff.mpr held,
      fun j hj found => before j _ hj (List.getElem?_eq_getElem (hj.trans hk)) (used_and_id_iff.mp found)⟩

/-- An entry held under an id in a slot is that id's, where no other slot before it is. -/
theorem slotOf_set {es : List PeerEntry} {id k : Nat} {x : PeerEntry} (hk : k < es.length) (hx : HeldAs id x)
    (h : slotOf es id = none ∨ slotOf es id = some k) : slotOf (es.set k x) id = some k := by
  refine slotOf_eq_some_iff.mpr ⟨⟨x, by rw [List.getElem?_set_self hk], hx⟩, fun j e hj he => ?_⟩
  rw [List.getElem?_set_ne (by omega)] at he
  rcases h with h | h
  · exact slotOf_eq_none_iff.mp h e (List.mem_of_getElem? he)
  · exact (slotOf_eq_some_iff.mp h).2 j e hj he

theorem peerAt_eq {s : State} {k : Nat} {e : PeerEntry} (h : s.peers.entries[k]? = some e) : peerAt s k = e := by
  unfold peerAt
  rw [List.getD_eq_getElem?_getD, h]
  rfl

theorem getElem?_peerAt {s : State} {k : Nat} (hk : k < s.peers.entries.length) : s.peers.entries[k]? = some (peerAt s k) := by
  rw [peerAt_eq (List.getElem?_eq_getElem hk)]
  exact List.getElem?_eq_getElem hk

/-- The slot of a known sender exists and is held under its id. -/
theorem peerAt_of_slotOf {s : State} {id k : Nat} (h : slotOf s.peers.entries id = some k) :
    k < s.peers.entries.length ∧ HeldAs id (peerAt s k) := by
  obtain ⟨⟨e, he, held⟩, -⟩ := slotOf_eq_some_iff.mp h
  exact ⟨(List.getElem?_eq_some_iff.mp he).1, by rwa [peerAt_eq he]⟩

theorem modifyPeer_eq_set {s : State} {k : Nat} (f : PeerEntry → PeerEntry) (hk : k < s.peers.entries.length) :
    modifyPeer k f s = s.setEntries (s.peers.entries.set k (f (peerAt s k))) := by
  unfold modifyPeer
  rw [modifyAt_eq_set (getElem?_peerAt hk)]

/-- What a change of a slot's entry leaves there. -/
theorem peerAt_of_set {s : State} {k : Nat} {es : List PeerEntry} {x : PeerEntry} (h : s.peers.entries = es.set k x)
    (hk : k < es.length) : peerAt s k = x := peerAt_eq (by rw [h, List.getElem?_set_self hk])

theorem entries_set_peerAt {s : State} {k : Nat} (hk : k < s.peers.entries.length) :
    s.peers.entries.set k (peerAt s k) = s.peers.entries := by
  rw [peerAt_eq (List.getElem?_eq_getElem hk), List.set_getElem_self]

/-- A station whose only entry is given back is unknown. -/
theorem slotOf_set_free {es : List PeerEntry} {id k : Nat} (only : ∀ j e, es[j]? = some e → HeldAs id e → j = k) :
    slotOf (es.set k Init.freePeer) id = none := by
  refine slotOf_eq_none_iff.mpr fun e mem held => ?_
  obtain ⟨j, he⟩ := List.mem_iff_getElem?.mp mem
  by_cases hj : j = k
  · subst hj
    rw [List.getElem?_set_self (by simpa using (List.getElem?_eq_some_iff.mp he).1)] at he
    exact held.1 (Option.some.inj he ▸ rfl)
  · rw [List.getElem?_set_ne (Ne.symm hj)] at he
    exact hj (only j e he held)

theorem positionTaken_iff {s : State} {id position : Nat} : positionTaken s id position = true ↔ PositionTaken s id position := by
  simp [positionTaken, PositionTaken, PeerEntry.used, and_assoc]

/-! ## Timing source (R81) -/

/-- What the timing source is judged by of an entry (R81). -/
def sourceView (e : PeerEntry) : PeerEntry :=
  { Init.freePeer with state := e.state, id := e.id, position := e.position, mismatched := e.mismatched }

theorem foldl_higherPeer_map_sourceView (l : List PeerEntry) (best : Option PeerEntry) :
    (l.map sourceView).foldl higherPeer (best.map sourceView) = (l.foldl higherPeer best).map sourceView := by
  induction l generalizing best with
  | nil => rfl
  | cons e l ih =>
    have better : higherPeer (best.map sourceView) (sourceView e) = (higherPeer best e).map sourceView := by
      cases best with
      | none => rfl
      | some b =>
        simp only [higherPeer, Option.map_some]
        exact (apply_ite (Option.map sourceView) _ (some e) (some b)).symm
    rw [List.map_cons, List.foldl_cons, List.foldl_cons, better, ih]

/-- The timing source reads the state, the id, the position and the MISMATCHED flag of each entry alone. -/
theorem timingSource_map_sourceView (own : Nat) (es : List PeerEntry) :
    timingSource own (es.map sourceView) = timingSource own es := by
  unfold timingSource
  rw [List.filter_map, show sourceEligible own ∘ sourceView = sourceEligible own from rfl,
    show (none : Option PeerEntry) = none.map sourceView from rfl, foldl_higherPeer_map_sourceView, Option.map_map]
  rfl

/-- An entry changed in nothing that it is judged by leaves the timing source. -/
theorem timingSource_set_of_view {own k : Nat} {es : List PeerEntry} {x e : PeerEntry} (he : es[k]? = some e)
    (h : sourceView x = sourceView e) : timingSource own (es.set k x) = timingSource own es := by
  rw [← timingSource_map_sourceView own (es.set k x), ← timingSource_map_sourceView own es, List.map_set, h]
  congr 1
  obtain ⟨hk, rfl⟩ := List.getElem?_eq_some_iff.mp he
  exact List.ext_getElem (by simp) fun j _ _ => by rw [List.getElem_set]; split <;> simp_all

theorem foldl_higherPeer_mem {l : List PeerEntry} {best : Option PeerEntry} {e : PeerEntry}
    (h : l.foldl higherPeer best = some e) : e ∈ l ∨ best = some e := by
  induction l generalizing best with
  | nil => exact .inr h
  | cons x l ih =>
    rcases ih h with mem | better
    · exact .inl (List.mem_cons_of_mem x mem)
    · unfold higherPeer at better
      split at better
      · split at better
        · exact .inl (Option.some.inj better ▸ List.mem_cons_self)
        · exact .inr better
      · exact .inl (Option.some.inj better ▸ List.mem_cons_self)

/-- The timing source is the id of an ACTIVE entry (R81). -/
theorem timingSource_active {own id : Nat} {es : List PeerEntry} (h : timingSource own es = some id) :
    ∃ e ∈ es, e.state = .active ∧ e.id = id := by
  obtain ⟨e, he, rfl⟩ := Option.map_eq_some_iff.mp h
  obtain ⟨mem, eligible⟩ := List.mem_filter.mp ((foldl_higherPeer_mem he).resolve_right nofun)
  simp only [sourceEligible, Bool.and_eq_true, decide_eq_true_eq] at eligible
  exact ⟨e, mem, eligible.1.1, rfl⟩

/-- A station that no entry is held under is not the timing source. -/
theorem timingSource_ne_of_unknown {own id : Nat} {es : List PeerEntry} (h : slotOf es id = none) :
    timingSource own es ≠ some id := fun source => by
  obtain ⟨e, mem, active, rfl⟩ := timingSource_active source
  exact slotOf_eq_none_iff.mp h e mem ⟨by rw [active]; decide, rfl⟩

/-- Nor is one whose only entry is not ACTIVE. -/
theorem timingSource_set_ne {own id k : Nat} {es : List PeerEntry} {x : PeerEntry} (hx : x.state ≠ .active)
    (only : ∀ j e, es[j]? = some e → HeldAs id e → j = k) : timingSource own (es.set k x) ≠ some id := fun source => by
  obtain ⟨e, mem, active, rfl⟩ := timingSource_active source
  obtain ⟨j, he⟩ := List.mem_iff_getElem?.mp mem
  by_cases hj : j = k
  · subst hj
    rw [List.getElem?_set_self (by simpa using (List.getElem?_eq_some_iff.mp he).1)] at he
    exact hx (Option.some.inj he ▸ active)
  · rw [List.getElem?_set_ne (Ne.symm hj)] at he
    exact hj (only j e he ⟨by rw [active]; decide, rfl⟩)

/-! ## The fault unit, a frame just heard and SILENT clear (R175) -/

/-- A valid frame has just been heard, and SILENT stands clear. -/
def Heard (s : State) : Prop := s.fault.silence = 0 ∧ s.fault.silent = false

theorem judgeSilent_of_heard {s : State} (h : Heard s) : judgeSilent s = s := by
  obtain ⟨silence, silent⟩ := h
  unfold judgeSilent
  exact if_pos (by simp [silentNow, silence, silent, Config.silentEpochs])

theorem frameHeard_of_not_silent {s : State} (h : s.fault.silent = false) :
    frameHeard s = s.setFault { s.fault with silence := 0 } := judgeSilent_of_heard ⟨rfl, h⟩

/-- What every change of the table brings then: the source judged, and live peers reported (R81, R96). -/
theorem tableChanged_of_heard {s : State} (h : Heard s) : tableChanged s = { s with
    timeline := (judgeSource s).timeline
    fault := { s.fault with livePeers := s.peers.entries.any PeerEntry.live } } := by
  have judged : judgeSource s = { s with timeline := (judgeSource s).timeline } := by
    unfold judgeSource
    dsimp only
    split <;> rfl
  have changed : tableChanged s = judgeSilent ((judgeSource s).setFault
      { (judgeSource s).fault with livePeers := (judgeSource s).peers.entries.any PeerEntry.live }) := rfl
  rw [changed, judged]
  exact judgeSilent_of_heard h

theorem judgeSource_source (s : State) :
    (judgeSource s).timeline.source = timingSource s.port.image.position s.peers.entries := by
  unfold judgeSource
  dsimp only
  split
  · next same => exact same.symm
  · rfl

/-- A source that stands leaves the Timeline Unit as it is (R81). -/
theorem judgeSource_of_same {s : State} (h : timingSource s.port.image.position s.peers.entries = s.timeline.source) :
    judgeSource s = s := by
  unfold judgeSource
  exact if_pos h

/-! ## Operations on one entry -/

/-- A slot named by neither side's adjacency (R112). -/
def PeerTable.withoutAdjacent (k : Nat) (t : PeerTable) : PeerTable := { t with
  adjacentUp := if t.adjacentUp = some k then none else t.adjacentUp
  adjacentDown := if t.adjacentDown = some k then none else t.adjacentDown }

theorem dropAdjacent_eq (k : Nat) (s : State) : dropAdjacent k s = { s with
    peers := s.peers.withoutAdjacent k, assessor := (dropAdjacent k s).assessor } := by
  unfold dropAdjacent PeerTable.withoutAdjacent setAdjacent PeerTable.adjacent
  by_cases up : s.peers.adjacentUp = some k <;> by_cases down : s.peers.adjacentDown = some k <;> simp [up, down]

/-- The MISMATCHED flag judged, with its event where it has come to be set (R100). -/
theorem judgeMismatch_eq {k : Nat} {s : State} (h : Header) (hk : k < s.peers.entries.length) : judgeMismatch k h s = { s with
    peers := { s.peers with
      entries := s.peers.entries.set k { peerAt s k with mismatched := decide (h.n ≠ s.port.image.n) } }
    port := (if h.n ≠ s.port.image.n ∧ (peerAt s k).mismatched = false
      then record s .configMismatch (.station (peerAt s k).id) none (.value h.n) else s).port } := by
  dsimp only [judgeMismatch]
  rw [modifyPeer_eq_set _ hk]
  by_cases hn : h.n = s.port.image.n <;> cases hm : (peerAt s k).mismatched <;> simp [hn] <;> rfl

/-- A REPORT acting on an entry, with its event where the entry becomes ACTIVE (R101, R102, R105). -/
theorem reportActs_eq {k : Nat} {s : State} (h : Header) (p : ReportPayload) (hk : k < s.peers.entries.length) :
    let new := reportOnState (reportOnEntry s.port.image.n h p (peerAt s k))
    reportActs k h p s = { s with
      peers := { s.peers with entries := s.peers.entries.set k new }
      port := (if (peerAt s k).state ≠ .active ∧ new.state = .active
        then record s .peerActive (.station new.id) none (.peerState (peerAt s k).state) else s).port } := by
  intro new
  have there : peerAt (s.setEntries (s.peers.entries.set k new)) k = new := peerAt_of_set rfl hk
  dsimp only [reportActs]
  rw [modifyPeer_eq_set _ hk, there]
  by_cases ha : (peerAt s k).state = .active <;> by_cases hn : new.state = .active <;> simp [ha, hn] <;> rfl

/-! ## The entry that a REPORT acts on (R100 to R102, R105) -/

/-- What a REPORT makes of the entry it acts on, its mark aside (R100 to R102, R105). -/
def reported (ownN : Nat) (h : Header) (p : ReportPayload) (e : PeerEntry) : PeerEntry :=
  reportOnState (reportOnEntry ownN h p { e with mismatched := decide (h.n ≠ ownN) })

theorem countProbation_eq (e : PeerEntry) : countProbation e = { e with
    state := (countProbation e).state, tally := (countProbation e).tally, age := (countProbation e).age } := by
  unfold countProbation
  split
  · rfl
  · split <;> rfl

theorem reportOnState_eq (e : PeerEntry) : reportOnState e = { e with
    state := (reportOnState e).state, tally := (reportOnState e).tally, age := (reportOnState e).age } := by
  unfold reportOnState
  split
  · exact countProbation_eq e
  all_goals rfl

/-- Nothing but state and probation is moved by what a REPORT does to the state of its entry. -/
theorem reported_eq (n : Nat) (h : Header) (p : ReportPayload) (e : PeerEntry) : reported n h p e = { e with
    mismatched := decide (h.n ≠ n), reportSilence := 0, frameSilence := 0, flags := h.flags, ring := ringOffer n h p e.ring
    state := (reported n h p e).state, tally := (reported n h p e).tally, age := (reported n h p e).age } := reportOnState_eq _

theorem reported_state_of_not_heard {n : Nat} {h : Header} {p : ReportPayload} {e : PeerEntry} (used : e.state ≠ .free)
    (he : e.state ≠ .heard) : (reported n h p e).state = .active := by
  unfold reported reportOnState reportOnEntry
  cases hs : e.state with
  | free => exact absurd hs used
  | heard => exact absurd hs he
  | active => rfl
  | stale => rfl
  | lost => rfl

theorem reported_of_heard {n : Nat} {h : Header} {p : ReportPayload} {e : PeerEntry} (he : e.state = .heard) :
    reported n h p e = countProbation (reportOnEntry n h p { e with mismatched := decide (h.n ≠ n) }) := by
  unfold reported reportOnState
  rw [show (reportOnEntry n h p { e with mismatched := decide (h.n ≠ n) }).state = .heard from he]

/-- The probation that a REPORT counts: ACTIVE at the third within the window, which the first of them opens (R102). -/
theorem countProbation_cases {e : PeerEntry} (he : e.state = .heard) :
    ((countProbation e).state = .active ↔ 2 ≤ e.tally) ∧
    (e.tally = 0 → countProbation e = { e with tally := 1, age := 0 }) ∧
    (e.tally = 1 → countProbation e = { e with tally := 2 }) := by
  unfold countProbation Config.probationReports
  split
  · next zero => exact ⟨by simp [he, zero], fun _ => rfl, fun one => by omega⟩
  · split
    · next third => exact ⟨⟨fun _ => by omega, fun _ => rfl⟩, fun zero => by omega, fun one => by omega⟩
    · next more =>
      exact ⟨⟨fun active => absurd (he.symm.trans active) nofun, fun _ => by omega⟩, fun zero => by omega, fun one => by rw [one]⟩

/-- The probation of the HEARD entry that a REPORT acts on (R102). -/
theorem reported_probation {n : Nat} {h : Header} {p : ReportPayload} {e : PeerEntry} (he : e.state = .heard) :
    ((reported n h p e).state = .active ↔ 2 ≤ e.tally) ∧
    (e.tally = 0 → (reported n h p e).tally = 1 ∧ (reported n h p e).age = 0) ∧
    (e.tally = 1 → (reported n h p e).tally = 2 ∧ (reported n h p e).age = e.age) := by
  obtain ⟨third, first, second⟩ :=
    countProbation_cases (e := reportOnEntry n h p { e with mismatched := decide (h.n ≠ n) }) he
  rw [reported_of_heard he]
  exact ⟨third, fun zero => by rw [first zero]; exact ⟨rfl, rfl⟩, fun one => by rw [second one]; exact ⟨rfl, rfl⟩⟩

/-- The ring that a REPORT leaves (R105). -/
theorem ringOffer_cases (n : Nat) (h : Header) (p : ReportPayload) (ring : List PeerRecord) :
    let kept := ring.filter (fun r => r.epoch ≠ h.epoch - 1)
    (h.invalid = true → ringOffer n h p ring = kept) ∧
    (h.invalid = false → h.n ≠ n → ringOffer n h p ring = ring) ∧
    (h.invalid = false → h.n = n → ringOffer n h p ring = (peerRecord h p :: kept).take 4) := by
  unfold ringOffer
  refine ⟨fun hi => if_pos hi, fun hi hn => ?_, fun hi hn => ?_⟩
  · rw [if_neg (by simp [hi]), if_pos hn]
  · rw [if_neg (by simp [hi]), if_neg (by simp [hn])]
    rfl

/-- The first REPORT of a newcomer, or of an entry reset at a new place (R97, R99 to R102, R105). -/
theorem reported_newcomer (n : Nat) (h : Header) (p : ReportPayload) (mismatched : Bool) (flags : BitVec 8) :
    reported n h p { newcomer h.sender h.position with mismatched := mismatched, flags := flags } = firstReportEntry n h p := by
  obtain ⟨invalid, other, own⟩ := ringOffer_cases n h p []
  have ring : ringOffer n h p [] = if h.invalid = false ∧ h.n = n then [peerRecord h p] else [] := by
    cases hi : h.invalid with
    | true => simpa using invalid hi
    | false =>
      by_cases hn : h.n = n
      · simpa [hn] using own hi hn
      · simpa [hn] using other hi hn
  obtain ⟨-, one, -⟩ := countProbation_cases (e := reportOnEntry n h p
    { newcomer h.sender h.position with mismatched := decide (h.n ≠ n), flags := flags }) rfl
  refine (reported_of_heard rfl).trans ((one rfl).trans ?_)
  unfold firstReportEntry
  rw [← ring]
  rfl

theorem reported_used {n : Nat} {h : Header} {p : ReportPayload} {e : PeerEntry} (he : e.state ≠ .free) :
    (reported n h p e).state ≠ .free := by
  by_cases heard : e.state = .heard
  · rw [reported_of_heard heard]
    unfold countProbation
    split
    · exact he
    · split
      · exact fun free => nomatch free
      · exact he
  · rw [reported_state_of_not_heard he heard]
    exact fun free => nomatch free

/-- A REPORT acts on the entry of its slot: the MISMATCHED flag is judged, then the rest (R100 to R102, R105). -/
def acted (k : Nat) (h : Header) (p : ReportPayload) (s : State) : State := reportActs k h p (judgeMismatch k h s)

/-- The table and the events of a REPORT that acts on an entry. -/
theorem acted_eq {k : Nat} {s : State} (h : Header) (p : ReportPayload) (hk : k < s.peers.entries.length) :
    let old := peerAt s k
    let new := reported s.port.image.n h p old
    acted k h p s = { s with
      peers := { s.peers with entries := s.peers.entries.set k new }
      port := (if old.state ≠ .active ∧ new.state = .active
        then record (judgeMismatch k h s) .peerActive (.station new.id) none (.peerState old.state)
        else judgeMismatch k h s).port } := by
  intro old new
  have judged := judgeMismatch_eq h hk
  have entries : (judgeMismatch k h s).peers.entries =
      s.peers.entries.set k { peerAt s k with mismatched := decide (h.n ≠ s.port.image.n) } := by rw [judged]
  have image : (judgeMismatch k h s).port.image = s.port.image := (keeps_judgeMismatch k h s).coreKept.image
  unfold acted
  rw [reportActs_eq h p (by rw [entries, List.length_set]; exact hk), peerAt_of_set entries hk, image, entries, List.set_set]
  generalize judgeMismatch k h s = j at judged
  rw [judged]
  rfl

/-- The events of a REPORT that makes no entry ACTIVE (R100). -/
theorem acted_port {k : Nat} {s : State} {h : Header} {p : ReportPayload} (hk : k < s.peers.entries.length)
    (stays : (peerAt s k).state = .active ∨ (reported s.port.image.n h p (peerAt s k)).state ≠ .active) :
    (acted k h p s).port = (if h.n ≠ s.port.image.n ∧ (peerAt s k).mismatched = false
      then record s .configMismatch (.station (peerAt s k).id) none (.value h.n) else s).port := by
  rw [acted_eq h p hk, if_neg fun active => stays.elim active.1 fun quiet => quiet active.2]
  exact (congrArg State.port (judgeMismatch_eq h hk) :)

/-! ## What a frame leaves of the other blocks -/

/-- `t` differs from `s` at most in the Peer Table, the Assessor's cells and the station port, the image standing. -/
structure TableOnly (s t : State) : Prop where
  rest : t = { s with peers := t.peers, assessor := t.assessor, port := t.port }
  image : t.port.image = s.port.image

namespace TableOnly

theorem refl (s : State) : TableOnly s s := ⟨rfl, rfl⟩

theorem trans {s t u : State} (h : TableOnly s t) (k : TableOnly t u) : TableOnly s u :=
  ⟨by rw [k.rest, h.rest], k.image.trans h.image⟩

theorem ite {c : Prop} [Decidable c] {s t u : State} (ht : TableOnly s t) (hu : TableOnly s u) :
    TableOnly s (if c then t else u) := by
  split
  · exact ht
  · exact hu

theorem heard {s t : State} (h : TableOnly s t) (hs : Heard s) : Heard t := by
  rw [h.rest]
  exact hs

end TableOnly

theorem modifyPeer_tableOnly (k : Nat) (f : PeerEntry → PeerEntry) (s : State) : TableOnly s (modifyPeer k f s) := ⟨rfl, rfl⟩

theorem setConflicts_tableOnly (s : State) (l : List Nat) : TableOnly s (setConflicts s l) := ⟨rfl, rfl⟩

theorem record_tableOnly (s : State) (k : EventKind) (x : EventSubject) (y : Option Span) (d : Detail) :
    TableOnly s (record s k x y d) := ⟨rfl, rfl⟩

theorem dropAdjacent_tableOnly (k : Nat) (s : State) : TableOnly s (dropAdjacent k s) := by
  rw [dropAdjacent_eq]
  exact ⟨rfl, rfl⟩

theorem evict_tableOnly (k : Nat) (s : State) : TableOnly s (evict k s) :=
  have dropped := dropAdjacent_tableOnly k s
  .ite (.refl s) (.ite dropped (dropped.trans (record_tableOnly _ _ _ _ _)))

theorem freeSlot_tableOnly (k : Nat) (s : State) : TableOnly s (freeSlot k s) :=
  (modifyPeer_tableOnly k _ s).trans (dropAdjacent_tableOnly k _)

theorem judgeMismatch_tableOnly (k : Nat) (h : Header) (s : State) : TableOnly s (judgeMismatch k h s) :=
  have judged := modifyPeer_tableOnly k (fun e => { e with mismatched := decide (h.n ≠ s.port.image.n) }) s
  .ite (judged.trans (record_tableOnly _ _ _ _ _)) judged

theorem reportActs_tableOnly (k : Nat) (h : Header) (p : ReportPayload) (s : State) : TableOnly s (reportActs k h p s) :=
  have acted := modifyPeer_tableOnly k (fun e => reportOnState (reportOnEntry s.port.image.n h p e)) s
  .ite (acted.trans (record_tableOnly _ _ _ _ _)) acted

theorem setMark_tableOnly (id : Nat) (b : Bool) (s : State) : TableOnly s (setMark id b s) := by
  unfold setMark
  split
  · exact modifyPeer_tableOnly _ _ s
  · exact .refl s

end Sys2Proof.Machine

/-! A REPORT taken by the Peer Table, case by case (R96 to R99), and what it leaves of every other block. -/

namespace Sys2Proof.Machine

/-! ## A REPORT at the table, case by case (R96 to R99) -/

section
variable {h : Header} {p : ReportPayload} {s : State} {k : Nat}

theorem tableReport_of_found {t : State} (found : findEntry h s = (judgeMismatch k h t, some k)) :
    tableReport h p s = tableChanged (acted k h p t) := by
  unfold tableReport
  rw [found]
  rfl

theorem tableReport_of_none {t : State} (found : findEntry h s = (t, none)) : tableReport h p s = tableChanged t := by
  unfold tableReport
  rw [found]

/-- What a frame finds: the MISMATCHED flag judged of the entry that it acts on, if there is one (R100). -/
def flagged (h : Header) : State × Option Nat → State × Option Nat
  | (t, some k) => (judgeMismatch k h t, some k)
  | (t, none) => (t, none)

theorem findEntry_known (hk : slotOf s.peers.entries h.sender = some k) (hp : (peerAt s k).position = h.position) :
    findEntry h s = flagged h (s, some k) := by
  unfold findEntry
  rw [hk]
  dsimp only
  rw [if_pos hp]
  rfl

theorem findEntry_of_moved (hk : slotOf s.peers.entries h.sender = some k) (hp : (peerAt s k).position ≠ h.position) :
    findEntry h s = flagged h (moved k h.sender h.position s) := by
  unfold findEntry
  rw [hk]
  dsimp only
  rw [if_neg hp]
  rfl

/-- A sender at its place has its entry acted on (R96). -/
theorem tableReport_known (hk : slotOf s.peers.entries h.sender = some k) (hp : (peerAt s k).position = h.position) :
    tableReport h p s = tableChanged (acted k h p s) := tableReport_of_found (findEntry_known hk hp)

/-- A pinned entry is held where it is (R99). -/
theorem tableReport_pinned (hk : slotOf s.peers.entries h.sender = some k) (hp : (peerAt s k).position ≠ h.position)
    (pinned : 0 < (peerAt s k).pinned) : tableReport h p s = tableChanged (recordConflict h.sender h.position s) :=
  tableReport_of_none (by rw [findEntry_of_moved hk hp]; unfold moved; dsimp only; rw [if_pos pinned]; rfl)

/-- An unpinned entry whose sender reports a taken position is given back (R99). -/
theorem tableReport_freed (hk : slotOf s.peers.entries h.sender = some k) (hp : (peerAt s k).position ≠ h.position)
    (free : (peerAt s k).pinned = 0) (taken : PositionTaken s h.sender h.position) :
    tableReport h p s = tableChanged (tableChanged (setConflicts (recordConflict h.sender h.position (freeSlot k s))
      (conflictAdd h.sender (recordConflict h.sender h.position (freeSlot k s)).peers.conflicts))) :=
  tableReport_of_none (by
    rw [findEntry_of_moved hk hp]
    unfold moved
    dsimp only
    rw [if_neg (by omega), if_pos (positionTaken_iff.mpr taken)]
    rfl)

/-- What an entry keeps whose sender has moved to a free position (R99, log 48). -/
def resetEntry (id position : Nat) (e : PeerEntry) : PeerEntry :=
  { newcomer id position with mismatched := e.mismatched, flags := e.flags }

/-- An unpinned entry whose sender reports a free position is reset there, and acted on (R99). -/
theorem tableReport_reset (hk : slotOf s.peers.entries h.sender = some k) (hp : (peerAt s k).position ≠ h.position)
    (free : (peerAt s k).pinned = 0) (vacant : ¬ PositionTaken s h.sender h.position) : tableReport h p s =
      tableChanged (acted k h p (tableChanged (dropAdjacent k (modifyPeer k (resetEntry h.sender h.position) s)))) :=
  tableReport_of_found (by
    rw [findEntry_of_moved hk hp]
    unfold moved
    dsimp only
    rw [if_neg (by omega), if_neg fun taken => vacant (positionTaken_iff.mp taken)]
    rfl)

theorem findEntry_of_newcomer (hn : slotOf s.peers.entries h.sender = none) :
    findEntry h s = flagged h (admitPeer h.sender h.position s) := by
  unfold findEntry
  rw [hn]
  rfl

/-- A newcomer in conflict that the list holds already leaves everything (R97). -/
theorem tableReport_listed (hn : slotOf s.peers.entries h.sender = none) (taken : PositionTaken s h.sender h.position)
    (listed : h.sender ∈ s.peers.conflicts) : tableReport h p s = tableChanged s :=
  tableReport_of_none (by
    rw [findEntry_of_newcomer hn]
    unfold admitPeer
    rw [if_pos (positionTaken_iff.mpr taken), if_pos (by simpa using listed)]
    rfl)

/-- A newcomer in conflict joins the list, with its event (R97). -/
theorem tableReport_conflict (hn : slotOf s.peers.entries h.sender = none) (taken : PositionTaken s h.sender h.position)
    (new : h.sender ∉ s.peers.conflicts) : tableReport h p s =
      tableChanged (setConflicts (recordConflict h.sender h.position s) (conflictAdd h.sender s.peers.conflicts)) :=
  tableReport_of_none (by
    rw [findEntry_of_newcomer hn]
    unfold admitPeer
    rw [if_pos (positionTaken_iff.mpr taken), if_neg (by simpa using new)]
    rfl)

/-- A newcomer that finds no room is counted (R97). -/
theorem tableReport_refused (hn : slotOf s.peers.entries h.sender = none) (vacant : ¬ PositionTaken s h.sender h.position)
    (full : chooseSlot s.port.image.position h.position s.peers.entries = none) :
    tableReport h p s = tableChanged { s with peers := { s.peers with refusals := raise16 s.peers.refusals } } :=
  tableReport_of_none (by
    rw [findEntry_of_newcomer hn]
    unfold admitPeer
    rw [if_neg fun taken => vacant (positionTaken_iff.mp taken), full]
    rfl)

/-- The table with a newcomer in a slot, its old entry evicted (R97, R98). -/
def seated (k id position : Nat) (s : State) : State :=
  let t := modifyPeer k (fun _ => newcomer id position) (evict k s)
  setConflicts t (t.peers.conflicts.filter (· ≠ id))

/-- A newcomer admitted to a slot, and acted on there (R97). -/
theorem tableReport_admitted (hn : slotOf s.peers.entries h.sender = none) (vacant : ¬ PositionTaken s h.sender h.position)
    (hk : chooseSlot s.port.image.position h.position s.peers.entries = some k) :
    tableReport h p s = tableChanged (acted k h p (tableChanged (seated k h.sender h.position s))) :=
  tableReport_of_found (by
    rw [findEntry_of_newcomer hn]
    unfold admitPeer
    rw [if_neg fun taken => vacant (positionTaken_iff.mp taken), hk]
    rfl)

end

/-! ## What a REPORT at the table leaves of the other blocks -/

/-- A change of SILENT brings nothing of its own but its event and an evaluation (R175, R176). -/
theorem judgeSilent_within (s : State) : Within (s.setFault (judgeSilent s).fault) (judgeSilent s) := by
  have judged : ∀ (b : Bool) (k : EventKind) (d : Detail),
      let t := record (s.setFault { s.fault with silent := b }) k .absent none d
      Within (s.setFault (judgeImpaired t).fault) (judgeImpaired t) := fun b k d =>
    (keeps_record k .absent none d (s.setFault _)).trans
      (judgeImpaired_within (record (s.setFault { s.fault with silent := b }) k .absent none d))
  unfold judgeSilent
  split
  · exact .refl s
  · split
    · exact judged _ _ _
    · exact judged _ _ _

/-- What a frame's part at the fault unit and the table can do: the timeline's own progress stands in every case, and with SILENT
clear every other block too. -/
structure TableMoved (s t : State) : Prop where
  run : t.run = s.run
  tracker : t.tracker = s.tracker
  image : t.port.image = s.port.image
  timeline : t.timeline = { s.timeline with
    source := t.timeline.source, sourceError := t.timeline.sourceError, deferred := t.timeline.deferred }
  rest : Heard s → t = { s with
    peers := t.peers, assessor := t.assessor, timeline := t.timeline, port := t.port
    fault := { s.fault with livePeers := t.fault.livePeers } }

namespace TableMoved

theorem trans {s t u : State} (h : TableMoved s t) (k : TableMoved t u) : TableMoved s u where
  run := k.run.trans h.run
  tracker := k.tracker.trans h.tracker
  image := k.image.trans h.image
  timeline := by rw [k.timeline, h.timeline]
  rest hs := by
    have ht := h.rest hs
    rw [k.rest (by rw [ht]; exact hs), ht]

theorem heard {s t : State} (h : TableMoved s t) (hs : Heard s) : Heard t := by
  rw [h.rest hs]
  exact hs

end TableMoved

theorem TableOnly.moved {s t : State} (h : TableOnly s t) : TableMoved s t where
  run := by rw [h.rest]
  tracker := by rw [h.rest]
  image := h.image
  timeline := by rw [h.rest]
  rest _ := by rw [h.rest]

theorem judgeSource_moved (s : State) : TableMoved s (judgeSource s) := by
  unfold judgeSource
  dsimp only
  split <;> exact ⟨rfl, rfl, rfl, rfl, fun _ => rfl⟩

theorem judgeSilent_moved (s : State) : TableMoved s (judgeSilent s) where
  run := (judgeSilent_within s).run
  tracker := (judgeSilent_within s).tracker
  image := (judgeSilent_within s).coreKept.image
  timeline := by rw [(judgeSilent_within s).timeline]; rfl
  rest hs := by rw [judgeSilent_of_heard hs]

theorem tableChanged_moved (s : State) : TableMoved s (tableChanged s) :=
  have reported : TableMoved (judgeSource s) ((judgeSource s).setFault
      { (judgeSource s).fault with livePeers := (judgeSource s).peers.entries.any PeerEntry.live }) :=
    ⟨rfl, rfl, rfl, rfl, fun _ => rfl⟩
  ((judgeSource_moved s).trans reported).trans (judgeSilent_moved _)

theorem frameHeard_moved (s : State) : TableMoved (s.setFault { s.fault with silence := 0 }) (frameHeard s) := judgeSilent_moved _

theorem admitPeer_moved (id position : Nat) (s : State) : TableMoved s (admitPeer id position s).1 := by
  unfold admitPeer
  split
  · split
    · exact (TableOnly.refl s).moved
    · exact ((record_tableOnly _ _ _ _ _).trans (setConflicts_tableOnly _ _)).moved
  · split
    · exact TableOnly.moved ⟨rfl, rfl⟩
    · exact ((evict_tableOnly _ s).trans ((modifyPeer_tableOnly _ _ _).trans (setConflicts_tableOnly _ _))).moved.trans
        (tableChanged_moved _)

theorem moved_moved (k id position : Nat) (s : State) : TableMoved s (moved k id position s).1 := by
  dsimp only [moved]
  split
  · exact (record_tableOnly _ _ _ _ _).moved
  · split
    · exact ((freeSlot_tableOnly k s).trans ((record_tableOnly _ _ _ _ _).trans (setConflicts_tableOnly _ _))).moved.trans
        (tableChanged_moved _)
    · exact ((modifyPeer_tableOnly k _ s).trans (dropAdjacent_tableOnly k _)).moved.trans (tableChanged_moved _)

theorem findEntry_moved (h : Header) (s : State) : TableMoved s (findEntry h s).1 := by
  have judged : ∀ r : State × Option Nat, TableMoved s r.1 → TableMoved s (flagged h r).1 := by
    rintro ⟨t, _ | k⟩ found
    · exact found
    · exact found.trans (judgeMismatch_tableOnly k h t).moved
  cases hk : slotOf s.peers.entries h.sender with
  | none => exact findEntry_of_newcomer hk ▸ judged _ (admitPeer_moved _ _ s)
  | some k =>
    by_cases hp : (peerAt s k).position = h.position
    · exact findEntry_known hk hp ▸ judged (s, some k) (TableOnly.refl s).moved
    · exact findEntry_of_moved hk hp ▸ judged _ (moved_moved k _ _ s)

/-- Every REPORT at the table ends in what a change of the table brings (R81, R96, R175). -/
theorem tableReport_changes (h : Header) (p : ReportPayload) (s : State) :
    ∃ v, TableMoved s v ∧ tableReport h p s = tableChanged v := by
  have found := findEntry_moved h s
  unfold tableReport
  split
  · next heq => rw [heq] at found; exact ⟨_, found.trans (reportActs_tableOnly _ h p _).moved, rfl⟩
  · next heq => rw [heq] at found; exact ⟨_, found, rfl⟩

theorem tableReport_moved (h : Header) (p : ReportPayload) (s : State) : TableMoved s (tableReport h p s) := by
  obtain ⟨v, moved, eq⟩ := tableReport_changes h p s
  exact eq ▸ moved.trans (tableChanged_moved v)

/-- With SILENT clear a REPORT leaves the source that its table gives (R81). -/
theorem tableReport_source {s : State} (hs : Heard s) (h : Header) (p : ReportPayload) : (tableReport h p s).timeline.source =
    timingSource s.port.image.position (tableReport h p s).peers.entries := by
  obtain ⟨v, moved, eq⟩ := tableReport_changes h p s
  rw [eq, tableChanged_of_heard (moved.heard hs), ← moved.image]
  exact judgeSource_source v

end Sys2Proof.Machine

/-! A REPORT at the Timeline Unit (R82 to R93): the mark, the source's move and the join, said of any state; the statements O37,
O51 and O52. -/

namespace Sys2Proof.Machine

/-! ## The mark (R83) -/

theorem setMark_of_unknown {id : Nat} {s : State} (h : slotOf s.peers.entries id = none) (b : Bool) : setMark id b s = s := by
  unfold setMark
  rw [h]

/-- The mark is set on the entry just left in the sender's slot. -/
theorem setMark_peers {id k : Nat} {es : List PeerEntry} {x : PeerEntry} {s : State} (entries : s.peers.entries = es.set k x)
    (hk : k < es.length) (hx : HeldAs id x) (slot : slotOf es id = none ∨ slotOf es id = some k) (b : Bool) :
    (setMark id b s).peers = { s.peers with entries := es.set k { x with aligned := b } } := by
  unfold setMark
  rw [entries, slotOf_set hk hx slot]
  dsimp only
  rw [modifyPeer_eq_set _ (by rw [entries, List.length_set]; exact hk), peerAt_of_set entries hk, entries, List.set_set]
  rfl

theorem setMark_eq (id : Nat) (b : Bool) (s : State) : setMark id b s = { s with peers := (setMark id b s).peers } := by
  unfold setMark
  split <;> rfl

theorem alignedBy_iff {n : Nat} {h : Header} {l : Stamp} : alignedBy n h l = true ↔
    h.n = n ∧ (epochError h l).natAbs ≤ 1 ∧ (timelineError n h l).natAbs ≤ 16 := by
  simp only [alignedBy, Bool.and_eq_true, decide_eq_true_eq, and_assoc]
  rfl

/-! ## The source's move (R84 to R90) -/

section
variable {h : Header} {l : Stamp} {s : State}

/-- The Timeline Unit with the error of a source's REPORT kept (R84). -/
def withError (h : Header) (l : Stamp) (s : State) : Timeline :=
  { s.timeline with sourceError := some ⟨epochError h l, timelineError s.port.image.n h l⟩ }

theorem errorCase_jump {n : Nat} {d e : Int} (far : 1 < d.natAbs ∨ 32 * n ≤ e.natAbs) : errorCase n d e = .jump :=
  if_pos (by simpa using far)

theorem errorCase_slew {n : Nat} {d e : Int} (hd : d.natAbs ≤ 1) (he : 16 < e.natAbs) (near : e.natAbs < 32 * n) :
    errorCase n d e = .slew := by
  unfold errorCase Config.alignTolerance
  rw [if_neg (by simp only [Bool.or_eq_true, decide_eq_true_eq]; omega), if_pos (by simpa using he)]

theorem errorCase_steady {n : Nat} {d e : Int} (hd : d.natAbs ≤ 1) (he : e.natAbs ≤ 16) (near : e.natAbs < 32 * n) :
    errorCase n d e = .steady := by
  unfold errorCase Config.alignTolerance
  rw [if_neg (by simp only [Bool.or_eq_true, decide_eq_true_eq]; omega), if_neg (by simpa using he)]

theorem sourceReport_of_jump (far : errorCase s.port.image.n (epochError h l) (timelineError s.port.image.n h l) = .jump) :
    sourceReport h l s = sourceJump h (s.setTimeline (withError h l s)) := by
  unfold sourceReport
  dsimp only
  rw [far]
  rfl

/-- In BLIND and CALM a far source brings a jump (R85). -/
theorem sourceReport_jumps (far : errorCase s.port.image.n (epochError h l) (timelineError s.port.image.n h l) = .jump)
    (calm : s.detector.assessment = .blind ∨ s.detector.assessment = .calm) : sourceReport h l s = { s with
      tracker := { s.tracker with jump := some (jumpTarget h) }
      timeline := { withError h l s with jumpPending := some ⟨jumpTarget h, h.sender⟩, deferred := false } } := by
  rw [sourceReport_of_jump far]
  unfold sourceJump
  exact if_pos (Bool.or_eq_true_iff.mpr (calm.imp decide_eq_true decide_eq_true))

/-- In DISTURBED and DEENERGIZED it is deferred, with one event (R89). -/
theorem sourceReport_defers (far : errorCase s.port.image.n (epochError h l) (timelineError s.port.image.n h l) = .jump)
    (upset : s.detector.assessment = .disturbed ∨ s.detector.assessment = .deenergized) : sourceReport h l s = { s with
      timeline := { withError h l s with deferred := true }
      port := (if s.timeline.deferred = true then s
        else record s .jumpDeferred (.station h.sender) none (.value h.epoch.toNat)).port } := by
  rw [sourceReport_of_jump far]
  unfold sourceJump
  rw [if_neg (by rcases upset with a | a <;> simp [a])]
  by_cases already : s.timeline.deferred = true
  · rw [if_pos already, if_pos (show (s.setTimeline (withError h l s)).timeline.deferred = true from already), ← already]
    rfl
  · rw [if_neg already, if_neg (show ¬ (s.setTimeline (withError h l s)).timeline.deferred = true from already)]
    rfl

theorem sourceReport_of_slew (off : errorCase s.port.image.n (epochError h l) (timelineError s.port.image.n h l) = .slew) :
    sourceReport h l s = sourceSlew (timelineError s.port.image.n h l) (s.setTimeline (withError h l s)) := by
  unfold sourceReport
  dsimp only
  rw [off]
  rfl

/-- A source beyond the tolerance brings a slew, and the guard (R87). -/
theorem sourceReport_slews (off : errorCase s.port.image.n (epochError h l) (timelineError s.port.image.n h l) = .slew)
    (guard : s.timeline.slewGuard = false) (free : s.timeline.jumpPending = none) : sourceReport h l s = { s with
      tracker := { s.tracker with slew := if 0 < timelineError s.port.image.n h l then .shorten else .lengthen }
      timeline := { withError h l s with deferred := false, slewGuard := true } } := by
  rw [sourceReport_of_slew off]
  unfold sourceSlew
  exact if_neg (by simp [withError, guard, free])

/-- The guard, and a pending jump, hold it back (R87, R88). -/
theorem sourceReport_held (off : errorCase s.port.image.n (epochError h l) (timelineError s.port.image.n h l) = .slew)
    (held : s.timeline.slewGuard = true ∨ s.timeline.jumpPending ≠ none) :
    sourceReport h l s = { s with timeline := { withError h l s with deferred := false } } := by
  rw [sourceReport_of_slew off]
  unfold sourceSlew
  exact if_pos (by simpa [withError, Option.isSome_iff_ne_none] using held)

/-- Within the tolerance a source moves nothing (R84, R90). -/
theorem sourceReport_steady (near : errorCase s.port.image.n (epochError h l) (timelineError s.port.image.n h l) = .steady) :
    sourceReport h l s = { s with timeline := { withError h l s with deferred := false } } := by
  unfold sourceReport
  dsimp only
  rw [near]
  rfl

/-- All that a source's REPORT can move (R84). -/
theorem sourceReport_eq (h : Header) (l : Stamp) (s : State) : sourceReport h l s = { s with
    tracker := { s.tracker with jump := (sourceReport h l s).tracker.jump, slew := (sourceReport h l s).tracker.slew }
    timeline := { withError h l s with
      jumpPending := (sourceReport h l s).timeline.jumpPending, slewGuard := (sourceReport h l s).timeline.slewGuard
      deferred := (sourceReport h l s).timeline.deferred }
    port := (sourceReport h l s).port } := by
  cases c : errorCase s.port.image.n (epochError h l) (timelineError s.port.image.n h l) with
  | jump =>
    cases a : s.detector.assessment with
    | blind => rw [sourceReport_jumps c (.inl a)]
    | calm => rw [sourceReport_jumps c (.inr a)]
    | disturbed => rw [sourceReport_defers c (.inl a)]
    | deenergized => rw [sourceReport_defers c (.inr a)]
  | slew =>
    by_cases held : s.timeline.slewGuard = true ∨ s.timeline.jumpPending ≠ none
    · rw [sourceReport_held c held]
    · obtain ⟨guard, free⟩ := not_or.mp held
      rw [sourceReport_slews c (Bool.eq_false_iff.mpr guard) (not_not.mp free)]
  | steady => rw [sourceReport_steady c]

/-! ## A REPORT at the Timeline Unit (R84, R91, R93) -/

theorem listenJoin_of_joins (opened : s.timeline.join = .opened) (hn : h.n = s.port.image.n)
    (upstream : h.position < s.port.image.position) : listenJoin h s = { s with
      tracker := { s.tracker with jump := some (jumpTarget h) }
      timeline := { s.timeline with jumpPending := some ⟨jumpTarget h, h.sender⟩, join := .pending } } :=
  if_pos (by simp [opened, hn, upstream])

theorem listenJoin_of_not (other : ¬ (s.timeline.join = .opened ∧ h.n = s.port.image.n ∧ h.position < s.port.image.position)) :
    listenJoin h s = s := if_neg (by simpa [and_assoc] using other)

theorem timelineReport_of_listen (listen : s.run = .listen) :
    timelineReport h l s = listenJoin h (setMark h.sender (alignedBy s.port.image.n h l) s) := by
  unfold timelineReport
  dsimp only
  rw [setMark_eq, listen]

theorem timelineReport_of_source (run : s.run = .run) (hn : h.n = s.port.image.n) (source : s.timeline.source = some h.sender) :
    timelineReport h l s = sourceReport h l (setMark h.sender (alignedBy s.port.image.n h l) s) := by
  unfold timelineReport
  dsimp only
  rw [setMark_eq, run]
  exact if_pos (by simp [hn, source])

/-- All that a REPORT can move at the Timeline Unit; no event is recorded but for the timing source. -/
theorem timelineReport_eq (h : Header) (l : Stamp) (s : State) :
    let t := timelineReport h l s
    t = { s with
      tracker := { s.tracker with jump := t.tracker.jump, slew := t.tracker.slew }
      peers := (setMark h.sender (alignedBy s.port.image.n h l) s).peers, timeline := t.timeline, port := t.port } ∧
    (s.timeline.source ≠ some h.sender → t.port = s.port) := by
  have mark := setMark_eq h.sender (alignedBy s.port.image.n h l) s
  unfold timelineReport
  dsimp only
  generalize setMark h.sender (alignedBy s.port.image.n h l) s = m at mark
  have port : m.port = s.port := by rw [mark]
  split
  · exact ⟨by rw [mark], fun _ => port⟩
  · refine ⟨?_, fun _ => ?_⟩ <;> unfold listenJoin <;> split
    · rw [mark]; rfl
    · rw [mark]
    · exact port
    · exact port
  · split
    · next source =>
      have same : m.timeline.source = s.timeline.source := by rw [mark]
      refine ⟨by rw [sourceReport_eq, mark], fun other => absurd ?_ other⟩
      rw [← same]
      exact of_decide_eq_true (Bool.and_eq_true_iff.mp source).2
    · exact ⟨by rw [mark], fun _ => port⟩

end

/-! ## LISTEN_TIMEOUT (R92) -/

/-- Settles O37: the count at its limit enters RUN, and neither the evaluation there nor the re-judging touches the blocks named. -/
theorem listenTimeoutEntersRun : Obligations.ListenTimeoutEntersRun := by
  intro s hw hl hc
  have due : listenDue s = true := Bool.and_eq_true_iff.mpr ⟨decide_eq_true hl, decide_eq_true hc⟩
  have entered : Within { s with run := .run, timeline := { s.timeline with join := .done } } (enterRun s) := keeps_evaluateTrips _
  refine ⟨_, next_whileWorking hw _, ?_⟩
  rw [if_pos due, settle_eq]
  dsimp only
  rw [entered.port]
  exact ⟨entered.run, entered.timeline, entered.tracker, entered.sampling, entered.engine, entered.fault, rfl, rfl⟩

/-! ## The command -/

/-- A valid REPORT ends the reception; its frame is heard, then taken by the table, then by the Timeline Unit (R58, R65, R175). -/
theorem exec_reportReceived {frame : List Byte} {h : Header} {p : ReportPayload} {s : State} (hw : s.working = true)
    (hf : receiveFilter s.port.image frame = .valid ⟨h, .report p⟩) : exec (.reportReceived frame) s =
      .next (settle (timelineReport h (deliveryLatch s) (tableReport h p (frameHeard (endReception s))))) := by
  change Host.Outcome.next _ = _
  rw [whileWorking_of_working hw]
  unfold deliver
  rw [hf]
  rfl

/-- A valid frame's header is in the ranges of the layout table (R64). -/
theorem headerInRange_of_valid {image : Image} {b : List Byte} {f : Frame} (h : receiveFilter image b = .valid f) :
    headerInRange f.header = true := by
  unfold receiveFilter at h
  dsimp only at h
  split at h
  · cases h
  split at h
  · cases h
  split at h
  · cases h
  split at h
  · cases h
  split at h
  · cases h
  next range =>
    split at h
    · cases h
    split at h <;> cases h
    simpa using range

/-- The state in which a frame just delivered is taken by the table, with SILENT clear: its reception ended, its silence 0. -/
def listened (s : State) : State := { s with
  link := { s.link with receiving := false, latch := none, receptionTimer := 0 }
  fault := { s.fault with silence := 0 } }

theorem frameHeard_endReception {s : State} (hs : s.fault.silent = false) : frameHeard (endReception s) = listened s :=
  frameHeard_of_not_silent (s := endReception s) hs

theorem listened_heard {s : State} (hs : s.fault.silent = false) : Heard (listened s) := ⟨rfl, hs⟩

/-! ## The end of a command, block by block -/

section
variable (s : State)

@[simp] theorem settle_run : (settle s).run = s.run := by rw [settle_eq]
@[simp] theorem settle_tracker : (settle s).tracker = s.tracker := by rw [settle_eq]
@[simp] theorem settle_timeline : (settle s).timeline = s.timeline := by rw [settle_eq]

end

/-! ## The join (R91) -/

/-- Settles O52: neither the fault unit nor the table moves the run state, the tracker or the join, and `listenJoin` is all that the
Timeline Unit then does. -/
theorem firstUpstreamReportJoins : Obligations.FirstUpstreamReportJoins := by
  intro frame h p s hw hl hf
  refine ⟨_, exec_reportReceived hw hf, ?_⟩
  have taken := (frameHeard_moved (endReception s)).trans (tableReport_moved h p _)
  rw [timelineReport_of_listen (taken.run.trans hl)]
  generalize tableReport h p (frameHeard (endReception s)) = x at taken
  have marked := taken.trans (setMark_tableOnly h.sender (alignedBy x.port.image.n h (deliveryLatch s)) x).moved
  generalize setMark h.sender (alignedBy x.port.image.n h (deliveryLatch s)) x = y at marked
  have timeline : y.timeline.join = s.timeline.join ∧ y.timeline.jumpPending = s.timeline.jumpPending := by
    rw [marked.timeline]
    exact ⟨rfl, rfl⟩
  obtain ⟨join, pending⟩ := timeline
  have tracker : y.tracker = s.tracker := marked.tracker
  have image : y.port.image = s.port.image := marked.image
  rw [settle_run, settle_tracker, settle_timeline]
  by_cases joins : s.timeline.join = .opened ∧ h.n = s.port.image.n ∧ h.position < s.port.image.position
  · obtain ⟨opened, hn, upstream⟩ := joins
    rw [listenJoin_of_joins (join.trans opened) (hn.trans (by rw [image])) (by rw [image]; exact upstream)]
    exact ⟨marked.run.trans hl, fun _ => ⟨by rw [← tracker]; rfl, rfl, rfl⟩, fun other => absurd ⟨opened, hn, upstream⟩ other⟩
  · rw [listenJoin_of_not (by rw [join, image]; exact joins)]
    exact ⟨marked.run.trans hl, fun j => absurd j joins, fun _ => ⟨tracker, join, pending⟩⟩

/-! ## The timing source's REPORT (R84 to R90) -/

/-- What the table leaves of a REPORT of a sender at its place: its entry acted on, and no other block touched (R96). -/
theorem tableReport_known_eq {h : Header} {p : ReportPayload} {s : State} {k : Nat} (hs : Heard s)
    (hk : slotOf s.peers.entries h.sender = some k) (hp : (peerAt s k).position = h.position) :
    let t := tableReport h p s
    t = { s with
      peers := { s.peers with entries := s.peers.entries.set k (reported s.port.image.n h p (peerAt s k)) }
      timeline := t.timeline, fault := { s.fault with livePeers := t.fault.livePeers }, port := (acted k h p s).port } := by
  obtain ⟨slot, -⟩ := peerAt_of_slotOf hk
  have rest := acted_eq h p slot
  have heard : Heard (acted k h p s) := by rw [rest]; exact hs
  rw [tableReport_known hk hp, tableChanged_of_heard heard, rest]

/-- A REPORT of the timing source leaves it the source, and records nothing (R81, R100, R101). -/
theorem tableReport_source_eq {h : Header} {p : ReportPayload} {s : State} {k : Nat} (hs : Heard s) (hn : h.n = s.port.image.n)
    (hk : slotOf s.peers.entries h.sender = some k) (hp : (peerAt s k).position = h.position)
    (active : (peerAt s k).state = .active) (matched : (peerAt s k).mismatched = false)
    (source : timingSource s.port.image.position s.peers.entries = s.timeline.source) :
    let t := tableReport h p s
    t = { s with peers := t.peers, fault := t.fault } := by
  obtain ⟨slot, -⟩ := peerAt_of_slotOf hk
  have rest := acted_eq h p slot
  have port : (acted k h p s).port = s.port := by
    rw [acted_port slot (.inl active), if_neg fun other => other.1 hn]
  have view : sourceView (reported s.port.image.n h p (peerAt s k)) = sourceView (peerAt s k) := by
    have stays := reported_state_of_not_heard (n := s.port.image.n) (h := h) (p := p) (e := peerAt s k)
      (by rw [active]; decide) (by rw [active]; decide)
    rw [reported_eq, stays]
    simp [sourceView, active, matched, hn]
  have same : judgeSource (acted k h p s) = acted k h p s := by
    refine judgeSource_of_same ?_
    rw [port, rest, timingSource_set_of_view (getElem?_peerAt slot) view]
    exact source
  have heard : Heard (acted k h p s) := by rw [rest]; exact hs
  have kept : acted k h p s = { s with peers := (acted k h p s).peers } := by
    rw [← port, rest]
  rw [tableReport_known hk hp, tableChanged_of_heard heard, same, kept]

/-- Settles O51: the table leaves the source, the Timeline Unit and the events, so `sourceReport` decides by the case of D and E. -/
theorem sourceReportMovesTheTimeline : Obligations.SourceReportMovesTheTimeline := by
  intro frame h p k s hw hr hs hf hn hk hp active matched source now
  refine ⟨_, exec_reportReceived hw hf, ?_⟩
  rw [frameHeard_endReception hs]
  have table := tableReport_source_eq (p := p) (listened_heard hs) hn hk hp active matched (source.trans now.symm)
  generalize deliveryLatch s = l
  generalize tableReport h p (listened s) = x at table
  rw [timelineReport_of_source (by rw [table]; exact hr) (by rw [table]; exact hn) (by rw [table]; exact now)]
  have mark := setMark_eq h.sender (alignedBy x.port.image.n h l) x
  generalize setMark h.sender (alignedBy x.port.image.n h l) x = y at mark
  have kept : y = { s with link := y.link, peers := y.peers, fault := y.fault } := by
    rw [mark, table]
    rfl
  have tracker : y.tracker = s.tracker := by rw [kept]
  have timeline : y.timeline = s.timeline := by rw [kept]
  have port : y.port = s.port := by rw [kept]
  have assessment : y.detector.assessment = s.detector.assessment := by rw [kept]
  have n : y.port.image.n = h.n := by rw [port, hn]
  have error : withError h l y = { s.timeline with sourceError := some ⟨epochError h l, timelineError h.n h l⟩ } := by
    unfold withError
    rw [timeline, n]
  obtain ⟨-, -, -, (length : 4 ≤ h.n), -⟩ := headerInRange_iff.mp (headerInRange_of_valid hf)
  rw [settle_tracker, settle_timeline, settle_port, ← assessment]
  refine ⟨by rw [sourceReport_eq, error]; rfl, by rw [sourceReport_eq, error], fun far calm => ?_, fun far upset => ?_,
    fun hd he near => ?_, fun hd he => ?_⟩
  · rw [sourceReport_jumps (by rw [n]; exact errorCase_jump far) calm, error, tracker]
    exact ⟨rfl, rfl, rfl, port⟩
  · rw [sourceReport_defers (by rw [n]; exact errorCase_jump far) upset, error, timeline]
    refine ⟨tracker, rfl, rfl, fun already => ?_, fun first => ?_⟩
    · dsimp only
      rw [if_pos already, port]
    · dsimp only
      rw [if_neg (by simp [first])]
      exact record_port_congr _ _ _ _ (by rw [tracker]) port
  · have off := errorCase_slew hd he near
    by_cases held : s.timeline.slewGuard = true ∨ s.timeline.jumpPending ≠ none
    · rw [sourceReport_held (by rw [n]; exact off) (by rw [timeline]; exact held), error]
      refine ⟨rfl, rfl, fun guard free => ?_, fun _ => ⟨rfl, tracker⟩⟩
      rcases held with h | h
      · exact absurd (guard.symm.trans h) (by decide)
      · exact absurd free h
    · obtain ⟨guard, free⟩ := not_or.mp held
      rw [sourceReport_slews (by rw [n]; exact off) (by rw [timeline]; exact Bool.eq_false_iff.mpr guard)
        (by rw [timeline]; exact not_not.mp free), error, tracker, n]
      exact ⟨rfl, rfl, fun _ _ => ⟨rfl, rfl⟩, fun h => absurd h held⟩
  · have near : (timelineError h.n h l).natAbs < 32 * h.n := lt_of_le_of_lt he (by omega)
    rw [sourceReport_steady (by rw [n]; exact errorCase_steady hd he near), error]
    exact ⟨rfl, rfl, rfl, tracker⟩

end Sys2Proof.Machine

/-! The slot for a newcomer (R98): the first FREE one, else the farthest unpinned LOST, STALE, or ACTIVE or HEARD entry. -/

namespace Sys2Proof.Machine

/-- How far an entry lies from the own position (R98). -/
def distance (own : Nat) (e : PeerEntry) : Nat := max own e.position - min own e.position

theorem absDiff_eq (a b : Nat) : absDiff a b = max b a - min b a := by
  unfold absDiff
  omega

/-- `x` is no better a place to evict than `y`: it lies nearer, or as far at no higher position (R98). -/
def NoFarther (own : Nat) (x y : PeerEntry) : Prop :=
  distance own x < distance own y ∨ (distance own x = distance own y ∧ x.position ≤ y.position)

theorem NoFarther.refl (own : Nat) (x : PeerEntry) : NoFarther own x x := .inr ⟨rfl, le_rfl⟩

theorem NoFarther.trans {own : Nat} {x y z : PeerEntry} (h : NoFarther own x y) (k : NoFarther own y z) : NoFarther own x z := by
  unfold NoFarther at *
  omega

/-- Of two slots the farther is one of them, and neither is farther than it. -/
theorem farther_some (own : Nat) (b x : Nat × PeerEntry) : ∃ y, farther own (some b) x = some y ∧ (y = b ∨ y = x) ∧
    NoFarther own b.2 y.2 ∧ NoFarther own x.2 y.2 := by
  have better : (absDiff b.2.position own < absDiff x.2.position own ||
      (absDiff b.2.position own = absDiff x.2.position own && b.2.position < x.2.position)) = true ↔
      ¬ NoFarther own x.2 b.2 := by
    simp only [absDiff_eq, NoFarther, distance, Bool.or_eq_true, Bool.and_eq_true, decide_eq_true_eq]
    omega
  dsimp only [farther]
  by_cases h : NoFarther own x.2 b.2
  · rw [if_neg fun c => better.mp c h]
    exact ⟨b, rfl, .inl rfl, .refl own _, h⟩
  · rw [if_pos (better.mpr h)]
    refine ⟨x, rfl, .inr rfl, ?_, .refl own _⟩
    unfold NoFarther at *
    omega

/-- What a search for the farthest slot finds, begun with a slot. -/
theorem foldl_farther_some (own : Nat) (l : List (Nat × PeerEntry)) (b : Nat × PeerEntry) :
    ∃ y, l.foldl (farther own) (some b) = some y ∧ (y = b ∨ y ∈ l) ∧ NoFarther own b.2 y.2 ∧ ∀ x ∈ l, NoFarther own x.2 y.2 := by
  induction l generalizing b with
  | nil => exact ⟨b, rfl, .inl rfl, .refl own _, nofun⟩
  | cons x l ih =>
    obtain ⟨c, hc, one, fromB, fromX⟩ := farther_some own b x
    obtain ⟨y, hy, mem, fromC, rest⟩ := ih c
    refine ⟨y, by rw [List.foldl_cons, hc, hy], ?_, fromB.trans fromC, List.forall_mem_cons.mpr ⟨fromX.trans fromC, rest⟩⟩
    rcases mem with rfl | mem
    · exact one.imp id fun h => List.mem_cons.mpr (.inl h)
    · exact .inr (List.mem_cons_of_mem x mem)

theorem mem_slotsFrom {p : PeerEntry → Bool} {es : List PeerEntry} {i : Nat} {x : Nat × PeerEntry} :
    x ∈ slotsFrom p i es ↔ ∃ j, x.1 = i + j ∧ es[j]? = some x.2 ∧ p x.2 = true := by
  induction es generalizing i with
  | nil => simp [slotsFrom]
  | cons e es ih =>
    have tail : (∃ j, x.1 = i + 1 + j ∧ es[j]? = some x.2 ∧ p x.2 = true) ↔
        ∃ j, x.1 = i + (j + 1) ∧ (e :: es)[j + 1]? = some x.2 ∧ p x.2 = true := by
      simp only [List.getElem?_cons_succ, Nat.add_assoc, Nat.add_comm 1]
    have head : (∃ j, x.1 = i + j ∧ (e :: es)[j]? = some x.2 ∧ p x.2 = true) ↔
        (x = (i, e) ∧ p e = true) ∨ x ∈ slotsFrom p (i + 1) es := by
      rw [ih, tail]
      constructor
      · rintro ⟨_ | j, slot, entry, meets⟩
        · obtain rfl : e = x.2 := by simpa using entry
          exact .inl ⟨Prod.ext slot rfl, meets⟩
        · exact .inr ⟨j, slot, entry, meets⟩
      · rintro (⟨rfl, meets⟩ | ⟨j, found⟩)
        · exact ⟨0, rfl, rfl, meets⟩
        · exact ⟨j + 1, found⟩
    have unfolded : slotsFrom p i (e :: es) = if p e then (i, e) :: slotsFrom p (i + 1) es else slotsFrom p (i + 1) es := rfl
    rw [head, unfolded]
    by_cases he : p e = true <;> simp [he]

/-- The farthest unpinned entry of a sort is the one to be evicted among them (R98). -/
theorem farthestSlot_some {own : Nat} {p : PeerEntry → Bool} {sort : PeerEntry → Prop} (hp : ∀ e, p e = true ↔ sort e)
    {es : List PeerEntry} {x : Nat × PeerEntry} (h : farthestSlot own p es = some x) :
    es[x.1]? = some x.2 ∧ Evictable own sort es x.1 := by
  have member : ∀ y, y ∈ slotsFrom (fun e => p e && e.pinned = 0) 0 es ↔ es[y.1]? = some y.2 ∧ sort y.2 ∧ y.2.pinned = 0 := by
    intro y
    simp [mem_slotsFrom, hp]
  unfold farthestSlot at h
  cases hl : slotsFrom (fun e => p e && e.pinned = 0) 0 es with
  | nil => rw [hl] at h; cases h
  | cons b l =>
    rw [hl] at h member
    obtain ⟨y, hy, one, fromB, rest⟩ := foldl_farther_some own l b
    obtain rfl : y = x := Option.some.inj (hy.symm.trans h)
    obtain ⟨slot, sorted, free⟩ := (member y).mp (List.mem_cons.mpr one)
    refine ⟨slot, y.2, slot, sorted, free, fun z mem hz unpinned => ?_⟩
    obtain ⟨j, hj⟩ := List.mem_iff_getElem?.mp mem
    have found := (member (j, z)).mpr ⟨hj, hz, unpinned⟩
    exact (List.forall_mem_cons (p := fun z => NoFarther own z.2 y.2)).mpr ⟨fromB, rest⟩ (j, z) found

/-- There is none only where every entry of the sort is pinned. -/
theorem farthestSlot_none {own : Nat} {p : PeerEntry → Bool} {sort : PeerEntry → Prop} (hp : ∀ e, p e = true ↔ sort e)
    {es : List PeerEntry} (h : farthestSlot own p es = none) : ∀ x ∈ es, sort x → 0 < x.pinned := by
  intro x mem hx
  obtain ⟨j, hj⟩ := List.mem_iff_getElem?.mp mem
  by_contra unpinned
  have found : (j, x) ∈ slotsFrom (fun e => p e && e.pinned = 0) 0 es :=
    mem_slotsFrom.mpr ⟨j, (Nat.zero_add j).symm, hj, by simpa [(hp x).mpr hx] using unpinned⟩
  unfold farthestSlot at h
  cases hl : slotsFrom (fun e => p e && e.pinned = 0) 0 es with
  | nil => rw [hl] at found; cases found
  | cons b l =>
    obtain ⟨y, hy, -⟩ := foldl_farther_some own l b
    rw [hl] at h
    exact absurd (h.symm.trans hy) nofun

section
variable {own position k : Nat} {es : List PeerEntry}

theorem findFree_some (h : findIndex (fun e : PeerEntry => decide (e.state = .free)) es = some k) :
    (∃ e, es[k]? = some e ∧ e.state = .free) ∧ ∀ j e, j < k → es[j]? = some e → ¬ e.state = .free := by
  obtain ⟨e, slot, free, before⟩ := findIndex_some h
  exact ⟨⟨e, slot, of_decide_eq_true free⟩, fun j e hj he => of_decide_eq_false (before j hj e he)⟩

theorem findFree_none (h : findIndex (fun e : PeerEntry => decide (e.state = .free)) es = none) : ∀ x ∈ es, ¬ x.state = .free := by
  rw [findIndex_eq_findIdx?, List.findIdx?_eq_none_iff] at h
  exact fun x mem => of_decide_eq_false (h x mem)

/-- Every entry of a sort is pinned (R98). -/
def AllPinned (sort : PeerEntry → Prop) (es : List PeerEntry) : Prop := ∀ x ∈ es, sort x → 0 < x.pinned

theorem live_iff (e : PeerEntry) : (decide (e.state = .active) || decide (e.state = .heard)) = true ↔
    e.state = .active ∨ e.state = .heard := by
  rw [Bool.or_eq_true, decide_eq_true_eq, decide_eq_true_eq]

/-- With no FREE slot, and every LOST and STALE entry pinned, the farthest live entry is evicted for a newcomer that is nearer. -/
theorem chooseSlot_live (free : findIndex (fun e : PeerEntry => decide (e.state = .free)) es = none)
    (lost : farthestSlot own (fun e => decide (e.state = .lost)) es = none)
    (stale : farthestSlot own (fun e => decide (e.state = .stale)) es = none) :
    chooseSlot own position es = match farthestSlot own (fun e => e.state = .active || e.state = .heard) es with
      | some (k, e) => if absDiff position own < absDiff e.position own then some k else none
      | none => none := by
  unfold chooseSlot
  rw [free, lost, stale]
  rfl

/-- The slot that R98 chooses, by what the table holds. -/
theorem chooseSlot_some (h : chooseSlot own position es = some k) :
    ((∃ e, es[k]? = some e ∧ e.state = .free) ∧ ∀ j e, j < k → es[j]? = some e → ¬ e.state = .free) ∨
    ((∀ x ∈ es, ¬ x.state = .free) ∧ (Evictable own (fun e => e.state = .lost) es k ∨
      (AllPinned (fun e => e.state = .lost) es ∧ (Evictable own (fun e => e.state = .stale) es k ∨
        (AllPinned (fun e => e.state = .stale) es ∧ Evictable own (fun e => e.state = .active ∨ e.state = .heard) es k ∧
          ∃ e, es[k]? = some e ∧ max own position - min own position < max own e.position - min own e.position))))) := by
  cases free : findIndex (fun e : PeerEntry => decide (e.state = .free)) es with
  | some j =>
    obtain rfl : j = k := by simpa [chooseSlot, free] using h
    exact .inl (findFree_some free)
  | none =>
    refine .inr ⟨findFree_none free, ?_⟩
    cases lost : farthestSlot own (fun e => decide (e.state = .lost)) es with
    | some x =>
      obtain rfl : x.1 = k := by simpa [chooseSlot, free, lost] using h
      exact .inl (farthestSlot_some (fun _ => decide_eq_true_iff) lost).2
    | none =>
      refine .inr ⟨farthestSlot_none (fun _ => decide_eq_true_iff) lost, ?_⟩
      cases stale : farthestSlot own (fun e => decide (e.state = .stale)) es with
      | some x =>
        obtain rfl : x.1 = k := by simpa [chooseSlot, free, lost, stale] using h
        exact .inl (farthestSlot_some (fun _ => decide_eq_true_iff) stale).2
      | none =>
        refine .inr ⟨farthestSlot_none (fun _ => decide_eq_true_iff) stale, ?_⟩
        rw [chooseSlot_live free lost stale] at h
        split at h
        · next j e live =>
          split at h
          · next nearer =>
            cases h
            obtain ⟨slot, evictable⟩ := farthestSlot_some live_iff live
            exact ⟨evictable, e, slot, by rwa [absDiff_eq, absDiff_eq] at nearer⟩
          · cases h
        · cases h

/-- No slot is chosen only where none is FREE, every LOST and STALE entry is pinned, and no live one lies farther than the newcomer. -/
theorem chooseSlot_none (h : chooseSlot own position es = none) : (∀ x ∈ es, ¬ x.state = .free) ∧
    AllPinned (fun e => e.state = .lost) es ∧ AllPinned (fun e => e.state = .stale) es ∧
    ∀ x ∈ es, (x.state = .active ∨ x.state = .heard) → x.pinned = 0 →
      max own x.position - min own x.position ≤ max own position - min own position := by
  obtain ⟨free, lost, stale, -⟩ := by simpa only [chooseSlot, Option.or_eq_none_iff, Option.map_eq_none_iff] using h
  refine ⟨findFree_none free, farthestSlot_none (fun _ => decide_eq_true_iff) lost,
    farthestSlot_none (fun _ => decide_eq_true_iff) stale, fun x mem hx unpinned => ?_⟩
  rw [chooseSlot_live free lost stale] at h
  split at h
  · next j e live =>
    split at h
    · cases h
    · next nearer =>
      obtain ⟨slot, e', slot', -, -, farthest⟩ := farthestSlot_some live_iff live
      obtain rfl : e = e' := Option.some.inj (slot.symm.trans slot')
      have far := farthest x mem hx unpinned
      rw [absDiff_eq, absDiff_eq] at nearer
      dsimp only at far
      omega
  · next live => exact absurd unpinned (farthestSlot_none live_iff live x mem hx).ne'

/-- A slot chosen exists. -/
theorem chooseSlot_lt (h : chooseSlot own position es = some k) : k < es.length := by
  have slot : ∀ e, es[k]? = some e → k < es.length := fun e he => (List.getElem?_eq_some_iff.mp he).1
  rcases chooseSlot_some h with ⟨⟨e, he, -⟩, -⟩ | ⟨-, ⟨e, he, -⟩ | ⟨-, ⟨e, he, -⟩ | ⟨-, ⟨e, he, -⟩, -⟩⟩⟩ <;> exact slot e he

end

end Sys2Proof.Machine

/-! A REPORT of a newcomer, of a sender that has moved (R97 to R99) and of a sender at its place (R100 to R105): what each leaves
of the part; the statement O49. -/

namespace Sys2Proof.Machine

/-! ## What a REPORT leaves, and where its mark goes -/

/-- The re-judging and the Timeline Unit move no table but for the mark, and record no event but for the timing source. -/
theorem settled_timelineReport (h : Header) (l : Stamp) (s : State) :
    let t := settle (timelineReport h l s)
    t = { s with
      tracker := { s.tracker with jump := t.tracker.jump, slew := t.tracker.slew }
      peers := (setMark h.sender (alignedBy s.port.image.n h l) s).peers
      timeline := t.timeline, port := t.port, link := t.link } ∧
    (s.timeline.source ≠ some h.sender → t.port = s.port) := by
  obtain ⟨rest, quiet⟩ := timelineReport_eq h l s
  refine ⟨?_, fun other => by rw [settle_port]; exact quiet other⟩
  rw [settle_tracker, settle_timeline, settle_port]
  exact (settle_eq _).trans (by rw [rest])

section
variable {h : Header} {p : ReportPayload} {s : State} {k : Nat}

/-- The part after a valid REPORT, with SILENT clear. -/
def reportTaken (h : Header) (p : ReportPayload) (s : State) : State :=
  settle (timelineReport h (deliveryLatch s) (tableReport h p (listened s)))

theorem exec_reportReceived_of_not_silent {frame : List Byte} (hw : s.working = true) (hs : s.fault.silent = false)
    (hf : receiveFilter s.port.image frame = .valid ⟨h, .report p⟩) :
    exec (.reportReceived frame) s = .next (reportTaken h p s) := by
  rw [exec_reportReceived hw hf, frameHeard_endReception hs]
  rfl

/-- A REPORT leaves the blocks that it is not for; its mark aside, the table of the Peer Table's own part stands; and so do the
events of that part, but for the timing source. -/
theorem reportTaken_kept (hs : s.fault.silent = false) :
    let x := tableReport h p (listened s)
    let t := reportTaken h p s
    (t.detector = s.detector ∧ t.register = s.register ∧ t.linkage = s.linkage) ∧
    t.peers = (setMark h.sender (alignedBy s.port.image.n h (deliveryLatch s)) x).peers ∧
    (timingSource s.port.image.position x.peers.entries ≠ some h.sender → t.port = x.port) := by
  intro x t
  have moved := tableReport_moved h p (listened s)
  have source := tableReport_source (listened_heard hs) h p
  have image : x.port.image = s.port.image := moved.image
  obtain ⟨rest, quiet⟩ := settled_timelineReport h (deliveryLatch s) x
  have kept := moved.rest (listened_heard hs)
  refine ⟨⟨?_, ?_, ?_⟩, ?_, fun other => quiet (source ▸ other)⟩
  · exact (congrArg State.detector rest :).trans (congrArg State.detector kept :)
  · exact (congrArg State.register rest :).trans (congrArg State.register kept :)
  · exact (congrArg State.linkage rest :).trans (congrArg State.linkage kept :)
  · rw [← image]
    exact (congrArg State.peers rest :)

/-- A REPORT that leaves its sender unknown has no mark to set and no timeline to move. -/
theorem reportTaken_of_unknown (hs : s.fault.silent = false)
    (unknown : slotOf (tableReport h p (listened s)).peers.entries h.sender = none) :
    (reportTaken h p s).peers = (tableReport h p (listened s)).peers ∧
    (reportTaken h p s).port = (tableReport h p (listened s)).port := by
  obtain ⟨-, peers, port⟩ := reportTaken_kept (h := h) (p := p) hs
  exact ⟨by rw [peers, setMark_of_unknown unknown], port (timingSource_ne_of_unknown unknown)⟩

/-- A REPORT that leaves an entry in its sender's slot sets the mark there. -/
theorem reportTaken_marks {es : List PeerEntry} {x : PeerEntry} (hs : s.fault.silent = false)
    (entries : (tableReport h p (listened s)).peers.entries = es.set k x) (hk : k < es.length) (hx : HeldAs h.sender x)
    (slot : slotOf es h.sender = none ∨ slotOf es h.sender = some k) :
    peerAt (reportTaken h p s) k = { x with aligned := alignedBy s.port.image.n h (deliveryLatch s) } ∧
    (reportTaken h p s).peers = { (tableReport h p (listened s)).peers with
      entries := es.set k { x with aligned := (peerAt (reportTaken h p s) k).aligned } } := by
  obtain ⟨-, peers, -⟩ := reportTaken_kept (h := h) (p := p) hs
  have marked := peers.trans (setMark_peers entries hk hx slot _)
  have there : peerAt (reportTaken h p s) k = { x with aligned := alignedBy s.port.image.n h (deliveryLatch s) } :=
    peerAt_of_set (by rw [marked]) hk
  exact ⟨there, by rw [there]; exact marked⟩

/-! ## The table's own part -/

theorem tableChanged_table (hs : Heard s) : (tableChanged s).peers = s.peers ∧ (tableChanged s).port = s.port := by
  rw [tableChanged_of_heard hs]
  exact ⟨rfl, rfl⟩

theorem firstReportEntry_heldAs (n : Nat) (h : Header) (p : ReportPayload) : HeldAs h.sender (firstReportEntry n h p) :=
  ⟨fun free : PeerState.heard = .free => (nomatch free), rfl⟩

theorem firstReportEntry_quiet (n : Nat) (h : Header) (p : ReportPayload) : (firstReportEntry n h p).state ≠ .active :=
  fun active : PeerState.heard = .active => nomatch active

/-- The first REPORT of a new or reset entry, with the event of a MISMATCHED flag that it newly sets (R100). -/
theorem tableReport_first {v : State} {mismatched : Bool} {flags : BitVec 8} (hv : Heard v)
    (eq : tableReport h p s = tableChanged (acted k h p v)) (hk : k < v.peers.entries.length)
    (new : peerAt v k = { newcomer h.sender h.position with mismatched := mismatched, flags := flags }) :
    (tableReport h p s).peers = { v.peers with entries := v.peers.entries.set k (firstReportEntry v.port.image.n h p) } ∧
    (tableReport h p s).port = (if h.n ≠ v.port.image.n ∧ mismatched = false
      then record v .configMismatch (.station h.sender) none (.value h.n) else v).port := by
  have first : reported v.port.image.n h p (peerAt v k) = firstReportEntry v.port.image.n h p := by rw [new, reported_newcomer]
  have heard : Heard (acted k h p v) := by rw [acted_eq h p hk]; exact hv
  obtain ⟨peers, port⟩ := tableChanged_table heard
  have quiet : (reported v.port.image.n h p (peerAt v k)).state ≠ .active := by rw [first]; exact firstReportEntry_quiet _ h p
  rw [eq, peers, port, acted_port hk (.inr quiet), acted_eq h p hk, first, new]
  exact ⟨rfl, rfl⟩

/-- A REPORT that acts on no entry leaves the table and the events as its own part of the table does. -/
theorem reportTaken_of_idle {v : State} (hs : s.fault.silent = false) (hv : Heard v)
    (eq : tableReport h p (listened s) = tableChanged v) (unknown : slotOf v.peers.entries h.sender = none) :
    (reportTaken h p s).peers = v.peers ∧ (reportTaken h p s).port = v.port := by
  obtain ⟨peers, port⟩ := tableChanged_table hv
  rw [← eq] at peers port
  obtain ⟨peers', port'⟩ := reportTaken_of_unknown hs (by rw [peers]; exact unknown)
  exact ⟨peers'.trans peers, port'.trans port⟩

/-- A REPORT that is the first of the entry just put into a slot. -/
theorem reportTaken_of_first {v : State} {es : List PeerEntry} {mismatched : Bool} {flags : BitVec 8}
    (hs : s.fault.silent = false) (hv : Heard v) (image : v.port.image = s.port.image)
    (eq : tableReport h p (listened s) = tableChanged (acted k h p v)) (hk : k < es.length)
    (entries : v.peers.entries =
      es.set k { newcomer h.sender h.position with mismatched := mismatched, flags := flags })
    (slot : slotOf es h.sender = none ∨ slotOf es h.sender = some k) (only : ∀ j e, es[j]? = some e → HeldAs h.sender e → j = k) :
    (reportTaken h p s).peers = { v.peers with
      entries := es.set k
        { firstReportEntry s.port.image.n h p with aligned := (peerAt (reportTaken h p s) k).aligned } } ∧
    (reportTaken h p s).port = (if h.n ≠ s.port.image.n ∧ mismatched = false
      then record v .configMismatch (.station h.sender) none (.value h.n) else v).port := by
  obtain ⟨peers, port⟩ := tableReport_first hv eq (by rw [entries, List.length_set]; exact hk) (peerAt_of_set entries hk)
  rw [entries, List.set_set] at peers
  obtain ⟨-, marked⟩ := reportTaken_marks (es := es) hs (by rw [peers]) hk (firstReportEntry_heldAs _ h p) slot
  obtain ⟨-, -, quiet⟩ := reportTaken_kept (h := h) (p := p) hs
  refine ⟨by rw [marked, peers, image], ?_⟩
  rw [quiet (by rw [peers]; exact timingSource_set_ne (firstReportEntry_quiet _ h p) only), port, image]

end

/-! ## A newcomer (R97, R98) -/

theorem conflictAdd_of_new {id : Nat} {l : List Nat} (new : id ∉ l) (room : l.length ≤ 8) :
    conflictAdd id l = (l ++ [id]).drop (l.length - 7) := by
  unfold conflictAdd Config.conflictListSize
  rw [if_neg (by simpa using new)]
  split
  · next h => rw [show l.length - 7 = 0 by omega, List.drop_zero]
  · next h =>
    obtain ⟨x, l, rfl⟩ := List.exists_cons_of_length_pos (l := l) (by omega)
    rw [show (x :: l).length - 7 = 1 by omega]
    rfl

section
variable {h : Header} {p : ReportPayload} {s : State} {k : Nat}

/-- The event of a slot's eviction for a newcomer, where its entry was neither FREE nor LOST (R98). -/
def evictionRecorded (k : Nat) (s : State) : State :=
  if (peerAt s k).state = .free ∨ (peerAt s k).state = .lost then s
  else record s .peerLost (.station (peerAt s k).id) none (.named .evicted)

theorem evictionRecorded_tracker (k : Nat) (s : State) : (evictionRecorded k s).tracker = s.tracker := by
  unfold evictionRecorded
  split <;> rfl

theorem evictionRecorded_listened (k : Nat) (s : State) : (evictionRecorded k (listened s)).port = (evictionRecorded k s).port := by
  unfold evictionRecorded
  rw [show peerAt (listened s) k = peerAt s k from rfl]
  split <;> rfl

theorem evict_eq (k : Nat) (s : State) : evict k s = { s with
    peers := if (peerAt s k).state = .free then s.peers else s.peers.withoutAdjacent k
    assessor := (evict k s).assessor, port := (evictionRecorded k s).port } := by
  unfold evictionRecorded
  by_cases free : (peerAt s k).state = .free
  · have same : evict k s = s := if_pos free
    rw [same, if_pos free, if_pos (.inl free)]
  · by_cases lost : (peerAt s k).state = .lost
    · have dropped : evict k s = dropAdjacent k s := (if_neg free).trans (if_pos lost)
      rw [dropped, if_neg free, if_pos (.inr lost)]
      exact dropAdjacent_eq k s
    · have recorded : evict k s = record (dropAdjacent k s) .peerLost (.station (peerAt s k).id) none (.named .evicted) :=
        (if_neg free).trans (if_neg lost)
      rw [recorded, if_neg free, if_neg (not_or.mpr ⟨free, lost⟩), dropAdjacent_eq]
      rfl

/-- The table and the port with a newcomer seated (R97, R98, R112). -/
theorem seated_table {id position : Nat} (hk : k < s.peers.entries.length) :
    let gone := fun side : Option Nat => if (peerAt s k).state ≠ .free ∧ side = some k then none else side
    (seated k id position s).peers = { s.peers with
      entries := s.peers.entries.set k (newcomer id position), conflicts := s.peers.conflicts.filter (fun x => x ≠ id)
      adjacentUp := gone s.peers.adjacentUp, adjacentDown := gone s.peers.adjacentDown } ∧
    (seated k id position s).port = (evictionRecorded k s).port := by
  intro gone
  have evicted := evict_eq k s
  have left : (evict k s).peers = { s.peers with
      adjacentUp := gone s.peers.adjacentUp, adjacentDown := gone s.peers.adjacentDown } := by
    rw [evicted]
    by_cases free : (peerAt s k).state = .free <;> simp [gone, free, PeerTable.withoutAdjacent]
  have slot : k < (evict k s).peers.entries.length := by rw [left]; exact hk
  unfold seated
  dsimp only
  rw [modifyPeer_eq_set _ slot]
  refine ⟨?_, (congrArg State.port evicted :)⟩
  simp only [setConflicts, State.setEntries_peers]
  rw [left]

variable (hs : s.fault.silent = false) (new : slotOf s.peers.entries h.sender = none)
include hs new

theorem newcomer_listed (taken : PositionTaken s h.sender h.position) (listed : h.sender ∈ s.peers.conflicts) :
    (reportTaken h p s).peers = s.peers ∧ (reportTaken h p s).port = s.port :=
  reportTaken_of_idle (v := listened s) hs (listened_heard hs) (tableReport_listed (s := listened s) new taken listed) new

theorem newcomer_conflict (taken : PositionTaken s h.sender h.position) (unlisted : h.sender ∉ s.peers.conflicts) :
    (reportTaken h p s).peers = { s.peers with conflicts := conflictAdd h.sender s.peers.conflicts } ∧
    (reportTaken h p s).port = (record s .positionConflict (.station h.sender) none (.value h.position)).port :=
  reportTaken_of_idle
    (v := setConflicts (recordConflict h.sender h.position (listened s)) (conflictAdd h.sender s.peers.conflicts)) hs
    (listened_heard hs) (tableReport_conflict (s := listened s) new taken unlisted) new

theorem newcomer_refused (vacant : ¬ PositionTaken s h.sender h.position)
    (full : chooseSlot s.port.image.position h.position s.peers.entries = none) :
    (reportTaken h p s).peers = { s.peers with refusals := raise16 s.peers.refusals } ∧ (reportTaken h p s).port = s.port :=
  reportTaken_of_idle (v := { listened s with peers := { s.peers with refusals := raise16 s.peers.refusals } }) hs
    (listened_heard hs) (tableReport_refused (s := listened s) new vacant full) new

/-- A newcomer admitted: its entry seated, the eviction's event, and that of a MISMATCHED flag set. -/
theorem newcomer_admitted (vacant : ¬ PositionTaken s h.sender h.position)
    (hk : chooseSlot s.port.image.position h.position s.peers.entries = some k) :
    let gone := fun side : Option Nat => if (peerAt s k).state ≠ .free ∧ side = some k then none else side
    (reportTaken h p s).peers = { s.peers with
      entries := s.peers.entries.set k
        { firstReportEntry s.port.image.n h p with aligned := (peerAt (reportTaken h p s) k).aligned }
      conflicts := s.peers.conflicts.filter (fun x => x ≠ h.sender)
      adjacentUp := gone s.peers.adjacentUp, adjacentDown := gone s.peers.adjacentDown } ∧
    (reportTaken h p s).port = (if h.n = s.port.image.n then evictionRecorded k s
      else record (evictionRecorded k s) .configMismatch (.station h.sender) none (.value h.n)).port := by
  intro gone
  have slot := chooseSlot_lt hk
  obtain ⟨seats, events⟩ := seated_table (s := listened s) (id := h.sender) (position := h.position) slot
  have only : TableOnly (listened s) (seated k h.sender h.position (listened s)) :=
    ((evict_tableOnly k _).trans (modifyPeer_tableOnly _ _ _)).trans (setConflicts_tableOnly _ _)
  have heard := only.heard (listened_heard hs)
  have eq := tableReport_admitted (h := h) (p := p) (s := listened s) new vacant hk
  have moved := only.moved.trans (tableChanged_moved _)
  obtain ⟨peers, port⟩ := tableChanged_table heard
  generalize tableChanged (seated k h.sender h.position (listened s)) = v at eq moved peers port
  have table := peers.trans seats
  have recorded : v.port = (evictionRecorded k s).port := by rw [port, events, evictionRecorded_listened]
  have epoch : v.tracker.epoch = (evictionRecorded k s).tracker.epoch := by rw [moved.tracker, evictionRecorded_tracker]; rfl
  obtain ⟨peers', port'⟩ := reportTaken_of_first (mismatched := false) (flags := Init.freePeer.flags) hs
    (moved.heard (listened_heard hs)) moved.image eq slot (by rw [table]; rfl) (.inl new)
    (fun j e he held => absurd held (slotOf_eq_none_iff.mp new e (List.mem_of_getElem? he)))
  refine ⟨by rw [peers', table]; rfl, ?_⟩
  rw [port']
  by_cases hn : h.n = s.port.image.n
  · rw [if_pos hn, if_neg fun other => other.1 hn, recorded]
  · rw [if_neg hn, if_pos ⟨hn, rfl⟩]
    exact record_port_congr _ _ _ _ epoch recorded

end

/-! ## A sender that has moved (R99) -/

section
variable {h : Header} {p : ReportPayload} {s : State} {k : Nat}

/-- The table and the port with a slot left by its sender, for another place or for none (R99, R112). -/
theorem modifyPeer_dropAdjacent (f : PeerEntry → PeerEntry) (hk : k < s.peers.entries.length) :
    let t := dropAdjacent k (modifyPeer k f s)
    t.peers = ({ s.peers with entries := s.peers.entries.set k (f (peerAt s k)) } : PeerTable).withoutAdjacent k ∧
    t.port = s.port := by
  rw [modifyPeer_eq_set _ hk, dropAdjacent_eq]
  exact ⟨rfl, rfl⟩

variable (hs : s.fault.silent = false) (hk : slotOf s.peers.entries h.sender = some k)
  (away : (peerAt s k).position ≠ h.position)
include hs hk away

/-- A pinned entry keeps its place and takes the mark alone; the conflict is recorded. -/
theorem moved_pinned (pinned : 0 < (peerAt s k).pinned) :
    (reportTaken h p s).peers = { s.peers with
      entries := s.peers.entries.set k { peerAt s k with aligned := (peerAt (reportTaken h p s) k).aligned } } ∧
    (timingSource s.port.image.position s.peers.entries ≠ some h.sender → (reportTaken h p s).port =
      (record s .positionConflict (.station h.sender) none (.value h.position)).port) := by
  obtain ⟨slot, held⟩ := peerAt_of_slotOf hk
  have eq := tableReport_pinned (p := p) (s := listened s) hk away pinned
  obtain ⟨peers, port⟩ := tableChanged_table (s := recordConflict h.sender h.position (listened s)) (listened_heard hs)
  rw [← eq] at peers port
  obtain ⟨-, -, quiet⟩ := reportTaken_kept (h := h) (p := p) hs
  obtain ⟨-, marked⟩ := reportTaken_marks (es := s.peers.entries) hs
    (by rw [peers]; exact (entries_set_peerAt slot).symm) slot held (.inr hk)
  refine ⟨by rw [marked, peers]; rfl, fun other => ?_⟩
  rw [quiet (by rw [peers]; exact other), port]
  rfl

/-- An unpinned entry is given back where the new place is taken. -/
theorem moved_freed (free : (peerAt s k).pinned = 0) (taken : PositionTaken s h.sender h.position)
    (only : ∀ j e, s.peers.entries[j]? = some e → HeldAs h.sender e → j = k) :
    (reportTaken h p s).peers = { s.peers.withoutAdjacent k with
      entries := s.peers.entries.set k Init.freePeer, conflicts := conflictAdd h.sender s.peers.conflicts } ∧
    (reportTaken h p s).port = (record s .positionConflict (.station h.sender) none (.value h.position)).port := by
  obtain ⟨slot, -⟩ := peerAt_of_slotOf hk
  have left := freeSlot_tableOnly k (listened s)
  obtain ⟨peers, port⟩ := modifyPeer_dropAdjacent (s := listened s) (fun _ => Init.freePeer) slot
  have eq := tableReport_freed (p := p) (s := listened s) hk away free taken
  change (freeSlot k (listened s)).peers = _ at peers
  change (freeSlot k (listened s)).port = _ at port
  generalize freeSlot k (listened s) = u at left peers port eq
  have conflicted : (setConflicts (recordConflict h.sender h.position u)
      (conflictAdd h.sender (recordConflict h.sender h.position u).peers.conflicts)).peers = { s.peers.withoutAdjacent k with
        entries := s.peers.entries.set k Init.freePeer, conflicts := conflictAdd h.sender s.peers.conflicts } := by
    change { u.peers with conflicts := conflictAdd h.sender u.peers.conflicts } = _
    rw [peers]
    rfl
  have heard : Heard (setConflicts (recordConflict h.sender h.position u)
    (conflictAdd h.sender (recordConflict h.sender h.position u).peers.conflicts)) := left.heard (listened_heard hs)
  obtain ⟨peers', port'⟩ := tableChanged_table heard
  rw [conflicted] at peers'
  obtain ⟨final, events⟩ := reportTaken_of_idle hs ((tableChanged_moved _).heard heard) eq
    (by rw [peers']; exact slotOf_set_free only)
  refine ⟨final.trans peers', ?_⟩
  rw [events, port']
  exact record_port_congr _ _ _ _ (by rw [left.rest]; rfl) (by rw [port]; rfl)

/-- It is reset, and taken as a newcomer's, where the new place is free. -/
theorem moved_reset (free : (peerAt s k).pinned = 0) (vacant : ¬ PositionTaken s h.sender h.position)
    (only : ∀ j e, s.peers.entries[j]? = some e → HeldAs h.sender e → j = k) :
    (reportTaken h p s).peers = { s.peers.withoutAdjacent k with
      entries := s.peers.entries.set k
        { firstReportEntry s.port.image.n h p with aligned := (peerAt (reportTaken h p s) k).aligned } } ∧
    (reportTaken h p s).port = (if h.n ≠ s.port.image.n ∧ (peerAt s k).mismatched = false
      then record s .configMismatch (.station h.sender) none (.value h.n) else s).port := by
  obtain ⟨slot, -⟩ := peerAt_of_slotOf hk
  obtain ⟨reset, events⟩ := modifyPeer_dropAdjacent (s := listened s) (resetEntry h.sender h.position) slot
  have eq := tableReport_reset (p := p) (s := listened s) hk away free vacant
  have left : TableOnly (listened s) (dropAdjacent k (modifyPeer k (resetEntry h.sender h.position) (listened s))) :=
    (modifyPeer_tableOnly k _ _).trans (dropAdjacent_tableOnly k _)
  have moved := left.moved.trans (tableChanged_moved _)
  obtain ⟨peers, port⟩ := tableChanged_table (left.heard (listened_heard hs))
  generalize tableChanged (dropAdjacent k (modifyPeer k (resetEntry h.sender h.position) (listened s))) = v at eq moved peers port
  have table := peers.trans reset
  obtain ⟨peers', port'⟩ := reportTaken_of_first (mismatched := (peerAt s k).mismatched) (flags := (peerAt s k).flags) hs
    (moved.heard (listened_heard hs)) moved.image eq slot (by rw [table]; rfl) (.inr hk) only
  refine ⟨by rw [peers', table]; rfl, ?_⟩
  rw [port']
  split
  · exact record_port_congr _ _ _ _ (by rw [moved.tracker]; rfl) (port.trans events)
  · exact port.trans events

end

/-! ## A sender at its place (R82, R83, R100 to R105) -/

/-- Where no entry is eligible the re-judging moves posture, receiver and access alone, and draws nothing (R57, R67, R76, R78). -/
theorem settle_of_none_eligible {s : State} (none : firstEligible (judgePosture s) = none) : (settle s).link = { s.link with
    vigilant := (settle s).link.vigilant, receiverEnable := (settle s).link.receiverEnable
    access := (settle s).link.access, candidate := (settle s).link.candidate, backoff := (settle s).link.backoff } := by
  have judged : ∃ a c b, judgeAccess (judgePosture s) = (judgePosture s).setLink { (judgePosture s).link with
      access := a, candidate := c, backoff := b } := by
    unfold judgeAccess chooseCandidate
    split
    · exact ⟨_, _, _, rfl⟩
    · split
      · exact ⟨_, _, _, rfl⟩
      · rw [none]
        exact ⟨_, _, _, rfl⟩
  obtain ⟨a, c, b, judged⟩ := judged
  unfold settle
  rw [judged]
  split <;> rfl

section
variable {h : Header} {p : ReportPayload} {s : State} {k : Nat}
variable (hs : s.fault.silent = false) (hk : slotOf s.peers.entries h.sender = some k) (place : (peerAt s k).position = h.position)
include hs hk place

/-- All that the REPORT of a sender at its place moves before the re-judging: its own entry, the tracker's requests, the Timeline Unit,
the fault unit's silence and live peers, the reception and the events. -/
theorem timelineReport_known_eq :
    let y := timelineReport h (deliveryLatch s) (tableReport h p (listened s))
    y = { s with
      tracker := { s.tracker with jump := y.tracker.jump, slew := y.tracker.slew }
      peers := { s.peers with
        entries := s.peers.entries.set k
          { reported s.port.image.n h p (peerAt s k) with aligned := alignedBy s.port.image.n h (deliveryLatch s) } }
      timeline := y.timeline, port := y.port, link := (listened s).link
      fault := { s.fault with silence := 0, livePeers := y.fault.livePeers } } := by
  intro y
  obtain ⟨slot, used, id⟩ := peerAt_of_slotOf hk
  have image : (tableReport h p (listened s)).port.image = s.port.image := (tableReport_moved h p (listened s)).image
  have table := tableReport_known_eq (p := p) (listened_heard hs) hk place
  have held : HeldAs h.sender (reported s.port.image.n h p (peerAt s k)) := ⟨reported_used used, by rw [reported_eq]; exact id⟩
  have marked := setMark_peers (s := tableReport h p (listened s)) (by rw [table]; rfl) slot held (.inr hk)
    (alignedBy s.port.image.n h (deliveryLatch s))
  obtain ⟨rest, -⟩ := timelineReport_eq h (deliveryLatch s) (tableReport h p (listened s))
  change y = _ at rest
  rw [image, marked] at rest
  rw [rest]
  generalize tableReport h p (listened s) = x at table
  rw [table]
  rfl

/-- The part after such a REPORT, but for the link. -/
theorem reportTaken_known_eq :
    let t := reportTaken h p s
    t = { s with
      tracker := { s.tracker with jump := t.tracker.jump, slew := t.tracker.slew }
      peers := { s.peers with
        entries := s.peers.entries.set k
          { reported s.port.image.n h p (peerAt s k) with aligned := alignedBy s.port.image.n h (deliveryLatch s) } }
      timeline := t.timeline, port := t.port, link := t.link
      fault := { s.fault with silence := 0, livePeers := t.fault.livePeers } } := by
  intro t
  have known := timelineReport_known_eq (p := p) hs hk place
  have settled : t = { timelineReport h (deliveryLatch s) (tableReport h p (listened s)) with link := t.link } := settle_eq _
  generalize timelineReport h (deliveryLatch s) (tableReport h p (listened s)) = y at known settled
  rw [settled, known]

/-- Its link: the reception has ended, and the rest of it is what the re-judging makes of it. -/
theorem reportTaken_known_link (hw : s.working = true) : LinkSettled (listened s).link (reportTaken h p s) ∧
    (s.run = .listen ∨ s.link.sending = true ∨ (firstEligible s = none ∧ s.link.vigilant = vigilantNow s) →
      (reportTaken h p s).link = { (listened s).link with
        vigilant := (reportTaken h p s).link.vigilant, receiverEnable := (reportTaken h p s).link.receiverEnable
        access := (reportTaken h p s).link.access, candidate := (reportTaken h p s).link.candidate
        backoff := (reportTaken h p s).link.backoff }) := by
  have known := timelineReport_known_eq (p := p) hs hk place
  unfold reportTaken
  generalize timelineReport h (deliveryLatch s) (tableReport h p (listened s)) = y at known
  have link : y.link = (listened s).link := by rw [known]
  have run : y.run = s.run := by rw [known]
  have running : y.run ≠ .config := by rw [run]; exact State.working_run hw
  rw [← link]
  refine ⟨settle_linkSettled running, fun quiet => ?_⟩
  rcases quiet with listen | sending | ⟨none, vigilant⟩
  · obtain ⟨-, still, -⟩ := settle_linkSettled running
    rw [still (.inl (by rw [settle_run, run, listen]; decide))]
  · rw [settle_of_sending running (by rw [link]; exact sending)]
  · have fault : eligible { s with fault := y.fault } = eligible s :=
      eligible_of_fault rfl rfl rfl (by rw [known]) (by rw [known])
    have posture : vigilantNow y = s.link.vigilant := by rw [vigilant, known]; rfl
    have same : eligible (judgePosture y) = eligible { s with fault := y.fault } :=
      eligible_congr run posture (by rw [known]; rfl) (by rw [known]; rfl) rfl
    refine settle_of_none_eligible (Eq.trans ?_ none)
    unfold firstEligible
    rw [same, fault, show (judgePosture y).link.queue = s.link.queue by rw [known]; rfl]

/-- The entry of the sender. -/
theorem reportTaken_known_entry : peerAt (reportTaken h p s) k =
    { reported s.port.image.n h p (peerAt s k) with aligned := alignedBy s.port.image.n h (deliveryLatch s) } :=
  peerAt_of_set (by rw [reportTaken_known_eq (p := p) hs hk place]) (peerAt_of_slotOf hk).1

end

/-- A reception that has ended stays ended, whatever is handed over (R58). -/
theorem reception_ended {s t : State} (settled : LinkSettled (listened s).link t) :
    t.link.receiving = false ∧ t.link.latch = none := by
  rcases settled.moved with same | ⟨-, ended⟩
  · rw [same]
    exact ⟨rfl, rfl⟩
  · exact ended

/-! ## O49 -/

/-- Settles O49: a sender at its place by the equation of the whole part, the slots by `chooseSlot`'s searches, newcomers and moved
senders by the table's own part in each case. -/
theorem reportActsOnItsSendersEntry : Obligations.ReportActsOnItsSendersEntry := by
  refine ⟨fun frame h p k s hw hs hf hk place => ⟨_, exec_reportReceived_of_not_silent hw hs hf, ?_⟩,
    fun own position es => ⟨fun k => chooseSlot_some, chooseSlot_none⟩,
    fun frame h p s hw hs hf new room count => ⟨_, exec_reportReceived_of_not_silent hw hs hf, ?_⟩,
    fun frame h p k s hw hs hf hk away room only => ⟨_, exec_reportReceived_of_not_silent hw hs hf, ?_⟩⟩
  · have entry := reportTaken_known_entry (p := p) hs hk place
    have part := reportTaken_known_eq (p := p) hs hk place
    obtain ⟨settled, still⟩ := reportTaken_known_link (p := p) hs hk place hw
    obtain ⟨-, used, -⟩ := peerAt_of_slotOf hk
    obtain ⟨receiving, latch⟩ := reception_ended settled
    obtain ⟨window, drops, missed, expired⟩ := settled.counters
    refine ⟨?_, ?_, ?_, ?_, receiving, latch, window, drops, missed, expired, fun quiet => ?_, ?_⟩
    · intro n latch d e old new kept
      obtain ⟨invalid, other, own⟩ := ringOffer_cases n h p old.ring
      have all := reported_eq n h p old
      have ring : (reported n h p old).ring = ringOffer n h p old.ring := (congrArg PeerEntry.ring all :)
      have mismatched : (reported n h p old).mismatched = decide (h.n ≠ n) := (congrArg PeerEntry.mismatched all :)
      rw [show new = _ from entry]
      exact ⟨(congrArg PeerEntry.id all :), (congrArg PeerEntry.position all :), (congrArg PeerEntry.reportSilence all :),
        (congrArg PeerEntry.frameSilence all :), (congrArg PeerEntry.flags all :), mismatched ▸ decide_eq_true_iff,
        (congrArg PeerEntry.pinned all :), (congrArg PeerEntry.snapshot all :), reported_state_of_not_heard used,
        reported_probation, fun hi => ring.trans (invalid hi), fun hi hn => ring.trans (other hi hn),
        fun hi hn => ring.trans (own hi hn), alignedBy_iff⟩
    · intro j hj
      rw [part, List.getElem?_set_ne hj.symm]
    · rw [part]
    · rw [part]
    · rw [still quiet]
      exact ⟨rfl, rfl, rfl, rfl, rfl, rfl⟩
    · generalize reportTaken h p s = t at part
      rw [part]
      exact ⟨rfl, rfl, rfl, rfl, rfl, rfl, rfl, rfl⟩
  · obtain ⟨⟨detector, register, linkage⟩, -⟩ := reportTaken_kept (h := h) (p := p) hs
    refine ⟨detector, register, linkage, fun taken => ⟨newcomer_listed hs new taken, fun unlisted => ?_⟩, fun vacant =>
      ⟨fun full => ?_, fun k => newcomer_admitted hs new vacant⟩⟩
    · rw [← conflictAdd_of_new unlisted room]
      exact newcomer_conflict hs new taken unlisted
    · rw [← raise_eq_min count]
      exact newcomer_refused hs new vacant full
  · obtain ⟨⟨detector, register, linkage⟩, -⟩ := reportTaken_kept (h := h) (p := p) hs
    have one : ∀ j e, s.peers.entries[j]? = some e → HeldAs h.sender e → j = k := fun j e he held => only j e he held.1 held.2
    refine ⟨detector, register, linkage, moved_pinned hs hk away, fun free taken => ?_, fun free vacant => ?_⟩
    · have listed : (if h.sender ∈ s.peers.conflicts then s.peers.conflicts
          else (s.peers.conflicts ++ [h.sender]).drop (s.peers.conflicts.length - 7)) = conflictAdd h.sender s.peers.conflicts := by
        split
        · next known => exact (if_pos (by simpa using known)).symm
        · next unlisted => exact (conflictAdd_of_new unlisted room).symm
      rw [listed]
      exact moved_freed hs hk away free taken one
    · exact moved_reset hs hk away free vacant one

end Sys2Proof.Machine

/-! The adjacent peer of a side (R110, R111): what the search for the nearest slot finds; the statement O48. -/

namespace Sys2Proof.Machine

section
variable {own k : Nat} {p : PeerEntry → Bool} {sort : PeerEntry → Prop} {es : List PeerEntry}

/-- The search keeps the first of the slots at the least distance (R110). -/
theorem nearestSlot_eq_argmin (own : Nat) (p : PeerEntry → Bool) (es : List PeerEntry) :
    nearestSlot own p es = ((slotsFrom p 0 es).argmin fun x => distance own x.2).map Prod.fst := by
  have step : nearer own = List.argAux fun x b : Nat × PeerEntry => distance own x.2 < distance own b.2 := by
    funext best x
    cases best with
    | none => rfl
    | some b =>
      dsimp only [nearer, List.argAux]
      rw [absDiff_eq, absDiff_eq]
      rfl
  unfold nearestSlot List.argmin
  rw [step]

theorem mem_slotsFrom_zero (hp : ∀ e, p e = true ↔ sort e) {x : Nat × PeerEntry} :
    x ∈ slotsFrom p 0 es ↔ es[x.1]? = some x.2 ∧ sort x.2 := by
  simp [mem_slotsFrom, hp]

/-- The nearest slot of a sort holds an entry of it, and none of the sort lies nearer (R110). -/
theorem nearestSlot_some (hp : ∀ e, p e = true ↔ sort e) (h : nearestSlot own p es = some k) :
    ∃ e, es[k]? = some e ∧ sort e ∧ ∀ x ∈ es, sort x → distance own e ≤ distance own x := by
  rw [nearestSlot_eq_argmin] at h
  obtain ⟨⟨_, e⟩, least, rfl⟩ := Option.map_eq_some_iff.mp h
  obtain ⟨slot, sorted⟩ := (mem_slotsFrom_zero hp).mp (List.argmin_mem least)
  refine ⟨e, slot, sorted, fun x mem hx => ?_⟩
  obtain ⟨j, hj⟩ := List.mem_iff_getElem?.mp mem
  exact List.le_of_mem_argmin (f := fun y : Nat × PeerEntry => distance own y.2)
    ((mem_slotsFrom_zero hp (x := (j, x))).mpr ⟨hj, hx⟩) least

/-- There is none only where the table holds no entry of the sort. -/
theorem nearestSlot_none (hp : ∀ e, p e = true ↔ sort e) (h : nearestSlot own p es = none) : ∀ x ∈ es, ¬ sort x := by
  rw [nearestSlot_eq_argmin, Option.map_eq_none_iff, List.argmin_eq_none] at h
  intro x mem hx
  obtain ⟨j, hj⟩ := List.mem_iff_getElem?.mp mem
  exact List.not_mem_nil (h ▸ (mem_slotsFrom_zero hp (x := (j, x))).mpr ⟨hj, hx⟩)

end

/-- Settles O48: the search among the pinned entries of the side comes first, and the one among the usable entries only where it
finds nothing. -/
theorem adjacentPeerIsTheNearestUsable : Obligations.AdjacentPeerIsTheNearestUsable := by
  intro own side es onIt pinned usable far
  have on : ∀ e, onSide own side e = true ↔ onIt e := fun e => by
    cases side <;> simp [onSide, PeerEntry.used, onIt]
  have isPinned : ∀ e, (onSide own side e && decide (0 < e.pinned)) = true ↔ pinned e := fun e => by simp [on, pinned]
  have isUsable : ∀ e, (onSide own side e && decide (e.state = .active) && e.aligned && !e.mismatched) = true ↔ usable e :=
    fun e => by simp [on, usable, and_assoc]
  refine ⟨fun k found => ?_, fun none_ x mem => ?_⟩
  · rcases Option.or_eq_some_iff.mp found with near | ⟨unpinned, near⟩
    · obtain ⟨e, slot, held, nearest⟩ := nearestSlot_some isPinned near
      exact ⟨e, slot, .inl ⟨held, nearest⟩⟩
    · obtain ⟨e, slot, held, nearest⟩ := nearestSlot_some isUsable near
      exact ⟨e, slot, .inr ⟨nearestSlot_none isPinned unpinned, held, nearest⟩⟩
  · obtain ⟨unpinned, unusable⟩ := Option.or_eq_none_iff.mp none_
    exact ⟨nearestSlot_none isPinned unpinned x mem, nearestSlot_none isUsable unusable x mem⟩

end Sys2Proof.Machine

/-! The ends of a peer entry's counts (R102, R104, R112), and what a change of the table brings with SILENT out of play (R81, R96,
R175); the statement O47. -/

namespace Sys2Proof.Machine

/-! ## A change of the table with SILENT out of play -/

/-- SILENT stands clear, and the silence is short of what sets it (R175). -/
def Unsilent (s : State) : Prop := s.fault.silence < 10 ∧ s.fault.silent = false

theorem judgeSilent_of_unsilent {s : State} (quiet : Unsilent s) : judgeSilent s = s := by
  obtain ⟨short, clear⟩ := quiet
  have unreached : silentNow s.fault = false := by simp [silentNow, Config.silentEpochs, short.ne]
  unfold judgeSilent
  exact if_pos (unreached.trans clear.symm)

theorem judgeSource_eq (s : State) : judgeSource s = { s with timeline := (judgeSource s).timeline } := by
  unfold judgeSource
  dsimp only
  split <;> rfl

theorem tableChanged_of_unsilent {s : State} (quiet : Unsilent s) : tableChanged s = { s with
    timeline := (judgeSource s).timeline
    fault := { s.fault with livePeers := s.peers.entries.any PeerEntry.live } } := by
  dsimp only [tableChanged]
  rw [judgeSource_eq]
  exact judgeSilent_of_unsilent quiet

/-- A command that ends in a change of the table: source and live peers are judged, then the link (R57, R67, R76, R81, R96). -/
theorem settle_tableChanged {s : State} (quiet : Unsilent s) (hr : s.run ≠ .config) :
    let t := settle (tableChanged s)
    t = { s with
      timeline := (judgeSource s).timeline, link := t.link
      fault := { s.fault with livePeers := s.peers.entries.any PeerEntry.live } } ∧ LinkSettled s.link t := by
  rw [tableChanged_of_unsilent quiet]
  exact ⟨settle_eq _, settle_linkSettled hr⟩

/-! ## The counts at their ends -/

theorem staleDue_iff {e : PeerEntry} : staleDue e = true ↔ e.state = .active ∧ 5 ≤ e.reportSilence := by
  rw [staleDue, Bool.and_eq_true, decide_eq_true_eq, decide_eq_true_eq]
  rfl

theorem lostDue_iff {e : PeerEntry} : lostDue e = true ↔ e.state = .stale ∧ 20 ≤ e.reportSilence := by
  rw [lostDue, Bool.and_eq_true, decide_eq_true_eq, decide_eq_true_eq]
  rfl

theorem freeDue_iff {e : PeerEntry} : freeDue e = true ↔
    e.pinned = 0 ∧ ((e.state = .heard ∧ 20 ≤ e.frameSilence) ∨ (e.state = .lost ∧ 64 ≤ e.frameSilence)) := by
  simp only [freeDue, Bool.and_eq_true, Bool.or_eq_true, decide_eq_true_eq]
  rfl

theorem probationPassed_iff {e : PeerEntry} : probationPassed e = true ↔
    e.state = .heard ∧ 0 < e.tally ∧ e.tally < 3 ∧ 6 ≤ e.age := by
  simp only [probationPassed, Bool.and_eq_true, decide_eq_true_eq, and_assoc]
  rfl

theorem closeProbation_of_passed {e : PeerEntry} (passed : probationPassed e = true) :
    closeProbation e = { e with tally := 0, age := 0 } := if_pos passed

/-! ## The commands -/

section
variable {k : Fin 16} {s : State}

theorem exec_probationWindowPassed (hw : s.working = true) :
    exec (.probationWindowPassed k) s = .next (settle (modifyPeer k closeProbation s)) := next_whileWorking hw _

theorem exec_peerStale (hw : s.working = true) (due : staleDue (peerAt s k) = true) :
    exec (.peerStale k) s = .next (settle (tableChanged (modifyPeer k (fun e => { e with state := .stale }) s))) := by
  change Host.Outcome.next _ = _
  rw [whileWorking_of_working hw, if_pos due]

theorem exec_peerLost (hw : s.working = true) (due : lostDue (peerAt s k) = true) :
    exec (.peerLost k) s = .next (settle (tableChanged (loseSlot k s))) := by
  change Host.Outcome.next _ = _
  rw [whileWorking_of_working hw, if_pos due]

theorem exec_peerFreed (hw : s.working = true) (due : freeDue (peerAt s k) = true) :
    exec (.peerFreed k) s = .next (settle (tableChanged (freeSlot k s))) := by
  change Host.Outcome.next _ = _
  rw [whileWorking_of_working hw, if_pos due]

/-! ## What each end leaves -/

variable (hw : s.working = true)
include hw

/-- A passed probation window clears its own tally and age, and the table reports no change (R102). -/
theorem probationWindow_passes (slot : k.val < s.peers.entries.length) (passed : probationPassed (peerAt s k) = true) :
    let t := settle (modifyPeer k closeProbation s)
    t = { s with
      peers := { s.peers with entries := s.peers.entries.set k.val { peerAt s k with tally := 0, age := 0 } }
      link := t.link } ∧ LinkSettled s.link t := by
  rw [modifyPeer_eq_set _ slot, closeProbation_of_passed passed]
  exact ⟨settle_eq _, settle_linkSettled (State.working_run hw)⟩

variable (quiet : Unsilent s)
include quiet

/-- An entry that falls STALE counts as live still (R96, R104). -/
theorem peer_falls_stale (slot : k.val < s.peers.entries.length) :
    let es := s.peers.entries.set k.val { peerAt s k with state := .stale }
    let t := settle (tableChanged (modifyPeer k (fun e => { e with state := .stale }) s))
    t.peers = { s.peers with entries := es } ∧ t.timeline.source = timingSource s.port.image.position es ∧
    t.fault = { s.fault with livePeers := true } ∧ t.port = s.port ∧ t.tracker = s.tracker ∧ LinkSettled s.link t := by
  intro es
  rw [modifyPeer_eq_set _ slot]
  obtain ⟨part, settled⟩ := settle_tableChanged (s := s.setEntries es) quiet (State.working_run hw)
  have live : (s.setEntries es).peers.entries.any PeerEntry.live = true :=
    List.any_eq_true.mpr ⟨_, List.mem_set slot _, rfl⟩
  rw [live] at part
  exact ⟨(congrArg State.peers part :), (congrArg (fun t => t.timeline.source) part :).trans (judgeSource_source _),
    (congrArg State.fault part :), (congrArg State.port part :), (congrArg State.tracker part :), settled⟩

/-- An entry that becomes LOST is told of once (R104). -/
theorem peer_becomes_lost (slot : k.val < s.peers.entries.length) :
    let t := settle (tableChanged (loseSlot k s))
    t.peers = { s.peers with entries := s.peers.entries.set k.val { peerAt s k with state := .lost } } ∧
    t.port = (record s .peerLost (.station (peerAt s k).id) none (.named .silent)).port ∧ t.tracker = s.tracker ∧
    LinkSettled s.link t := by
  unfold loseSlot
  rw [modifyPeer_eq_set _ slot]
  obtain ⟨part, settled⟩ := settle_tableChanged (s := record (s.setEntries (s.peers.entries.set k.val
    { peerAt s k with state := .lost })) .peerLost (.station (peerAt s k).id) none (.named .silent)) quiet (State.working_run hw)
  exact ⟨(congrArg State.peers part :), (congrArg State.port part :), (congrArg State.tracker part :), settled⟩

/-- An entry given back leaves the adjacency of either side (R104, R112). -/
theorem peer_is_freed (slot : k.val < s.peers.entries.length) :
    let t := settle (tableChanged (freeSlot k s))
    t.peers = ({ s.peers with entries := s.peers.entries.set k.val Init.freePeer } : PeerTable).withoutAdjacent k.val ∧
    t.port = s.port ∧ t.tracker = s.tracker ∧ LinkSettled s.link t := by
  have left := freeSlot_tableOnly k s
  obtain ⟨peers, port⟩ := modifyPeer_dropAdjacent (fun _ => Init.freePeer) slot
  change (freeSlot k s).peers = _ at peers
  change (freeSlot k s).port = _ at port
  have fault : (freeSlot k s).fault = s.fault := by rw [left.rest]
  have run : (freeSlot k s).run = s.run := by rw [left.rest]
  have link : (freeSlot k s).link = s.link := by rw [left.rest]
  have tracker : (freeSlot k s).tracker = s.tracker := by rw [left.rest]
  obtain ⟨part, settled⟩ := settle_tableChanged (s := freeSlot k s) (by unfold Unsilent; rwa [fault])
    (by rw [run]; exact State.working_run hw)
  exact ⟨(congrArg State.peers part :).trans peers, (congrArg State.port part :).trans port,
    (congrArg State.tracker part :).trans tracker, link ▸ settled⟩

end

/-- Settles O47: each end by its command where its count has come, then by what that end leaves. -/
theorem peersAgeOut : Obligations.PeersAgeOut := by
  intro k e s hw he short clear
  obtain ⟨slot, -⟩ := List.getElem?_eq_some_iff.mp he
  obtain rfl := peerAt_eq he
  have quiet : Unsilent s := ⟨short, clear⟩
  refine ⟨fun heard opened few aged => ?_, fun active silent => ?_, fun stale silent => ?_, fun unpinned silent => ?_⟩
  · exact ⟨_, exec_probationWindowPassed hw,
      probationWindow_passes hw slot (probationPassed_iff.mpr ⟨heard, opened, few, aged⟩)⟩
  · obtain ⟨peers, source, rest⟩ := peer_falls_stale hw quiet slot
    exact ⟨_, exec_peerStale hw (staleDue_iff.mpr ⟨active, silent⟩), peers, source.trans (by rw [peers]), rest⟩
  · exact ⟨_, exec_peerLost hw (lostDue_iff.mpr ⟨stale, silent⟩), peer_becomes_lost hw quiet slot⟩
  · obtain ⟨peers, rest⟩ := peer_is_freed hw quiet slot
    exact ⟨_, exec_peerFreed hw (freeDue_iff.mpr ⟨unpinned, silent⟩), by rw [peers]; rfl, by rw [peers]; rfl,
      by rw [peers]; rfl, rest⟩

end Sys2Proof.Machine

/-! A valid ALERT of a known sender at its place (R43, R44, R68, R100, R103, R107, R113): the statement O50. -/

namespace Sys2Proof.Machine

/-! ## The end of a command, block by block -/

section
variable (s : State)

@[simp] theorem settle_peers : (settle s).peers = s.peers := by rw [settle_eq]
@[simp] theorem settle_fault : (settle s).fault = s.fault := by rw [settle_eq]
@[simp] theorem settle_detector : (settle s).detector = s.detector := by rw [settle_eq]
@[simp] theorem settle_register : (settle s).register = s.register := by rw [settle_eq]

end

/-! ## A request for a disturbance, by the assessment state (R43, R44) -/

section
variable {cause : OpenCause} {x : EventSubject} {s : State}

theorem requestDisturbance_of_calm (h : s.detector.assessment = .calm) :
    requestDisturbance cause x s = enterDisturbed cause x s.detector.reference s := by
  unfold requestDisturbance
  rw [h]

theorem requestDisturbance_of_blind (h : s.detector.assessment = .blind) :
    requestDisturbance cause x s = enterDisturbed cause x none s := by
  unfold requestDisturbance
  rw [h]

theorem requestDisturbance_of_open (h : s.detector.assessment = .disturbed ∨ s.detector.assessment = .deenergized) :
    requestDisturbance cause x s = s := by
  unfold requestDisturbance
  rcases h with h | h <;> rw [h]

/-- A request moves the Detector and the events alone. -/
theorem requestDisturbance_eq (cause : OpenCause) (x : EventSubject) (s : State) : requestDisturbance cause x s = { s with
    detector := (requestDisturbance cause x s).detector, port := (requestDisturbance cause x s).port } := by
  unfold requestDisturbance
  split <;> rfl

/-- What an opening makes of the Detector (R44). -/
theorem enterDisturbed_detector (cause : OpenCause) (x : EventSubject) (snapshot : Option EpochRecord) (s : State) :
    (enterDisturbed cause x snapshot s).detector = { s.detector with
      assessment := .disturbed, snapshot := snapshot, sequence := s.detector.sequence + 1, blindRun := 0, settle := 0
      forced := 0 } := rfl

/-- An opening is the newest of the events. -/
theorem enterDisturbed_event (cause : OpenCause) (x : EventSubject) (snapshot : Option EpochRecord) (s : State) :
    ∃ (es : List Event) (ev : Event), (enterDisturbed cause x snapshot s).port.events = es ++ [ev] ∧
      ev.kind = .disturbanceOpen ∧ ev.subject = x ∧ ev.detail = .cause cause := ⟨_, _, rfl, rfl, rfl, rfl⟩

end

/-! ## The table's part of an ALERT (R100, R103, R107) -/

/-- Two changes of a slot's entry are one. -/
theorem modifyPeer_modifyPeer {k : Nat} {s : State} (f g : PeerEntry → PeerEntry) (hk : k < s.peers.entries.length) :
    modifyPeer k f (modifyPeer k g s) = modifyPeer k (f ∘ g) s := by
  have there : peerAt (s.setEntries (s.peers.entries.set k (g (peerAt s k)))) k = g (peerAt s k) := peerAt_of_set rfl hk
  rw [modifyPeer_eq_set g hk, modifyPeer_eq_set f (by simpa using hk), there, State.setEntries_peers, List.set_set,
    modifyPeer_eq_set _ hk]
  rfl

/-- What an ALERT makes of the entry it acts on. -/
def alerted (ownN : Nat) (h : Header) (c : AlertContent) (e : PeerEntry) : PeerEntry :=
  { e with mismatched := decide (h.n ≠ ownN), frameSilence := 0, flags := h.flags, snapshot := some c }

/-- An ALERT acts on the entry of its slot: the MISMATCHED flag is judged, then the rest. -/
def alertActs (k : Nat) (h : Header) (c : AlertContent) (s : State) : State :=
  modifyPeer k (fun e => { e with snapshot := some c }) (otherActs k h (judgeMismatch k h s))

theorem alertActs_eq {k : Nat} {s : State} (h : Header) (c : AlertContent) (hk : k < s.peers.entries.length) :
    alertActs k h c s = { s with
      peers := { s.peers with entries := s.peers.entries.set k (alerted s.port.image.n h c (peerAt s k)) }
      port := (judgeMismatch k h s).port } := by
  have judged := judgeMismatch_eq h hk
  have entries : (judgeMismatch k h s).peers.entries =
      s.peers.entries.set k { peerAt s k with mismatched := decide (h.n ≠ s.port.image.n) } := by rw [judged]
  have long : k < (judgeMismatch k h s).peers.entries.length := by rw [entries, List.length_set]; exact hk
  unfold alertActs otherActs
  rw [modifyPeer_modifyPeer _ _ long, modifyPeer_eq_set _ long, peerAt_of_set entries hk, entries, List.set_set]
  generalize judgeMismatch k h s = j at judged
  rw [judged]
  rfl

section
variable {h : Header} {c : AlertContent} {s : State} {k : Nat}

/-- A sender at its place has its entry acted on; then comes the test for SYMPATHY (R113). -/
theorem tableAlert_known (hk : slotOf s.peers.entries h.sender = some k) (hp : (peerAt s k).position = h.position) :
    tableAlert h c s =
      let u := tableChanged (alertActs k h c s)
      if u.peers.adjacentUp = some k ∨ u.peers.adjacentDown = some k then
        requestDisturbance .sympathy (.station h.sender) u
      else u := by
  unfold tableAlert
  rw [findEntry_known hk hp]
  simp only [flagged, Bool.or_eq_true, decide_eq_true_eq]
  rfl

/-! ## The command -/

/-- The part once the table has taken an ALERT of the sender in a slot, before the test for SYMPATHY. -/
def alertNoted (k : Nat) (h : Header) (c : AlertContent) (s : State) : State :=
  tableChanged (alertActs k h c (setHold (listened s)))

/-- What an ALERT moves before that test: its sender's entry, the timing source, the vigilance hold and the reception, the fault
unit's silence and live peers, and the events (R58, R68, R81, R96, R103, R107, R175). -/
theorem alertNoted_eq (hs : s.fault.silent = false) (hk : k < s.peers.entries.length) :
    let u := alertNoted k h c s
    u = { s with
      peers := { s.peers with entries := s.peers.entries.set k (alerted s.port.image.n h c (peerAt s k)) }
      timeline := u.timeline, port := u.port, link := { (listened s).link with hold := Config.holdEpochs }
      fault := { s.fault with silence := 0, livePeers := u.fault.livePeers } } := by
  have acted := alertActs_eq (s := setHold (listened s)) h c hk
  have heard : Heard (alertActs k h c (setHold (listened s))) := by rw [acted]; exact listened_heard hs
  unfold alertNoted
  rw [tableChanged_of_heard heard]
  generalize alertActs k h c (setHold (listened s)) = a at acted
  rw [acted]
  rfl

/-- The part after an ALERT of the sender in a slot, but for the re-judging of the link: in an adjacent slot the Detector is asked
for a disturbance (R113). -/
def alertTaken (k : Nat) (h : Header) (c : AlertContent) (s : State) : State :=
  if s.peers.adjacentUp = some k ∨ s.peers.adjacentDown = some k then
    requestDisturbance .sympathy (.station h.sender) (alertNoted k h c s)
  else alertNoted k h c s

/-- The request leaves all else as the ALERT has made it. -/
theorem alertTaken_eq (k : Nat) (h : Header) (c : AlertContent) (s : State) : alertTaken k h c s = { alertNoted k h c s with
    detector := (alertTaken k h c s).detector, port := (alertTaken k h c s).port } := by
  unfold alertTaken
  generalize alertNoted k h c s = u
  split
  · exact requestDisturbance_eq _ _ u
  · rfl

/-- A valid ALERT ends the reception; its frame is heard, sets the hold, and is taken by the table (R58, R65, R68, R175). -/
theorem exec_alertReceived {frame : List Byte} (hw : s.working = true) (hs : s.fault.silent = false)
    (hf : receiveFilter s.port.image frame = .valid ⟨h, .alert c⟩) (hk : slotOf s.peers.entries h.sender = some k)
    (hp : (peerAt s k).position = h.position) : exec (.alertReceived frame) s = .next (settle (alertTaken k h c s)) := by
  have delivered : deliver 2 takeAlert frame s = tableAlert h c (setHold (frameHeard (endReception s))) := by
    unfold deliver
    rw [hf]
    rfl
  obtain ⟨slot, -⟩ := peerAt_of_slotOf hk
  have peers : (alertNoted k h c s).peers.adjacentUp = s.peers.adjacentUp ∧
      (alertNoted k h c s).peers.adjacentDown = s.peers.adjacentDown := by
    rw [alertNoted_eq hs slot]
    exact ⟨rfl, rfl⟩
  obtain ⟨up, down⟩ := peers
  change Host.Outcome.next _ = _
  rw [whileWorking_of_working hw, delivered, frameHeard_endReception hs, tableAlert_known (s := setHold (listened s)) hk hp]
  change Host.Outcome.next (settle (if (alertNoted k h c s).peers.adjacentUp = some k ∨
    (alertNoted k h c s).peers.adjacentDown = some k then _ else _)) = _
  rw [up, down]
  rfl

/-- A hold just set stands at its full length, whatever is handed over (R68). -/
theorem LinkSettled.hold {l : Link} {t : State} (settled : LinkSettled l t) (full : l.hold = Config.holdEpochs) :
    t.link.hold = Config.holdEpochs := by
  by_cases hs : t.link.sending = l.sending
  · rw [settled.unsent hs]
    exact full
  · obtain ⟨-, -, -, handed⟩ := settled
    obtain ⟨-, -, -, -, e, -, -, -, -, -, link⟩ := handed hs
    rw [link]

/-- The Detector, and the opening's event, after an ALERT (R43, R44, R113). -/
theorem alertTaken_detector (same : (alertNoted k h c s).detector = s.detector) :
    let t := alertTaken k h c s
    let adjacent := s.peers.adjacentUp = some k ∨ s.peers.adjacentDown = some k
    let opened := { s.detector with
      assessment := .disturbed, sequence := s.detector.sequence + 1, blindRun := 0, settle := 0, forced := 0 }
    (adjacent → s.detector.assessment = .calm → t.detector = { opened with snapshot := s.detector.reference }) ∧
    (adjacent → s.detector.assessment = .blind → t.detector = { opened with snapshot := none }) ∧
    (adjacent → s.detector.assessment = .calm ∨ s.detector.assessment = .blind →
      ∃ (es : List Event) (ev : Event), t.port.events = es ++ [ev] ∧ ev.kind = .disturbanceOpen ∧
        ev.subject = .station h.sender ∧ ev.detail = .cause .sympathy) ∧
    (adjacent → s.detector.assessment = .disturbed ∨ s.detector.assessment = .deenergized → t.detector = s.detector) ∧
    (¬ adjacent → t.detector = s.detector) := by
  intro t adjacent opened
  have asked : adjacent → t = requestDisturbance .sympathy (.station h.sender) (alertNoted k h c s) := fun near => if_pos near
  have alone : ¬ adjacent → t = alertNoted k h c s := fun far => if_neg far
  clear_value t
  generalize alertNoted k h c s = u at same asked alone
  refine ⟨fun near calm => ?_, fun near blind => ?_, fun near shut => ?_, fun near opened => ?_, fun far => ?_⟩
  · rw [asked near, requestDisturbance_of_calm (same ▸ calm), enterDisturbed_detector, same]
  · rw [asked near, requestDisturbance_of_blind (same ▸ blind), enterDisturbed_detector, same]
  · rw [asked near]
    rcases shut with calm | blind
    · rw [requestDisturbance_of_calm (same ▸ calm)]
      exact enterDisturbed_event _ _ _ u
    · rw [requestDisturbance_of_blind (same ▸ blind)]
      exact enterDisturbed_event _ _ _ u
  · rw [asked near, requestDisturbance_of_open (same ▸ opened), same]
  · rw [alone far, same]

end

/-- Settles O50: the part by `alertNoted_eq`, the Detector by the case of the request, the hold by what the re-judging can do. -/
theorem alertSetsTheSnapshotAndOpensForSympathy : Obligations.AlertSetsTheSnapshotAndOpensForSympathy := by
  intro frame h c k s hw hs hf hk hp
  refine ⟨_, exec_alertReceived hw hs hf hk hp, ?_⟩
  obtain ⟨slot, -⟩ := peerAt_of_slotOf hk
  have noted := alertNoted_eq (h := h) (c := c) hs slot
  have taken := alertTaken_eq k h c s
  have detector := alertTaken_detector (k := k) (h := h) (c := c) (s := s) (by rw [noted])
  generalize alertNoted k h c s = u at noted taken
  generalize alertTaken k h c s = v at taken detector
  obtain ⟨entries, silence, tracker, register, run, hold⟩ :
      v.peers.entries = s.peers.entries.set k (alerted s.port.image.n h c (peerAt s k)) ∧ v.fault.silence = 0 ∧
      v.tracker = s.tracker ∧ v.register = s.register ∧ v.run = s.run ∧ v.link.hold = Config.holdEpochs := by
    rw [taken, noted]
    exact ⟨rfl, rfl, rfl, rfl, rfl, rfl⟩
  have there : peerAt (settle v) k = alerted s.port.image.n h c (peerAt s k) :=
    peerAt_of_set (by rw [settle_peers, entries]) slot
  have settled : LinkSettled v.link (settle v) := settle_linkSettled (by rw [run]; exact State.working_run hw)
  rw [settle_fault, settle_tracker, settle_register, settle_peers, settle_detector, settle_port]
  exact ⟨settled.hold hold, silence, tracker, register, (congrArg PeerEntry.snapshot there :),
    (congrArg PeerEntry.frameSilence there :), (congrArg PeerEntry.flags there :), (congrArg PeerEntry.state there :),
    (congrArg PeerEntry.reportSilence there :), fun j hj => by rw [entries, List.getElem?_set_ne hj.symm], detector⟩

end Sys2Proof.Machine

/-! The Claim Register record by record (Chapter 8): which record a key finds after each operation, the pair list where no pair
enters, the series offered, and the newest event: the layer under the statements about own and heard records. -/

namespace Sys2Proof.Machine

/-! ## The record of a key (R137) -/

section
variable {rs : List ClaimRecord} {key x : ClaimKey} {r : ClaimRecord} {f : ClaimRecord → ClaimRecord}

theorem findRecord_map (hf : ∀ r, (f r).key = r.key) (rs : List ClaimRecord) (key : ClaimKey) :
    findRecord (rs.map f) key = (findRecord rs key).map f := by
  simp [findRecord, List.find?_map, hf]

/-- A change in place that keeps the key changes the record of that key. -/
theorem findRecord_modifyRecord (hf : ∀ r, (f r).key = r.key) (found : findRecord rs key = some r) :
    findRecord (modifyRecord key f rs) key = some (f r) := by
  obtain ⟨-, same⟩ := findRecord_some found
  have kept : ∀ r : ClaimRecord, (if r.key = key then f r else r).key = r.key := fun r => by
    split
    · exact hf r
    · rfl
  unfold modifyRecord
  rw [findRecord_map kept, found]
  exact congrArg some (if_pos same)

/-- A record that stays is still the one its key finds. -/
theorem findRecord_filter {p : ClaimRecord → Bool} (found : findRecord rs key = some r) (stays : p r = true) :
    findRecord (rs.filter p) key = some r := by
  obtain ⟨same, before, after, rfl, others⟩ := List.find?_eq_some_iff_append.mp found
  unfold findRecord
  rw [List.find?_filter, List.find?_append, List.find?_eq_none.mpr fun y hy => by simp [by simpa using others y hy]]
  simp [stays, of_decide_eq_true same]

theorem findRecord_appendRecord_same (r : ClaimRecord) (rs : List ClaimRecord) :
    findRecord (appendRecord r rs) r.key = some r := by
  have gone : (removeRecord r.key rs).find? (fun x => decide (x.key = r.key)) = none :=
    List.find?_eq_none.mpr fun y hy => by simpa [removeRecord] using (List.mem_filter.mp hy).2
  simp [findRecord, appendRecord, gone]

theorem findRecord_appendRecord_ne (rs : List ClaimRecord) (other : x ≠ r.key) :
    findRecord (appendRecord r rs) x = findRecord rs x := by
  have stays : ∀ y : ClaimRecord, (!decide (y.key = r.key) && decide (y.key = x)) = decide (y.key = x) := fun y => by
    by_cases h : y.key = x <;> simp [h, other]
  simp [findRecord, appendRecord, removeRecord, List.find?_append, List.find?_filter, Ne.symm other, stays]

/-- Where keys are single, a record in the register is the one its key finds. -/
theorem eq_of_findRecord (single : (rs.map ClaimRecord.key).Nodup) (found : findRecord rs key = some r) {y : ClaimRecord}
    (hy : y ∈ rs) (same : y.key = key) : y = r := by
  obtain ⟨mem, is⟩ := findRecord_some found
  exact List.inj_on_of_nodup_map single hy mem (same.trans is.symm)

end

/-! ## The pair list (R151, R152) -/

theorem mem_pairsOf {rs : List ClaimRecord} {p : ClaimPair} :
    p ∈ pairsOf rs ↔ ∃ u ∈ rs, ∃ d ∈ rs, corroborate u d = true ∧ pairOf u d = p := by
  simp only [pairsOf, List.mem_flatMap, List.mem_map, List.mem_filter, and_assoc]

theorem corroborate_standing {u d : ClaimRecord} (h : corroborate u d = true) : u.status = .standing ∧ d.status = .standing := by
  simp only [corroborate, ClaimRecord.standing, Bool.and_eq_true, decide_eq_true_eq] at h
  obtain ⟨⟨⟨⟨-, up⟩, down⟩, -⟩, -⟩ := h
  exact ⟨up, down⟩

/-- The records with their marks set pair as they did. -/
theorem pairsOf_map {f : ClaimRecord → ClaimRecord} (hf : ∀ r, ∃ c a, f r = { r with corroborated := c, agrees := a })
    (rs : List ClaimRecord) : pairsOf (rs.map f) = pairsOf rs := by
  have both : ∀ u d, corroborate (f u) (f d) = corroborate u d ∧ pairOf (f u) (f d) = pairOf u d := fun u d => by
    obtain ⟨c, a, hu⟩ := hf u
    obtain ⟨c', a', hd⟩ := hf d
    rw [hu, hd]
    exact ⟨rfl, rfl⟩
  simp only [pairsOf, List.flatMap_map, List.filter_map, List.map_map, Function.comp_def, both]

/-- Where every STANDING record was in the register before, no pair is new. -/
theorem pairsOf_subset {rs rs' : List ClaimRecord} (h : ∀ r ∈ rs', r.status = .standing → r ∈ rs) :
    ∀ p ∈ pairsOf rs', p ∈ pairsOf rs := by
  intro p hp
  obtain ⟨u, hu, d, hd, agree, pair⟩ := mem_pairsOf.mp hp
  obtain ⟨up, down⟩ := corroborate_standing agree
  exact mem_pairsOf.mpr ⟨u, h u hu up, d, h d hd down, agree, pair⟩

/-! ## The pair list re-judged (R152) -/

theorem recordPairs_eq (ps : List ClaimPair) (s : State) : recordPairs ps s = { s with port := (recordPairs ps s).port } := by
  induction ps generalizing s with
  | nil => rfl
  | cons p ps ih => exact ih _

/-- Re-judging the pair list changes the register and the events alone. -/
theorem rejudgePairs_eq (s : State) : rejudgePairs s = { s with
    register := (rejudgePairs s).register, port := (rejudgePairs s).port } := by
  unfold rejudgePairs
  dsimp only
  rw [recordPairs_eq]

/-- Where every pair is in the list already, no event is recorded. -/
theorem rejudgePairs_of_no_new {s : State} (h : ∀ p ∈ pairsOf s.register.records, p ∈ s.register.pairs) :
    rejudgePairs s = { s with register := (rejudgePairs s).register } := by
  have none : (pairsOf s.register.records).filter (fun p => !pairIn s.register.pairs p) = [] :=
    List.filter_eq_nil_iff.mpr fun p hp => by
      have there : pairIn s.register.pairs p = true := List.any_eq_true.mpr ⟨p, h p hp, by simp⟩
      simp [there]
  rw [rejudgePairs_register]
  unfold rejudgePairs
  dsimp only
  rw [none]
  rfl

/-- The list is true to the records it was judged from, marks and all. -/
theorem rejudgePairs_pairs (s : State) : (rejudgePairs s).register.pairs = pairsOf (rejudgePairs s).register.records := by
  rw [rejudgePairs_register]
  exact (pairsOf_map (fun r => ⟨_, r.agrees, rfl⟩) _).symm

/-- A record with its corroborated mark as a pair list has it (R152). -/
def ClaimRecord.remarked (ps : List ClaimPair) (r : ClaimRecord) : ClaimRecord := { r with corroborated := inSomePair ps r.key }

theorem findRecord_rejudgePairs (s : State) (key : ClaimKey) : findRecord (rejudgePairs s).register.records key =
    (findRecord s.register.records key).map (ClaimRecord.remarked (pairsOf s.register.records)) := by
  rw [rejudgePairs_register]
  exact findRecord_map (f := ClaimRecord.remarked _) (fun _ => rfl) _ _

/-- A record with both its flags as a pair list and the assessor have them (R152, R153). -/
def ClaimRecord.judged (ps : List ClaimPair) (a : Assessor) (r : ClaimRecord) : ClaimRecord :=
  { r with corroborated := inSomePair ps r.key, agrees := agreesWith a r }

/-- The flags of every record judged (R152, R153). -/
theorem rejudged_records (s : State) : ∃ ps, (rejudgePairs (judgeAgreement s)).register.records =
    s.register.records.map (ClaimRecord.judged ps s.assessor) :=
  ⟨_, (congrArg Register.records (rejudgePairs_register _)).trans (List.map_map ..)⟩

/-- A record placed: its place is the last, and every record's flags are judged (R137, R152, R153). -/
theorem placeRecord_records (r : ClaimRecord) (s : State) : ∃ ps, (placeRecord r s).register.records =
    (appendRecord r s.register.records).map (ClaimRecord.judged ps s.assessor) := rejudged_records _

theorem placeRecord_eq (r : ClaimRecord) (s : State) : placeRecord r s = { s with
    register := (placeRecord r s).register, port := (placeRecord r s).port } := by
  unfold placeRecord
  rw [rejudgePairs_eq]
  rfl

theorem placeRecord_keys (r : ClaimRecord) (s : State) : (placeRecord r s).register.records.map ClaimRecord.key =
    (s.register.records.map ClaimRecord.key).filter (fun k => k ≠ r.key) ++ [r.key] := by
  unfold placeRecord
  rw [rejudgePairs_keys, judgeAgreement_keys]
  exact appendRecord_keys r _

/-- What a record's key finds once it is placed. -/
theorem findRecord_placeRecord_same (r : ClaimRecord) (s : State) : ∃ ps,
    findRecord (placeRecord r s).register.records r.key = some (r.judged ps s.assessor) := by
  obtain ⟨ps, records⟩ := placeRecord_records r s
  refine ⟨ps, ?_⟩
  rw [records, findRecord_map (f := ClaimRecord.judged ps _) (fun _ => rfl), findRecord_appendRecord_same]
  rfl

/-- What any other key finds. -/
theorem findRecord_placeRecord_ne {r : ClaimRecord} {key : ClaimKey} (other : key ≠ r.key) (s : State) : ∃ ps,
    findRecord (placeRecord r s).register.records key =
      (findRecord s.register.records key).map (ClaimRecord.judged ps s.assessor) := by
  obtain ⟨ps, records⟩ := placeRecord_records r s
  refine ⟨ps, ?_⟩
  rw [records, findRecord_map (f := ClaimRecord.judged ps _) (fun _ => rfl), findRecord_appendRecord_ne _ other]

/-! ## Records removed (R133, R143) -/

@[simp] theorem releaseHold_of_heard {r : ClaimRecord} (h : r.own = false) (s : State) : releaseHold r s = s := by
  simp [releaseHold, h]

theorem releaseHolds_of_heard {rs : List ClaimRecord} (h : ∀ r ∈ rs, r.own = false) (s : State) : releaseHolds rs s = s := by
  induction rs generalizing s with
  | nil => rfl
  | cons r rs ih =>
    rw [releaseHolds, releaseHold_of_heard (h r (by simp)), ih fun x hx => h x (by simp [hx])]

/-- What an own record holds is its series, its pin and its cells. -/
theorem releaseHolds_eq (rs : List ClaimRecord) (s : State) : releaseHolds rs s = { s with
    link := { s.link with queue := (releaseHolds rs s).link.queue }
    peers := (releaseHolds rs s).peers, assessor := (releaseHolds rs s).assessor } := by
  induction rs generalizing s with
  | nil => rfl
  | cons r rs ih =>
    have one : releaseHold r s = { s with
        link := { s.link with queue := (releaseHold r s).link.queue }
        peers := (releaseHold r s).peers, assessor := (releaseHold r s).assessor } := by
      unfold releaseHold
      split
      · dsimp only
        split <;> rfl
      · rfl
    rw [releaseHolds, ih, one]

/-- A series whose record is not among those let go stays in the queue. -/
theorem releaseHolds_mem_queue {rs : List ClaimRecord} {s : State} {q : QueueEntry} (hq : q ∈ s.link.queue)
    (others : ∀ r ∈ rs, r.own = true → q.subject ≠ .claim r.key.kind r.key.fin) : q ∈ (releaseHolds rs s).link.queue := by
  induction rs generalizing s with
  | nil => exact hq
  | cons r rs ih =>
    refine ih ?_ fun x hx => others x (List.mem_cons_of_mem r hx)
    unfold releaseHold
    split
    · next own =>
      have stays : q ∈ queueRemove (.claim r.key.kind r.key.fin) s.link.queue :=
        List.mem_filter.mpr ⟨hq, decide_eq_true (others r List.mem_cons_self own)⟩
      dsimp only
      split <;> exact stays
    · exact hq

/-- Where some record meets the test, the others stay and the pair list is re-judged. -/
theorem removeRecords_of_some {p : ClaimRecord → Bool} {s : State} (h : ∃ r ∈ s.register.records, p r = true) :
    removeRecords p s = rejudgePairs ((releaseHolds (s.register.records.filter p) s).setRecords
      (s.register.records.filter (fun r => !p r))) := if_pos (List.any_eq_true.mpr h)

theorem removeRecords_of_none {p : ClaimRecord → Bool} {s : State} (h : ∀ r ∈ s.register.records, p r = false) :
    removeRecords p s = s := if_neg (by simpa using h)

/-- A removal with the pair list true to the records brings no pair, and no event (R152). -/
theorem removeRecords_eq {p : ClaimRecord → Bool} {s : State} (listed : s.register.pairs = pairsOf s.register.records) :
    removeRecords p s = { s with
      link := { s.link with queue := (removeRecords p s).link.queue }, peers := (removeRecords p s).peers
      assessor := (removeRecords p s).assessor, register := (removeRecords p s).register } := by
  unfold removeRecords
  split
  · dsimp only
    rw [rejudgePairs_of_no_new fun x hx => ?_, releaseHolds_eq]
    · rfl
    · rw [releaseHolds_eq]
      exact listed ▸ pairsOf_subset (fun r hr _ => (List.mem_filter.mp hr).1) x hx
  · rfl

@[simp] theorem removeRecords_detector (p : ClaimRecord → Bool) (s : State) : (removeRecords p s).detector = s.detector := by
  unfold removeRecords
  split
  · dsimp only
    rw [rejudgePairs_eq, releaseHolds_eq]
    rfl
  · rfl

/-- A record that stays is found under its key, but for its corroborated mark. -/
theorem findRecord_removeRecords {p : ClaimRecord → Bool} {s : State} {key : ClaimKey} {r : ClaimRecord}
    (found : findRecord s.register.records key = some r) (stays : p r = false) : ∃ x,
    findRecord (removeRecords p s).register.records key = some x ∧ x = { r with corroborated := x.corroborated } := by
  unfold removeRecords
  split
  · dsimp only
    rw [findRecord_rejudgePairs, State.setRecords_register, findRecord_filter found (by rw [stays]; rfl)]
    exact ⟨_, rfl, rfl⟩
  · exact ⟨r, found, rfl⟩

/-- A series whose record stays, stays in the queue. -/
theorem removeRecords_mem_queue {p : ClaimRecord → Bool} {s : State} {q : QueueEntry} (hq : q ∈ s.link.queue)
    (others : ∀ r ∈ s.register.records, p r = true → r.own = true → q.subject ≠ .claim r.key.kind r.key.fin) :
    q ∈ (removeRecords p s).link.queue := by
  unfold removeRecords
  split
  · dsimp only
    rw [rejudgePairs_eq]
    exact releaseHolds_mem_queue hq fun r hr => others r (List.mem_filter.mp hr).1 (List.mem_filter.mp hr).2
  · exact hq

/-! ## Series (R69, R72, R73) -/

theorem mem_insertEntry (e : QueueEntry) (q : List QueueEntry) : e ∈ insertEntry e q :=
  (insertEntry_perm e q).mem_iff.mpr List.mem_cons_self

/-- A series offered is in the queue, due, with its count full. -/
theorem offerSeries_offers (item : QueueItem) (s : State) : ∃ q ∈ (offerSeries item s).link.queue,
    q.item = item ∧ q.remaining = s.port.image.repeats + 1 ∧ q.due = true := by
  dsimp only [offerSeries, State.setQueue_link, queueOffer]
  split
  · next e found =>
    obtain ⟨mem, subject⟩ := queueFind_some found
    exact ⟨_, List.mem_map_of_mem mem, by rw [if_pos subject], by rw [if_pos subject], by rw [if_pos subject]⟩
  · exact ⟨_, mem_insertEntry _ _, rfl, rfl, rfl⟩

theorem filter_insertEntry {p : QueueEntry → Bool} {e : QueueEntry} (out : p e = false) (q : List QueueEntry) :
    (insertEntry e q).filter p = q.filter p := by
  induction q with
  | nil => simp [insertEntry, out]
  | cons x q ih =>
    unfold insertEntry
    split
    · rw [List.filter_cons, List.filter_cons, ih]
    · rw [List.filter_cons, if_neg (by simp [out])]

theorem filter_queueModify {x : QueueSubject} {f : QueueEntry → QueueEntry} (hf : ∀ e, e.subject = x → (f e).subject = x)
    (q : List QueueEntry) :
    (queueModify x f q).filter (fun e => e.subject ≠ x) = q.filter (fun e => e.subject ≠ x) := by
  induction q with
  | nil => rfl
  | cons e q ih =>
    by_cases same : e.subject = x
    · simpa [queueModify, same, hf e same] using ih
    · simpa [queueModify, same] using ih

/-- The entries of the other subjects stand as they stood. -/
theorem offerSeries_others (item : QueueItem) (s : State) :
    (offerSeries item s).link.queue.filter (fun e => e.subject ≠ item.subject) =
      s.link.queue.filter (fun e => e.subject ≠ item.subject) := by
  dsimp only [offerSeries, State.setQueue_link, queueOffer]
  split
  · exact filter_queueModify (x := item.subject) (fun _ _ => rfl) _
  · exact filter_insertEntry (by simp [QueueEntry.subject]) _

/-- The re-judging keeps what a queued entry says and how often it is still to go. -/
theorem LinkSettled.item {l : Link} {t : State} (h : LinkSettled l t) {q : QueueEntry} (hq : q ∈ l.queue) :
    ∃ x ∈ t.link.queue, x.item = q.item ∧ x.remaining = q.remaining := by
  rcases h.queue with ⟨queue, -⟩ | ⟨e, -, -, -, -, -, -, queue⟩
  · exact ⟨q, queue ▸ hq, rfl, rfl⟩
  · refine ⟨_, by rw [queue]; exact List.mem_map_of_mem hq, ?_⟩
    split <;> exact ⟨rfl, rfl⟩

/-! ## The newest event (R186) -/

/-- The newest event outlasts one more. -/
theorem record_keeps_newest {s : State} {es : List Event} {e : Event} (newest : s.port.events = es ++ [e]) (k : EventKind)
    (x : EventSubject) (y : Option Span) (d : Detail) : e ∈ (record s k x y d).port.events := by
  by_cases full : 32 ≤ s.port.events.length
  · rw [record_events_of_full k x y d full, newest]
    cases es with
    | nil => simp [newest] at full
    | cons a es => simp
  · rw [record_events_of_room k x y d (by omega), newest]
    simp

end Sys2Proof.Machine

/-! Own claim records by their cells (R129 to R133, R139 to R142): the wanted form, and what each hand-off of an assessment
leaves. -/

namespace Sys2Proof.Machine

/-! ## The wanted form of an own record (R129) -/

theorem Cell.mirrored_iff {c : Cell} : c.mirrored = true ↔ Stands c := by
  simp only [Cell.mirrored, Bool.or_eq_true, decide_eq_true_eq]
  exact Iff.rfl

theorem PerPhase.some_iff {m : PerPhase Bool} : m.some = true ↔ ∃ φ, m.get φ = true := by
  refine ⟨fun h => ?_, fun ⟨φ, h⟩ => ?_⟩
  · simp only [PerPhase.some, Bool.or_eq_true] at h
    rcases h with (h | h) | h
    · exact ⟨.one, h⟩
    · exact ⟨.two, h⟩
    · exact ⟨.three, h⟩
  · simp only [PerPhase.some, Bool.or_eq_true]
    cases φ with
    | one => exact .inl (.inl h)
    | two => exact .inl (.inr h)
    | three => exact .inr h

theorem PerPhase.ext_get {α : Type} {m n : PerPhase α} (h : ∀ φ, m.get φ = n.get φ) : m = n := by
  obtain ⟨a, b, c⟩ := m
  obtain ⟨a', b', c'⟩ := n
  obtain rfl : a = a' := h .one
  obtain rfl : b = b' := h .two
  obtain rfl : c = c' := h .three
  rfl

theorem wantedMask_get (a : Assessor) (fin : SpanEnd) (φ : Phase) :
    (wantedMask a fin).get φ = true ↔ Stands ((Wanted.side a fin).get φ) := by
  rw [← Cell.mirrored_iff]
  cases fin <;> cases φ <;> exact Iff.rfl

/-- The model's wanted form is the one that the cells give. -/
theorem wanted_eq {a : Assessor} {kind : ClaimKind} {fin : SpanEnd} {w : Option (PerPhase Bool)} (h : Wanted a kind fin w) :
    wanted a kind fin = w := by
  cases kind with
  | openConductor =>
    have cells : wanted a .openConductor fin = if (wantedMask a fin).some then some (wantedMask a fin) else none := by
      cases fin <;> rfl
    rw [cells]
    cases w with
    | none =>
      refine if_neg fun some => ?_
      obtain ⟨φ, hφ⟩ := PerPhase.some_iff.mp some
      exact h φ ((wantedMask_get a fin φ).mp hφ)
    | some m =>
      obtain ⟨⟨φ, hφ⟩, same⟩ := h
      have mask : wantedMask a fin = m := PerPhase.ext_get fun φ => by
        rw [Bool.eq_iff_iff, wantedMask_get, same]
      rw [mask]
      exact if_pos (PerPhase.some_iff.mpr ⟨φ, hφ⟩)
  | ground =>
    have cell : wanted a .ground fin = if (Wanted.ground a fin).mirrored then some (Init.allPhases false) else none := by
      cases fin <;> rfl
    rw [cell]
    cases w with
    | none => exact if_neg fun mirrored => h (Cell.mirrored_iff.mp mirrored)
    | some m =>
      obtain ⟨rfl, stands⟩ := h
      exact if_pos (Cell.mirrored_iff.mpr stands)

/-! ## The hand-off, by the wanted and the held form (R129) -/

section
variable {epoch : EpochNum} {kind : ClaimKind} {fin : SpanEnd} {s : State} {r : ClaimRecord} {m : PerPhase Bool}

theorem handOff_idle (want : wanted s.assessor kind fin = none)
    (held : findRecord s.register.records (ownKey s kind fin) = none) : handOff epoch kind fin s = s := by
  simp [handOff, want, held]

/-- A COVERED record, one that already stands as wanted, and a RELEASED one that is not wanted are left. -/
theorem handOff_leaves {w : Option (PerPhase Bool)} (want : wanted s.assessor kind fin = w)
    (held : findRecord s.register.records (ownKey s kind fin) = some r)
    (fits : r.status = .covered ∨ (r.status = .released ∧ w = none) ∨ (r.status = .standing ∧ w = some r.mask)) :
    handOff epoch kind fin s = s := by
  rcases fits with covered | ⟨released, rfl⟩ | ⟨standing, rfl⟩
  · cases w <;> simp [handOff, want, held, covered, ClaimRecord.standing]
  · simp [handOff, want, held, released, ClaimRecord.standing]
  · simp [handOff, want, held, standing]

theorem handOff_changes (tripless : NoTripTable s) (want : wanted s.assessor kind fin = some m)
    (held : findRecord s.register.records (ownKey s kind fin) = some r) (standing : r.status = .standing) (differs : m ≠ r.mask) :
    handOff epoch kind fin s = changeMask epoch (ownKey s kind fin) m s := by
  rw [← reporting_of_noTripTable (tripless.within (keeps_changeMask epoch (ownKey s kind fin) m s))]
  simp [handOff, want, held, standing, differs]

theorem handOff_releases (tripless : NoTripTable s) (want : wanted s.assessor kind fin = none)
    (held : findRecord s.register.records (ownKey s kind fin) = some r) (standing : r.status = .standing) :
    handOff epoch kind fin s = releaseOwn (ownKey s kind fin) s := by
  rw [← reporting_of_noTripTable (tripless.within (keeps_releaseOwn (ownKey s kind fin) s))]
  simp [handOff, want, held, standing, ClaimRecord.standing]

theorem handOff_asks (want : wanted s.assessor kind fin = some m)
    (held : ∀ r, findRecord s.register.records (ownKey s kind fin) = some r → r.status = .released) :
    handOff epoch kind fin s = raiseClaim epoch kind fin m s := by
  unfold handOff
  dsimp only
  rw [want]
  split
  · next h _ => rw [Option.some.inj h]
  · next r h found =>
    rw [held r found, Option.some.inj h]
  · next h _ => cases h
  · next h _ => cases h

theorem raiseClaim_eq (tripless : NoTripTable s) {k : Nat} (near : s.peers.adjacent (sideOf fin) = some k) :
    raiseClaim epoch kind fin m s =
      raiseOwn epoch ⟨raisedSpan s.port.image.position (peerAt s k).position fin, kind, m, fin⟩ (pin (peerAt s k).position s) := by
  have span : raiseSpan s.port.image.position (peerAt s k).position fin =
      raisedSpan s.port.image.position (peerAt s k).position fin := by
    cases fin <;> rfl
  have pinned : NoTripTable (pin (peerAt s k).position s) := tripless
  unfold raiseClaim
  rw [near, ← span]
  exact reporting_of_noTripTable (pinned.within (keeps_raiseOwn _ _ _))

end

theorem adjustPin_eq (f : Nat → Nat) (position : Nat) (s : State) : adjustPin f position s = { s with
    peers := { s.peers with entries := pinnedAt f position s.peers.entries } } := by
  simp [adjustPin, pinnedAt]

/-! ## A changed mask (R140) -/

section
variable {epoch : EpochNum} {key : ClaimKey} {s : State} {r : ClaimRecord} {m : PerPhase Bool}

/-- The register and the queue of a mask change, the flags still to be judged. -/
def maskChanged (epoch : EpochNum) (key : ClaimKey) (r : ClaimRecord) (m : PerPhase Bool) (s : State) : State :=
  refreshSeries epoch { r with mask := m } (s.setRecords (modifyRecord key (fun x => { x with mask := m }) s.register.records))

theorem changeMask_eq (held : findRecord s.register.records key = some r) :
    changeMask epoch key m s = rejudgePairs (judgeAgreement (maskChanged epoch key r m s)) := by
  simp [changeMask, held, maskChanged]

/-- A mask change: the record in its place with the new mask, its refresh begun anew, and its series offered with REFRESH set. -/
theorem changeMask_changes (held : findRecord s.register.records key = some r) :
    let t := changeMask epoch key m s
    t.register.records.map ClaimRecord.key = s.register.records.map ClaimRecord.key ∧
    (∃ q ∈ t.link.queue, q.item = .claim ⟨r.span, r.key.kind, m, r.key.fin⟩ true ∧ q.remaining = s.port.image.repeats + 1 ∧
      q.due = true) ∧
    t.detector = s.detector ∧ t.peers = s.peers ∧
    ∃ x, findRecord t.register.records key = some x ∧ x = { r with
      mask := m, refreshAge := 0, refreshEpoch := epoch, corroborated := x.corroborated, agrees := x.agrees } := by
  obtain ⟨-, rfl⟩ := findRecord_some held
  rw [changeMask_eq held]
  refine ⟨?_, ?_, ?_, ?_, ?_⟩
  · rw [rejudgePairs_keys, judgeAgreement_keys]
    refine (modifyRecord_keys ?_ _).trans (modifyRecord_keys ?_ _) <;> exact fun _ hx => hx
  · rw [rejudgePairs_eq]
    exact offerSeries_offers _ _
  · rw [rejudgePairs_eq]
    rfl
  · rw [rejudgePairs_eq]
    rfl
  · obtain ⟨ps, records⟩ := rejudged_records (maskChanged epoch r.key r m s)
    have masked := findRecord_modifyRecord (f := fun x => { x with mask := m }) (fun _ => rfl) held
    have begun := findRecord_modifyRecord (f := fun x => { x with refreshAge := 0, refreshEpoch := epoch }) (fun _ => rfl) masked
    rw [records, findRecord_map (f := ClaimRecord.judged ps _) (fun _ => rfl)]
    exact ⟨_, congrArg (Option.map (ClaimRecord.judged ps s.assessor)) begun, rfl⟩

end

/-! ## A close by a change (R46, R47, R49) -/

/-- The state of a close before its COVERED records go (R49). -/
def calming (s : State) : State :=
  let t := record s .disturbanceClose .absent none (.named .disturbed)
  { t with
    detector := { calmed s.detector s.detector.reference with closedByChange := s.detector.closedByChange }
    linkage := linkageCalm t.linkage, peers := clearPeerSnapshots t.peers }

theorem closeDisturbance_eq (s : State) :
    closeDisturbance s = removeRecords (fun r => decide (r.status = .covered)) (calming s) := by
  have covered : (fun r : ClaimRecord => decide (r.status = .covered) || (false && r.own)) =
      fun r => decide (r.status = .covered) := by
    funext r
    simp
  rw [← covered]
  rfl

section
variable {s : State}

theorem testCloseOnChange_of_due (due : closeDue s = true) : testCloseOnChange s =
    let t := removeRecords (fun r => decide (r.status = .covered)) (calming s)
    t.setDetector { t.detector with closedByChange := true } := by
  unfold testCloseOnChange
  rw [if_pos due, closeDisturbance_eq]

theorem testCloseOnChange_of_not_due (notDue : closeDue s = false) : testCloseOnChange s = s :=
  if_neg (by simp [notDue])

theorem testCloseOnChange_detector (due : closeDue s = true) :
    (testCloseOnChange s).detector = { calmed s.detector s.detector.reference with closedByChange := true } := by
  rw [testCloseOnChange_of_due due]
  simp [calming]

/-- A record that is not COVERED outlasts the close, but for its corroborated mark. -/
theorem findRecord_testCloseOnChange {key : ClaimKey} {r : ClaimRecord} (found : findRecord s.register.records key = some r)
    (stays : r.status ≠ .covered) : ∃ x,
    findRecord (testCloseOnChange s).register.records key = some x ∧ x = { r with corroborated := x.corroborated } := by
  unfold testCloseOnChange
  split
  · rw [closeDisturbance_eq]
    exact findRecord_removeRecords (s := calming s) found (by simp [stays])
  · exact ⟨r, found, rfl⟩

/-- So does a series that is not of a COVERED own record. -/
theorem testCloseOnChange_mem_queue {q : QueueEntry} (hq : q ∈ s.link.queue)
    (others : ∀ r ∈ s.register.records, r.status = .covered → r.own = true → q.subject ≠ .claim r.key.kind r.key.fin) :
    q ∈ (testCloseOnChange s).link.queue := by
  unfold testCloseOnChange
  split
  · rw [closeDisturbance_eq]
    exact removeRecords_mem_queue (s := calming s) hq fun r hr covered => others r hr (of_decide_eq_true covered)
  · exact hq

/-- Where the pair list is true to the records, the close brings one event. -/
theorem testCloseOnChange_keeps_newest {es : List Event} {e : Event} (newest : s.port.events = es ++ [e])
    (listed : s.register.pairs = pairsOf s.register.records) : e ∈ (testCloseOnChange s).port.events := by
  unfold testCloseOnChange
  split
  · rw [closeDisturbance_eq, removeRecords_eq (s := calming s) listed]
    exact record_keeps_newest newest _ _ _ _
  · rw [newest]
    simp

end

/-! ## A release (R131, R141) -/

section
variable {key : ClaimKey} {s : State} {r : ClaimRecord}

/-- The record RELEASED, its series offered and its event recorded, the pair list still to be judged. -/
def releaseRecorded (key : ClaimKey) (r : ClaimRecord) (s : State) : State :=
  recordClaim .claimReleased r (.named .own) (offerSeries (.release r.content)
    (s.setRecords (modifyRecord key (fun x => { x with status := .released }) s.register.records)))

/-- A release before the Detector is told (R131, R141). -/
def ownReleased (key : ClaimKey) (r : ClaimRecord) (s : State) : State :=
  unpin (farEnd key.fin r.span) (rejudgePairs (releaseRecorded key r s))

theorem releaseOwn_eq (held : findRecord s.register.records key = some r) :
    releaseOwn key s = testCloseOnChange (ownReleased key r s) := by
  simp [releaseOwn, held, ownReleased, releaseRecorded]

theorem ownReleased_eq (key : ClaimKey) (r : ClaimRecord) (s : State) : ownReleased key r s = { releaseRecorded key r s with
    register := (rejudgePairs (releaseRecorded key r s)).register, port := (rejudgePairs (releaseRecorded key r s)).port
    peers := { s.peers with entries := pinnedAt (fun n => n - 1) (farEnd key.fin r.span) s.peers.entries } } := by
  unfold ownReleased unpin
  rw [adjustPin_eq, rejudgePairs_eq]
  rfl

theorem ownReleased_register (key : ClaimKey) (r : ClaimRecord) (s : State) :
    (ownReleased key r s).register = (rejudgePairs (releaseRecorded key r s)).register := by
  rw [ownReleased_eq]

theorem findRecord_ownReleased (held : findRecord s.register.records key = some r) : ∃ x,
    findRecord (ownReleased key r s).register.records key = some x ∧
      x = { r with status := .released, corroborated := x.corroborated } := by
  have released := findRecord_modifyRecord (f := fun x => { x with status := .released }) (fun _ => rfl) held
  rw [ownReleased_register, findRecord_rejudgePairs]
  exact ⟨_, congrArg (Option.map _) released, rfl⟩

/-- A record after a release is one of before, RELEASED under the key and as it was elsewhere. -/
theorem ownReleased_mem (x : ClaimRecord) (hx : x ∈ (ownReleased key r s).register.records) :
    ∃ o ∈ s.register.records, x.key = o.key ∧ x.own = o.own ∧ x.status = if o.key = key then .released else o.status := by
  rw [ownReleased_register, rejudgePairs_register] at hx
  obtain ⟨y, hy, rfl⟩ := List.mem_map.mp hx
  obtain ⟨o, ho, rfl⟩ := List.mem_map.mp hy
  refine ⟨o, ho, ?_⟩
  dsimp only
  split <;> exact ⟨rfl, rfl, rfl⟩

/-- Every record of before is there. -/
theorem mem_ownReleased {o : ClaimRecord} (ho : o ∈ s.register.records) (other : o.key ≠ key) :
    ∃ x ∈ (ownReleased key r s).register.records, x.own = o.own ∧ x.status = o.status := by
  rw [ownReleased_register, rejudgePairs_register]
  exact ⟨_, List.mem_map_of_mem (List.mem_map_of_mem ho), by rw [if_neg other], by rw [if_neg other]⟩

/-- The Detector closes on a release exactly where the settle counter stands full and no other own record stands (R46, R47). -/
theorem closeDue_ownReleased : closeDue (ownReleased key r s) = true ↔
    s.detector.assessment = .disturbed ∧ s.port.image.settleCount ≤ s.detector.settle ∧
      ∀ x ∈ s.register.records, x.own = true → x.status = .standing → x.key = key := by
  have detector : (ownReleased key r s).detector = s.detector := by
    rw [ownReleased_eq]
    rfl
  have image : (ownReleased key r s).port.image = s.port.image := by
    rw [ownReleased_eq]
    exact (keeps_rejudgePairs _).coreKept.image
  have stand : ownStanding (ownReleased key r s) = false ↔
      ∀ x ∈ s.register.records, x.own = true → x.status = .standing → x.key = key := by
    simp only [ownStanding, List.any_eq_false, ClaimRecord.standing, Bool.and_eq_true, decide_eq_true_eq, not_and]
    refine ⟨fun h o ho own standing => ?_, fun h x hx own standing => ?_⟩
    · by_contra other
      obtain ⟨x, hx, sameOwn, sameStatus⟩ := mem_ownReleased (r := r) ho other
      exact h x hx (sameOwn.trans own) (sameStatus.trans standing)
    · obtain ⟨o, ho, -, sameOwn, status⟩ := ownReleased_mem x hx
      split at status
      · exact nomatch status.symm.trans standing
      · next other => exact other (h o ho (sameOwn.symm.trans own) (status.symm.trans standing))
  simp only [closeDue, Bool.and_eq_true, decide_eq_true_eq, Bool.not_eq_true', stand, detector, image, and_assoc]

/-- A release leaves the pair list true to the records, and where it was so before, no pair is new. -/
theorem ownReleased_port (listed : s.register.pairs = pairsOf s.register.records) :
    (ownReleased key r s).port = (releaseRecorded key r s).port := by
  have quiet := rejudgePairs_of_no_new (s := releaseRecorded key r s) fun p hp => listed ▸ pairsOf_subset (fun x hx standing => by
    obtain ⟨o, ho, rfl⟩ := List.mem_map.mp hx
    split at standing
    · cases standing
    · next other =>
      rw [if_neg other]
      exact ho) p hp
  rw [ownReleased_eq]
  exact (congrArg State.port quiet :)

/-- A release: its series, its record, its event, and the close or the unpinning that follows. -/
theorem releaseOwn_releases (held : findRecord s.register.records key = some r) (claimant : key.claimant = s.port.image.stationId)
    (owned : ∀ x ∈ s.register.records, x.own = true ↔ x.key.claimant = s.port.image.stationId) :
    let t := releaseOwn key s
    (∃ q ∈ t.link.queue, q.item = .release ⟨r.span, r.key.kind, r.mask, r.key.fin⟩ ∧
      q.remaining = s.port.image.repeats + 1 ∧ q.due = true) ∧
    (∃ x, findRecord t.register.records key = some x ∧ x = { r with status := .released, corroborated := x.corroborated }) ∧
    (s.register.pairs = pairsOf s.register.records → ∃ e ∈ t.port.events,
      e.kind = .claimReleased ∧ e.subject = .claim r.key ∧ e.span = some r.span ∧ e.detail = .named .own) ∧
    (let closes := s.detector.assessment = .disturbed ∧ s.port.image.settleCount ≤ s.detector.settle ∧
       ∀ x ∈ s.register.records, x.own = true → x.status = .standing → x.key = key
     (closes → t.detector = { calmed s.detector s.detector.reference with closedByChange := true }) ∧
     (¬ closes → t.detector = s.detector ∧ t.peers = { s.peers with
       entries := pinnedAt (fun n => n - 1) (farEnd key.fin r.span) s.peers.entries })) := by
  obtain ⟨-, is⟩ := findRecord_some held
  intro t
  have told : t = testCloseOnChange (ownReleased key r s) := releaseOwn_eq held
  clear_value t
  subst told
  refine ⟨?_, ?_, fun listed => ?_, fun closes => ?_, fun stays => ?_⟩
  · obtain ⟨q, hq, item, count, due⟩ := offerSeries_offers (.release r.content)
      (s.setRecords (modifyRecord key (fun x => { x with status := .released }) s.register.records))
    refine ⟨q, testCloseOnChange_mem_queue (by rw [ownReleased_eq]; exact hq) fun x hx covered own same => ?_, item, count, due⟩
    obtain ⟨o, ho, sameKey, sameOwn, status⟩ := ownReleased_mem x hx
    have other : o.key ≠ key := fun same => by
      rw [if_pos same] at status
      exact nomatch status.symm.trans covered
    have subject : QueueSubject.claim r.key.kind r.key.fin = .claim x.key.kind x.key.fin := by
      rw [← same]
      exact (congrArg QueueItem.subject item).symm
    obtain ⟨kind, fin⟩ := QueueSubject.claim.inj subject
    have station : o.key.claimant = key.claimant := ((owned o ho).mp (sameOwn.symm.trans own)).trans claimant.symm
    refine other ?_
    rw [← is] at station ⊢
    rw [sameKey] at kind fin
    exact (ClaimKey.mk.injEq ..).mpr ⟨station, kind.symm, fin.symm⟩
  · obtain ⟨x, found, same⟩ := findRecord_ownReleased held
    obtain ⟨y, stays, kept⟩ := findRecord_testCloseOnChange found (by rw [same]; exact nofun)
    exact ⟨y, stays, by rw [kept, same]⟩
  · exact ⟨_, testCloseOnChange_keeps_newest (congrArg Port.events (ownReleased_port listed))
      (by rw [ownReleased_register]; exact rejudgePairs_pairs _), rfl, rfl, rfl, rfl⟩
  · rw [testCloseOnChange_detector (closeDue_ownReleased.mpr closes), ownReleased_eq]
    rfl
  · rw [testCloseOnChange_of_not_due (Bool.eq_false_iff.mpr fun due => stays (closeDue_ownReleased.mp due)), ownReleased_eq]
    exact ⟨rfl, rfl⟩

end

/-! ## A raise (R130, R139, R142) -/

section
variable {epoch : EpochNum} {c : ClaimContent} {s : State}

/-- A raise before the Detector is asked. -/
def raised (epoch : EpochNum) (c : ClaimContent) (s : State) : State :=
  let r := standingRecord epoch (ownKey s c.kind c.fin) s.port.image.position c true
  offerSeries (.claim c false) (recordClaim .claimRaised r (.mask c.mask) (placeRecord r s))

theorem raised_eq (epoch : EpochNum) (c : ClaimContent) (s : State) : raised epoch c s = { s with
    register := (placeRecord (standingRecord epoch (ownKey s c.kind c.fin) s.port.image.position c true) s).register
    link := (raised epoch c s).link, port := (raised epoch c s).port } := by
  unfold raised
  dsimp only [offerSeries, recordClaim, record, State.setQueue]
  rw [placeRecord_eq]

theorem raised_event (epoch : EpochNum) (c : ClaimContent) (s : State) : ∃ es e, (raised epoch c s).port.events = es ++ [e] ∧
    e.kind = .claimRaised ∧ e.subject = .claim (ownKey s c.kind c.fin) ∧ e.span = some c.span ∧ e.detail = .mask c.mask :=
  ⟨_, _, rfl, rfl, rfl, rfl, rfl⟩

theorem raised_series (epoch : EpochNum) (c : ClaimContent) (s : State) : ∃ q ∈ (raised epoch c s).link.queue,
    q.item = .claim c false ∧ q.remaining = s.port.image.repeats + 1 ∧ q.due = true := by
  obtain ⟨q, hq, item, count, due⟩ := offerSeries_offers (.claim c false) (recordClaim .claimRaised
    (standingRecord epoch (ownKey s c.kind c.fin) s.port.image.position c true) (.mask c.mask)
    (placeRecord (standingRecord epoch (ownKey s c.kind c.fin) s.port.image.position c true) s))
  exact ⟨q, hq, item, count.trans (congrArg (fun i : Image => i.repeats + 1) (keeps_placeRecord _ s).coreKept.image), due⟩

theorem raiseOwn_of_new (new : findRecord s.register.records (ownKey s c.kind c.fin) = none) :
    raiseOwn epoch c s = requestDisturbance .claim (.claim (ownKey s c.kind c.fin)) (raised epoch c s) := by
  simp [raiseOwn, new, raised]

theorem raiseOwn_of_held (held : findRecord s.register.records (ownKey s c.kind c.fin) ≠ none) :
    raiseOwn epoch c s = raised epoch c s := by
  unfold raiseOwn
  dsimp only
  rw [if_neg (by simpa using held)]
  rfl

/-- A raise moves the Detector and records its opening only where the key is new. -/
theorem raiseOwn_eq (epoch : EpochNum) (c : ClaimContent) (s : State) : raiseOwn epoch c s = { raised epoch c s with
    detector := (raiseOwn epoch c s).detector, port := (raiseOwn epoch c s).port } := by
  by_cases new : findRecord s.register.records (ownKey s c.kind c.fin) = none
  · rw [raiseOwn_of_new new]
    exact requestDisturbance_eq _ _ _
  · rw [raiseOwn_of_held new]

theorem raiseOwn_register (epoch : EpochNum) (c : ClaimContent) (s : State) : (raiseOwn epoch c s).register =
    (placeRecord (standingRecord epoch (ownKey s c.kind c.fin) s.port.image.position c true) s).register := by
  rw [raiseOwn_eq, raised_eq]

/-- The Detector after a raise (R43, R44, R139). -/
theorem raiseOwn_detector (epoch : EpochNum) (c : ClaimContent) (s : State) :
    (findRecord s.register.records (ownKey s c.kind c.fin) ≠ none → (raiseOwn epoch c s).detector = s.detector) ∧
    (findRecord s.register.records (ownKey s c.kind c.fin) = none →
      (s.detector.assessment = .calm ∨ s.detector.assessment = .blind →
        (raiseOwn epoch c s).detector.assessment = .disturbed ∧
        (raiseOwn epoch c s).detector.sequence = s.detector.sequence + 1 ∧
        (raiseOwn epoch c s).detector.snapshot = if s.detector.assessment = .calm then s.detector.reference else none) ∧
      (s.detector.assessment = .disturbed ∨ s.detector.assessment = .deenergized →
        (raiseOwn epoch c s).detector = s.detector)) := by
  have same : (raised epoch c s).detector = s.detector := by rw [raised_eq]
  refine ⟨fun held => by rw [raiseOwn_of_held held, same], fun new => ⟨?_, fun opened => ?_⟩⟩
  · rw [raiseOwn_of_new new]
    rintro (calm | blind)
    · rw [requestDisturbance_of_calm (same ▸ calm), enterDisturbed_detector, same, if_pos calm]
      exact ⟨rfl, rfl, rfl⟩
    · rw [requestDisturbance_of_blind (same ▸ blind), enterDisturbed_detector, same, if_neg (by rw [blind]; decide)]
      exact ⟨rfl, rfl, rfl⟩
  · rw [raiseOwn_of_new new, requestDisturbance_of_open (same ▸ opened), same]

/-- CLAIM_RAISED outlasts the opening that may follow it. -/
theorem raiseOwn_event (epoch : EpochNum) (c : ClaimContent) (s : State) : ∃ e ∈ (raiseOwn epoch c s).port.events,
    e.kind = .claimRaised ∧ e.subject = .claim (ownKey s c.kind c.fin) ∧ e.span = some c.span ∧ e.detail = .mask c.mask := by
  obtain ⟨es, e, newest, is⟩ := raised_event epoch c s
  refine ⟨e, ?_, is⟩
  by_cases new : findRecord s.register.records (ownKey s c.kind c.fin) = none
  · rw [raiseOwn_of_new new]
    unfold requestDisturbance
    split
    · exact record_keeps_newest newest _ _ _ _
    · exact record_keeps_newest newest _ _ _ _
    · simp [newest]
    · simp [newest]
  · rw [raiseOwn_of_held new, newest]
    simp

end

/-! ## The hand-off that raises (R130) -/

section
variable {s : State} {kind : ClaimKind} {fin : SpanEnd} {m : PerPhase Bool}

theorem farEnd_eq (fin : SpanEnd) (x : Span) : farEnd fin x = if fin = .u then x.down else x.up := by
  cases fin <;> rfl

theorem sideOf_eq (fin : SpanEnd) : sideOf fin = match fin with | .u => Side.down | .d => Side.up := by
  cases fin <;> rfl

/-- What a raise makes of the register and the rest where a peer is adjacent. -/
theorem handOff_raises {epoch : EpochNum} (tripless : NoTripTable s) (want : wanted s.assessor kind fin = some m)
    (free : ∀ r, findRecord s.register.records (ownKey s kind fin) = some r → r.status = .released) {k : Nat}
    (near : s.peers.adjacent (sideOf fin) = some k) :
    let t := handOff epoch kind fin s
    let key := ownKey s kind fin
    let peer := (peerAt s k).position
    let span := raisedSpan s.port.image.position peer fin
    t.register.records.map ClaimRecord.key = (s.register.records.map ClaimRecord.key).filter (fun x => x ≠ key) ++ [key] ∧
    (∃ q ∈ t.link.queue, q.item = .claim ⟨span, kind, m, fin⟩ false ∧ q.remaining = s.port.image.repeats + 1 ∧ q.due = true) ∧
    t.peers = { s.peers with entries := pinnedAt (fun n => n + 1) peer s.peers.entries } ∧
    (∃ x, findRecord t.register.records key = some x ∧ x = {
      key := key, position := s.port.image.position, span := span, mask := m, status := .standing, own := true
      raiseEpoch := epoch, refreshEpoch := epoch, standingAge := 0, refreshAge := 0, frameAge := 0
      corroborated := x.corroborated, agrees := x.agrees }) ∧
    (∃ e ∈ t.port.events, e.kind = .claimRaised ∧ e.subject = .claim key ∧ e.span = some span ∧ e.detail = .mask m) ∧
    (findRecord s.register.records key ≠ none → t.detector = s.detector) ∧
    (findRecord s.register.records key = none →
      (s.detector.assessment = .calm ∨ s.detector.assessment = .blind →
        t.detector.assessment = .disturbed ∧ t.detector.sequence = s.detector.sequence + 1 ∧
        t.detector.snapshot = if s.detector.assessment = .calm then s.detector.reference else none) ∧
      (s.detector.assessment = .disturbed ∨ s.detector.assessment = .deenergized → t.detector = s.detector)) := by
  intro t key peer span
  have raises : t = raiseOwn epoch ⟨span, kind, m, fin⟩ (pin peer s) :=
    (handOff_asks want free).trans (raiseClaim_eq tripless near)
  have pinned : pin peer s = { s with peers := { s.peers with entries := pinnedAt (fun n => n + 1) peer s.peers.entries } } :=
    adjustPin_eq _ _ s
  clear_value t
  subst raises
  obtain ⟨held, new⟩ := raiseOwn_detector epoch ⟨span, kind, m, fin⟩ (pin peer s)
  refine ⟨?_, ?_, ?_, ?_, raiseOwn_event epoch ⟨span, kind, m, fin⟩ (pin peer s), held, new⟩
  · rw [raiseOwn_register, placeRecord_keys]
    rfl
  · rw [raiseOwn_eq]
    exact raised_series epoch ⟨span, kind, m, fin⟩ (pin peer s)
  · rw [raiseOwn_eq, raised_eq]
    exact congrArg State.peers pinned
  · rw [raiseOwn_register]
    obtain ⟨ps, found⟩ := findRecord_placeRecord_same (standingRecord epoch key s.port.image.position ⟨span, kind, m, fin⟩ true)
      (pin peer s)
    exact ⟨_, found, rfl⟩

end

end Sys2Proof.Machine

/-! The refreshes of own records and the expiry of heard ones (R140, R147): the statement O55. -/

namespace Sys2Proof.Machine

/-! ## CLAIM_REFRESH (R140) -/

theorem refreshDue_iff {r : ClaimRecord} : refreshDue r = true ↔ r.own = true ∧ r.status = .standing ∧ 8 ≤ r.refreshAge := by
  simp only [refreshDue, ClaimRecord.standing, Bool.and_eq_true, decide_eq_true_eq, and_assoc]
  exact Iff.rfl

section
variable {s : State} {key : ClaimKey} {kind : ClaimKind} {fin : SpanEnd} {r : ClaimRecord}

theorem refreshIfDue_of_due (found : findRecord s.register.records key = some r) (due : refreshDue r = true) :
    refreshIfDue key s = refreshSeries s.tracker.epoch r s := by
  simp [refreshIfDue, found, due]

theorem refreshIfDue_of_young (found : findRecord s.register.records key = some r) (young : refreshDue r = false) :
    refreshIfDue key s = s := by
  simp [refreshIfDue, found, young]

theorem exec_claimRefresh (hw : s.working = true) (tripless : NoTripTable s) :
    exec (.claimRefresh kind fin) s = .next (settle (refreshIfDue (ownKey s kind fin) s)) := by
  rw [← reporting_of_noTripTable (tripless.within (keeps_refreshIfDue (ownKey s kind fin) s))]
  exact next_whileWorking hw _

/-- A refresh that has fallen due restarts the age and offers the series anew with REFRESH set, and touches nothing else. -/
theorem claim_is_refreshed (hw : s.working = true) (found : findRecord s.register.records (ownKey s kind fin) = some r)
    (due : refreshDue r = true) :
    let t := settle (refreshIfDue (ownKey s kind fin) s)
    t.register.records = s.register.records.map
      (fun x => if x.key = r.key then { x with refreshAge := 0, refreshEpoch := s.tracker.epoch } else x) ∧
    t.register.pairs = s.register.pairs ∧
    (∃ q ∈ t.link.queue, q.item = .claim ⟨r.span, kind, r.mask, fin⟩ true ∧ q.remaining = s.port.image.repeats + 1) ∧
    t = { s with register := t.register, link := t.link } ∧
    ∃ q, LinkSettled { s.link with queue := q } t ∧
      q.filter (fun x => x.subject ≠ .claim kind fin) = s.link.queue.filter (fun x => x.subject ≠ .claim kind fin) := by
  obtain ⟨-, key⟩ := findRecord_some found
  have content : r.content = ⟨r.span, kind, r.mask, fin⟩ := by
    unfold ClaimRecord.content
    rw [key]
    rfl
  rw [refreshIfDue_of_due found due]
  have settled : LinkSettled _ (settle (refreshSeries s.tracker.epoch r s)) :=
    settle_linkSettled (State.working_run hw)
  obtain ⟨q, hq, item, remaining, -⟩ := offerSeries_offers (.claim r.content true)
    (s.setRecords (modifyRecord r.key (fun x => { x with refreshAge := 0, refreshEpoch := s.tracker.epoch }) s.register.records))
  obtain ⟨x, hx, sameItem, sameCount⟩ := settled.item hq
  refine ⟨by rw [settle_register]; rfl, by rw [settle_register]; rfl, ⟨x, hx, ?_, sameCount.trans remaining⟩, ?_, _, settled, ?_⟩
  · rw [sameItem, item, content]
  · rw [settle_eq]
    rfl
  · have others := offerSeries_others (.claim r.content true)
      (s.setRecords (modifyRecord r.key (fun x => { x with refreshAge := 0, refreshEpoch := s.tracker.epoch }) s.register.records))
    rw [content] at others
    exact content ▸ others

end

/-! ## CLAIM_EXPIRED (R147) -/

theorem expiryDue_iff {r : ClaimRecord} : expiryDue r = true ↔ r.own = false ∧ 12 ≤ r.frameAge := by
  simp only [expiryDue, Bool.and_eq_true, Bool.not_eq_true', decide_eq_true_eq]
  exact Iff.rfl

section
variable {s : State} {key : ClaimKey} {r : ClaimRecord}

theorem exec_claimExpired (hw : s.working = true) (tripless : NoTripTable s) :
    exec (.claimExpired key) s = .next (settle (expireClaim key s)) := by
  rw [← reporting_of_noTripTable (tripless.within (keeps_expireClaim key s))]
  exact next_whileWorking hw _

theorem expireClaim_of_young (found : findRecord s.register.records key = some r) (young : expiryDue r = false) :
    expireClaim key s = s := by
  simp [expireClaim, found, young]

/-- The state whose expired record is removed: CLAIM_EXPIRED is recorded of a STANDING one (R147). -/
def expiryRecorded (r : ClaimRecord) (s : State) : State :=
  if r.status = .standing then record s .claimExpired (.claim r.key) (some r.span) (.named .silent) else s

theorem expiryRecorded_eq (r : ClaimRecord) (s : State) : expiryRecorded r s = { s with port := (expiryRecorded r s).port } := by
  unfold expiryRecorded
  split <;> rfl

/-- A heard record's expiry removes the records of its key, and no series, pin or cell with them. -/
theorem expireClaim_of_due (found : findRecord s.register.records key = some r) (due : expiryDue r = true)
    (heard : ∀ x ∈ s.register.records, x.key = key → x.own = false) :
    expireClaim key s = rejudgePairs ((expiryRecorded r s).setRecords (removeRecord key s.register.records)) := by
  obtain ⟨mem, is⟩ := findRecord_some found
  have records : (expiryRecorded r s).register = s.register := by rw [expiryRecorded_eq]
  have removed : expireClaim key s = removeRecords (fun x => x.key = key) (expiryRecorded r s) := by
    simp [expireClaim, found, due, expiryRecorded, ClaimRecord.standing, recordClaim]
  rw [removed, removeRecords_of_some ⟨r, records ▸ mem, decide_eq_true is⟩, records, releaseHolds_of_heard fun x hx => ?_]
  · simp [removeRecord]
  · obtain ⟨there, same⟩ := List.mem_filter.mp hx
    exact heard x there (of_decide_eq_true same)

/-- It touches the register and the events alone: no pair is new where one record fewer stands. -/
theorem expireClaim_eq (listed : s.register.pairs = pairsOf s.register.records)
    (found : findRecord s.register.records key = some r) (due : expiryDue r = true)
    (heard : ∀ x ∈ s.register.records, x.key = key → x.own = false) :
    expireClaim key s = { s with register := (expireClaim key s).register, port := (expiryRecorded r s).port } := by
  rw [expireClaim_of_due found due heard, rejudgePairs_of_no_new fun p hp => ?_, expiryRecorded_eq]
  · rfl
  · rw [expiryRecorded_eq]
    exact listed ▸ pairsOf_subset (fun x hx _ => (List.mem_filter.mp hx).1) p hp

/-- The re-judging adds the link to what a change of register and events has touched. -/
theorem settle_of_register_port {s u : State} (h : u = { s with register := u.register, port := u.port }) :
    settle u = { s with register := (settle u).register, port := (settle u).port, link := (settle u).link } := by
  rw [settle_register, settle_port]
  refine (settle_eq u).trans ?_
  generalize (settle u).link = l
  exact congrArg (fun v : State => { v with link := l }) h

/-- An expired heard record leaves the register, a STANDING one with its event, and takes nothing else with it. -/
theorem claim_expires (hw : s.working = true) (listed : s.register.pairs = pairsOf s.register.records)
    (found : findRecord s.register.records key = some r) (due : expiryDue r = true)
    (heard : ∀ x ∈ s.register.records, x.key = key → x.own = false) :
    let t := settle (expireClaim key s)
    t.register.records.map ClaimRecord.key = (s.register.records.map ClaimRecord.key).filter (fun x => x ≠ key) ∧
    t.register.pairs = pairsOf t.register.records ∧
    (r.status = .standing → t.port = (record s .claimExpired (.claim key) (some r.span) (.named .silent)).port) ∧
    (r.status ≠ .standing → t.port = s.port) ∧
    t = { s with register := t.register, port := t.port, link := t.link } ∧ LinkSettled s.link t := by
  obtain ⟨-, is⟩ := findRecord_some found
  have judged := congrArg State.register (expireClaim_of_due found due heard)
  have frame := expireClaim_eq listed found due heard
  generalize expireClaim key s = u at judged frame
  have run : u.run = s.run := by rw [frame]
  have link : u.link = s.link := by rw [frame]
  have port : u.port = (expiryRecorded r s).port := by rw [frame]
  have settled : LinkSettled u.link (settle u) := settle_linkSettled (by rw [run]; exact State.working_run hw)
  intro t
  refine ⟨?_, ?_, fun standing => ?_, fun other => ?_, settle_of_register_port (port ▸ frame), link ▸ settled⟩
  · rw [settle_register, judged, rejudgePairs_keys]
    simp [removeRecord, List.filter_map, Function.comp_def]
  · rw [settle_register, judged]
    exact rejudgePairs_pairs _
  · rw [settle_port, port, expiryRecorded, if_pos standing, is]
  · rw [settle_port, port, expiryRecorded, if_neg other]

end

/-! ## O55 -/

/-- Settles O55: a refresh and an expiry by their commands, and the own hand-offs by the wanted and the held form. -/
theorem claimsAreRefreshedAndExpire : Obligations.ClaimsAreRefreshedAndExpire := by
  refine ⟨fun s hw tripless ⟨_, _, owned, _⟩ => ⟨fun kind fin r found own => ⟨fun standing old => ?_, fun young => ?_⟩,
    fun key r listed found heard => ⟨fun old => ?_, fun young => ?_⟩⟩,
    fun epoch kind fin w s tripless ⟨_, _, owned, _⟩ wants => ?_⟩
  · exact ⟨_, exec_claimRefresh hw tripless, claim_is_refreshed hw found (refreshDue_iff.mpr ⟨own, standing, old⟩)⟩
  · have notDue : refreshDue r = false := Bool.eq_false_iff.mpr fun due => by
      obtain ⟨-, standing, old⟩ := refreshDue_iff.mp due
      rcases young with other | young
      · exact other standing
      · omega
    refine ⟨_, exec_claimRefresh hw tripless, ?_⟩
    rw [refreshIfDue_of_young (key := ownKey s kind fin) found notDue]
    exact ⟨settle_eq s, settle_linkSettled (State.working_run hw)⟩
  · have others : ∀ x ∈ s.register.records, x.key = key → x.own = false := fun x hx same => by
      obtain ⟨mem, is⟩ := findRecord_some found
      rw [Bool.eq_false_iff, Ne, owned x hx, same, ← is, ← owned r mem, heard]
      decide
    exact ⟨_, exec_claimExpired hw tripless, claim_expires hw listed found (expiryDue_iff.mpr ⟨heard, old⟩) others⟩
  · have notDue : expiryDue r = false := Bool.eq_false_iff.mpr fun due => by
      obtain ⟨-, old⟩ := expiryDue_iff.mp due
      omega
    refine ⟨_, exec_claimExpired hw tripless, ?_⟩
    rw [expireClaim_of_young found notDue]
    exact ⟨settle_eq s, settle_linkSettled (State.working_run hw)⟩
  · have want := wanted_eq wants
    refine ⟨fun held unwanted => handOff_idle (want.trans unwanted) held, fun r held fits => handOff_leaves want held fits,
      fun r held standing m wm differs => ?_, fun r held standing unwanted => ?_, fun free m wm k near => ?_⟩
    · rw [handOff_changes tripless (want.trans wm) held standing differs]
      exact changeMask_changes held
    · rw [handOff_releases tripless (want.trans unwanted) held standing, ← farEnd_eq]
      exact releaseOwn_releases held rfl owned
    · refine handOff_raises tripless (want.trans wm) (fun r held => ?_) ((congrArg s.peers.adjacent (sideOf_eq fin)).trans near)
      rcases free with none | ⟨x, found, released⟩
      · exact nomatch none.symm.trans held
      · obtain rfl := Option.some.inj (found.symm.trans held)
        exact released

end Sys2Proof.Machine

/-! The verdict cells and the map, said of cells, lists of map entries and evidence alone (R118 to R126). -/

namespace Sys2Proof.Machine

/-! ## The moves of a cell (R126) -/

section
variable {k : Nat} {c : Cell}

theorem move_of_clear (h : c.state = .clear) :
    c.move k .isTrue = { c with state := .watch, condition := 1, unknowns := 0, verdict := .isTrue } ∧
    c.move k .isFalse = { c with unknowns := 0, verdict := .isFalse } ∧
    c.move k .unknown = { c with verdict := .unknown } := by
  simp [Cell.move, Cell.onTrue, Cell.onFalse, Cell.onUnknown, h]

/-- A TRUE verdict in WATCH counts, and the K-th takes the cell to HELD. -/
theorem watch_isTrue (h : c.state = .watch) :
    (c.condition + 1 < k →
      c.move k .isTrue = { c with condition := c.condition + 1, unknowns := 0, verdict := .isTrue }) ∧
    (k ≤ c.condition + 1 →
      c.move k .isTrue = { c with state := .held, condition := k, unknowns := 0, verdict := .isTrue }) := by
  refine ⟨fun few => ?_, fun enough => ?_⟩
  · simp [Cell.move, Cell.onTrue, Cell.count, h, Nat.not_le.mpr few]
  · simp [Cell.move, Cell.onTrue, Cell.count, h, enough]

/-- Of UNKNOWN verdicts in WATCH the third gives the cell up. -/
theorem watch_unknown (h : c.state = .watch) :
    (c.unknowns < 2 → c.move k .unknown = { c with unknowns := c.unknowns + 1, verdict := .unknown }) ∧
    (2 ≤ c.unknowns → (c.move k .unknown).state = .clear ∧ (c.move k .unknown).condition = 0 ∧
      (c.move k .unknown).verdict = .unknown) := by
  refine ⟨fun few => ?_, fun enough => ?_⟩
  · have run : raise 255 c.unknowns = c.unknowns + 1 := if_pos (by omega)
    have short : ¬ Config.watchUnknowns ≤ c.unknowns + 1 := by unfold Config.watchUnknowns; omega
    simp [Cell.move, Cell.onUnknown, h, run, short]
  · have long : Config.watchUnknowns ≤ raise 255 c.unknowns := by
      unfold raise Config.watchUnknowns
      split <;> omega
    simp [Cell.move, Cell.onUnknown, h, long]

theorem watch_isFalse (h : c.state = .watch) :
    c.move k .isFalse = { c with state := .clear, condition := 0, unknowns := 0, verdict := .isFalse } := by
  simp [Cell.move, Cell.onFalse, h]

theorem move_of_held (h : c.state = .held) :
    c.move k .isTrue = { c with unknowns := 0, verdict := .isTrue } ∧
    c.move k .isFalse = { c with state := .fading, falses := 1, unknowns := 0, verdict := .isFalse } ∧
    (c.unknowns ≤ 255 → c.move k .unknown = { c with unknowns := min 255 (c.unknowns + 1), verdict := .unknown }) := by
  refine ⟨?_, ?_, fun bound => ?_⟩
  · simp [Cell.move, Cell.onTrue, h]
  · simp [Cell.move, Cell.onFalse, h]
  · simp [Cell.move, Cell.onUnknown, h, raise_eq_min bound]

theorem move_of_fading (h : c.state = .fading) :
    c.move k .isTrue = { c with state := .held, falses := 0, unknowns := 0, verdict := .isTrue } ∧
    (c.falses + 1 < k →
      c.move k .isFalse = { c with falses := c.falses + 1, unknowns := 0, verdict := .isFalse }) ∧
    (k ≤ c.falses + 1 → c.move k .isFalse =
      { c with state := .clear, falses := 0, condition := 0, unknowns := 0, verdict := .isFalse }) ∧
    c.move k .unknown = { c with verdict := .unknown } := by
  refine ⟨?_, fun few => ?_, fun enough => ?_, ?_⟩
  · simp [Cell.move, Cell.onTrue, h]
  · simp [Cell.move, Cell.onFalse, h, Nat.not_le.mpr few]
  · simp [Cell.move, Cell.onFalse, h, enough]
  · simp [Cell.move, Cell.onUnknown, h]

/-- TRUE verdicts in a row from CLEAR: below K they are counted in WATCH, from the K-th on the cell is HELD. -/
theorem isTrue_in_a_row (two : 2 ≤ k) (h : c.state = .clear) (n : Nat) :
    (n + 1 < k → ((Cell.move k .isTrue)^[n + 1] c).state = .watch ∧ ((Cell.move k .isTrue)^[n + 1] c).condition = n + 1) ∧
    (k ≤ n + 1 → ((Cell.move k .isTrue)^[n + 1] c).state = .held) := by
  induction n with
  | zero =>
    obtain ⟨first, -, -⟩ := move_of_clear (k := k) h
    refine ⟨fun _ => ?_, fun enough => by omega⟩
    rw [Function.iterate_one, first]
    exact ⟨rfl, rfl⟩
  | succ n ih =>
    obtain ⟨counted, held⟩ := ih
    rw [Function.iterate_succ_apply']
    generalize (Cell.move k .isTrue)^[n + 1] c = x at counted held
    by_cases few : n + 1 < k
    · obtain ⟨watch, count⟩ := counted few
      obtain ⟨goesOn, reaches⟩ := watch_isTrue (k := k) watch
      refine ⟨fun more => ?_, fun enough => ?_⟩
      · rw [goesOn (by omega)]
        exact ⟨watch, by rw [count]⟩
      · rw [reaches (by omega)]
    · refine ⟨fun more => by omega, fun _ => ?_⟩
      obtain ⟨stays, -, -⟩ := move_of_held (k := k) (held (by omega))
      rw [stays]
      exact held (by omega)

end

/-! ## The map (R118, R119) -/

theorem insertByPosition_perm (m : MapEntry) (l : List MapEntry) : (insertByPosition m l).Perm (m :: l) := by
  induction l with
  | nil => exact .refl _
  | cons x l ih =>
    unfold insertByPosition
    split
    · exact (ih.cons x).trans (.swap m x l)
    · exact .refl _

theorem insertByPosition_sorted (m : MapEntry) {l : List MapEntry} (h : l.Pairwise (fun a b => a.position ≤ b.position)) :
    (insertByPosition m l).Pairwise (fun a b => a.position ≤ b.position) := by
  induction l with
  | nil => simp [insertByPosition]
  | cons x l ih =>
    obtain ⟨first, rest⟩ := List.pairwise_cons.mp h
    unfold insertByPosition
    split
    · next le =>
      refine List.pairwise_cons.mpr ⟨fun y hy => ?_, ih rest⟩
      rcases List.mem_cons.mp ((insertByPosition_perm m l).mem_iff.mp hy) with rfl | hy
      · exact le
      · exact first y hy
    · next gt =>
      refine List.pairwise_cons.mpr ⟨fun y hy => ?_, h⟩
      rcases List.mem_cons.mp hy with rfl | hy
      · omega
      · exact (Nat.le_of_not_le gt).trans (first y hy)

theorem foldr_insertByPosition (l : List MapEntry) : (l.foldr insertByPosition []).Perm l ∧
    (l.foldr insertByPosition []).Pairwise (fun a b => a.position ≤ b.position) := by
  induction l with
  | nil => exact ⟨.refl _, .nil⟩
  | cons m l ih =>
    obtain ⟨perm, sorted⟩ := ih
    exact ⟨(insertByPosition_perm m _).trans (perm.cons m), insertByPosition_sorted m sorted⟩

theorem pairedRecord_iff {e : EpochNum} {p : PeerEntry} {q : PeerRecord} : pairedRecord e p = some q ↔
    p.state = .active ∧ p.aligned = true ∧ p.mismatched = false ∧ p.ring.find? (fun y => y.epoch = e) = some q := by
  by_cases paired : p.state = .active ∧ p.aligned = true ∧ p.mismatched = false
  · simp [pairedRecord, paired]
  · simp only [pairedRecord]
    rw [if_neg (by simpa [and_assoc] using paired)]
    exact ⟨nofun, fun ⟨active, aligned, matched, _⟩ => absurd ⟨active, aligned, matched⟩ paired⟩

theorem mem_buildMap {image : Image} {r : EpochRecord} {es : List PeerEntry} {x : MapEntry} :
    x ∈ (buildMap image r es).entries ↔ x = ownMapEntry image r ∨ ∃ p ∈ es, ∃ q,
      p.state = .active ∧ p.aligned = true ∧ p.mismatched = false ∧ p.ring.find? (fun y => y.epoch = r.epoch) = some q ∧
      x = peerMapEntry image p q := by
  obtain ⟨perm, -⟩ := foldr_insertByPosition (ownMapEntry image r :: pairedEntries image r.epoch es)
  refine perm.mem_iff.trans (List.mem_cons.trans (or_congr_right ?_))
  simp only [pairedEntries, List.mem_filterMap, Option.map_eq_some_iff, pairedRecord_iff, and_assoc, eq_comm (a := x)]

theorem buildMap_sorted (image : Image) (r : EpochRecord) (es : List PeerEntry) :
    ((buildMap image r es).entries.map MapEntry.position).Pairwise (· ≤ ·) :=
  List.pairwise_map.mpr (foldr_insertByPosition _).2

/-! ## Located boundaries (R119 to R121) -/

theorem classify_iff {image : Image} (h : image.vdead < image.vlive) (v : Nat) :
    (classify image v = .energized ↔ image.vlive ≤ v) ∧ (classify image v = .collapsed ↔ v < image.vdead) := by
  unfold classify
  split
  · next live => exact ⟨iff_of_true rfl live, iff_of_false nofun (by omega)⟩
  · next below =>
    split
    · next partly => exact ⟨iff_of_false nofun below, iff_of_false nofun (by omega)⟩
    · next dead => exact ⟨iff_of_false nofun below, iff_of_true rfl (by omega)⟩

/-- The model's search finds the first pair. -/
theorem firstPair_isFirstPair {p : MapEntry → MapEntry → Bool} {test : MapEntry → MapEntry → Prop}
    (h : ∀ a b, p a b = true ↔ test a b) (l : List MapEntry) : IsFirstPair test l (firstPair p l) := by
  induction l with
  | nil => exact ⟨nofun, fun _ j a' b' ha => nomatch ha⟩
  | cons a l ih =>
    cases l with
    | nil => exact ⟨nofun, fun _ j a' b' _ hb => nomatch hb⟩
    | cons b l =>
      unfold firstPair
      split
      · next here =>
        refine ⟨fun x hx => ⟨0, a, b, rfl, rfl, (h a b).mp here, (Option.some.inj hx).symm, fun j _ _ hj => ?_⟩, nofun⟩
        omega
      · next elsewhere =>
        have first : ¬ test a b := fun holds => elsewhere ((h a b).mpr holds)
        obtain ⟨found, absent⟩ := ih
        refine ⟨fun x hx => ?_, fun hx j a' b' ha hb => ?_⟩
        · obtain ⟨k, c, d, hc, hd, holds, is, before⟩ := found x hx
          refine ⟨k + 1, c, d, hc, hd, holds, is, fun j a' b' hj ha hb => ?_⟩
          cases j with
          | zero =>
            obtain rfl := Option.some.inj ha
            obtain rfl := Option.some.inj hb
            exact first
          | succ j => exact before j a' b' (by omega) ha hb
        · cases j with
          | zero =>
            obtain rfl := Option.some.inj ha
            obtain rfl := Option.some.inj hb
            exact first
          | succ j => exact absent hx j a' b' ha hb

theorem phaseBoundaryOf_first (φ : Phase) (m : ContinuityMap) :
    IsFirstPair (fun a b => a.classes.get φ = .energized ∧ b.classes.get φ ≠ .energized) m.entries (phaseBoundaryOf φ m) :=
  firstPair_isFirstPair (fun a b => by simp) _

theorem residualBoundaryOf_first (image : Image) (m : ContinuityMap) :
    IsFirstPair (fun a b => image.rground ≤ a.means.r ∧ b.means.r * 256 < a.means.r * image.rsplit) m.entries
      (residualBoundaryOf image m) :=
  firstPair_isFirstPair (fun a b => by simp) _

/-! ## Verdicts (R123 to R125) -/

section
variable {image : Image} {φ : Phase} {o : EpochRecord} {snap : Option EpochRecord} {x : Evidence}

theorem openDownHolds_iff : openDownHolds image φ o snap x = true ↔ OpenDown image φ o snap x := by
  cases snap <;> simp [openDownHolds, OpenDown, and_assoc]

theorem openUpHolds_iff : openUpHolds image φ o snap x = true ↔ OpenUp image φ o snap x := by
  cases snap <;> simp [openUpHolds, OpenUp, and_assoc]

theorem groundDownHolds_iff : groundDownHolds image o snap x = true ↔ GroundDown image o snap x := by
  cases snap <;> simp [groundDownHolds, GroundDown, and_assoc]

theorem groundUpHolds_iff : groundUpHolds image o x = true ↔ GroundUp image o x := by
  have rise : announcedRise image x = true ↔
      ∀ c, x.announced = some c → (image.rstep : Int) ≤ (x.peer.means.r : Int) - c.values.r := by
    unfold announcedRise
    split
    · next c hc => simp [hc]
    · next hc => simp [hc]
  simp [groundUpHolds, GroundUp, rise, and_assoc]

end

/-- The verdict that a cell is given is the table's, where no COVERED own record stands before it. -/
theorem cellVerdict_is {s : State} {kind : ClaimKind} {fin : SpanEnd} {evidence : Option Evidence} {holds : Evidence → Bool}
    {condition : Evidence → Prop} (clear : ownCovered s kind fin = false) (h : ∀ x, holds x = true ↔ condition x) :
    VerdictIs s.detector.assessment False evidence condition (cellVerdict s kind fin evidence holds) := by
  unfold cellVerdict
  refine ⟨fun unjudged => if_pos ?_, fun judged _ => ?_⟩
  · rcases unjudged with blind | dead | covered
    · simp [blind]
    · simp [dead]
    · exact covered.elim
  · have seen : ¬ (s.detector.assessment = .blind ∨ s.detector.assessment = .deenergized) := by
      rcases judged with calm | disturbed
      · simp [calm]
      · simp [disturbed]
    rw [if_neg (by simpa [clear] using seen)]
    refine ⟨fun none => by rw [none]; rfl, fun x some => ?_⟩
    rw [some]
    exact ⟨fun yes => if_pos ((h x).mpr yes), fun no => if_neg fun yes => no ((h x).mp yes)⟩

end Sys2Proof.Machine

/-! A window close within an epoch, the assessment that it makes, and the own records raised for it (R66, R111, R116 to R130):
the statement O53. -/

namespace Sys2Proof.Machine

/-! ## What precedes the close: the ended cycle, the Linkage's timers, the evaluations of the reference -/

/-- The blocks that an assessment reads and moves. -/
def State.assessed (s : State) : Detector × PeerTable × Assessor × Register := (s.detector, s.peers, s.assessor, s.register)

theorem assessed_eq {s t : State} (h : t.assessed = s.assessed) :
    t.detector = s.detector ∧ t.peers = s.peers ∧ t.assessor = s.assessor ∧ t.register = s.register :=
  ⟨congrArg Prod.fst h, congrArg (·.2.1) h, congrArg (·.2.2.1) h, congrArg (·.2.2.2) h⟩

theorem timerByTripped_assessed (c : TrippedContent) (k : Nat) (s : State) : (timerByTripped c k s).assessed = s.assessed := by
  unfold timerByTripped
  split
  · rfl
  · split
    · split <;> rfl
    · rfl
  · split <;> rfl

theorem timersByTripped_assessed (c : TrippedContent) (s : State) : (timersByTripped c s).assessed = s.assessed := by
  unfold timersByTripped
  generalize List.range 8 = ks
  induction ks generalizing s with
  | nil => rfl
  | cons k ks ih => exact (ih _).trans (timerByTripped_assessed c k s)

/-- A TRIPPED with result FAILED covers nothing, and with nothing to evaluate it reaches no block of the assessment (R148, R166). -/
theorem offerTripped_assessed {s : State} (tripless : NoTripTable s) {c : TrippedContent} (failed : c.result = .failed) :
    (offerTripped evaluateTrips c s).assessed = s.assessed := by
  have covers : ∀ t, coverZone c t = t := fun t => by
    unfold coverZone
    rw [failed]
  unfold offerTripped
  rw [covers, evaluateTrips_of_noTripTable, timersByTripped_assessed]
  · rfl
  · exact tripless.within (((keeps_offerSeries _ s).trans (keeps_takeIntoTripList _ _ _)).trans (keeps_timersByTripped _ _))

theorem failIfDue_assessed {s : State} (tripless : NoTripTable s) (o : Output) : (failIfDue o s).assessed = s.assessed := by
  unfold failIfDue
  split
  · refine (offerTripped_assessed ?_ rfl).trans ?_
    · exact tripless.within ((keeps_setTrip o (fun s => { s.linkage.trip o with state := .failed, driven := false }) s).trans
        (keeps_record _ _ _ _ _))
    · cases o <;> rfl
  · rfl

theorem recordTracker_assessed (es : List TrackerEvent) (s : State) : (recordTracker es s).assessed = s.assessed := by
  induction es generalizing s with
  | nil => rfl
  | cons e es ih => exact ih _

theorem cycleEnded_assessed (s : State) : (cycleEnded s).assessed = s.assessed := by
  unfold cycleEnded endCycle
  dsimp only
  rw [patchStrobe_eq, advanceToSome_eq]
  rfl

/-- Whether an evaluation can act is a matter of run state and image alone (R159). -/
theorem NoTripTable.congr {s t : State} (tripless : NoTripTable s) (run : t.run = s.run) (image : t.port.image = s.port.image) :
    NoTripTable t := by
  unfold NoTripTable
  rw [run, image]
  exact tripless

/-- The state in which a boundary within an epoch finds the report window. -/
def boundaryEvaluated (s : State) : State := evaluateTracker (linkageTimers .continues (cycleEnded s))

theorem boundaryEvaluated_assessed {s : State} (tripless : NoTripTable s) :
    (boundaryEvaluated s).assessed = s.assessed := by
  obtain ⟨run, -⟩ := cycleEnded_run_timeline s
  have ended : NoTripTable (raiseConfirms (cycleEnded s)) := tripless.congr run (cycleEnded_image s)
  have timers : (linkageTimers .continues (cycleEnded s)).assessed = s.assessed :=
    (failIfDue_assessed (ended.within (keeps_failIfDue .trip0 _)) .trip1).trans
      ((failIfDue_assessed ended .trip0).trans (cycleEnded_assessed s))
  exact (recordTracker_assessed _ _).trans timers

/-- The history ring takes its records at the ends of epochs alone (R33). -/
theorem boundaryEvaluated_ring (s : State) : (boundaryEvaluated s).engine.ring = s.engine.ring := by
  have engine : (boundaryEvaluated s).engine = (cycleEnded s).engine :=
    TablesKept.engine_eq fun P => (keepsTables_linkageTimers .continues _).trans (keepsTables_evaluateTracker _)
  rw [engine, cycleEnded_engine, engineClosed_eq]
  rfl

/-- The epoch counter at a boundary within an epoch (R14). -/
theorem boundaryEvaluated_epoch {s : State} (hj : s.tracker.jump = none)
    (hc : s.tracker.cycleCount + 1 < s.tracker.epochLength) (hn : s.tracker.cycleIndex + 1 < s.port.image.n) :
    (boundaryEvaluated s).tracker.epoch = s.tracker.epoch ∧
      (boundaryEvaluated s).tracker.cycleIndex = s.tracker.cycleIndex + 1 := by
  have kind : boundaryKind (fall (windowsClosed s.tracker)) = .continues := by
    rw [windowsClosed_eq]
    unfold boundaryKind fall
    dsimp only
    rw [hj]
    exact if_pos hc
  have falls : (trackerFalls s.port.image (windowsClosed s.tracker)).epoch = s.tracker.epoch ∧
      (trackerFalls s.port.image (windowsClosed s.tracker)).cycleIndex = s.tracker.cycleIndex + 1 := by
    unfold trackerFalls advanceEpoch
    rw [kind, windowsClosed_eq]
    refine ⟨rfl, if_neg fun last => ?_⟩
    have index : s.tracker.cycleIndex = s.port.image.n - 1 := of_decide_eq_true (Bool.and_eq_true_iff.mp last).2
    omega
  have judged : (trackerJudged s).epoch = s.tracker.epoch ∧ (trackerJudged s).cycleIndex = s.tracker.cycleIndex + 1 := by
    unfold trackerJudged updateHealth
    split <;> exact falls
  unfold boundaryEvaluated
  rw [evaluateTracker_tracker, evaluateReference_eq]
  exact judged

/-- A boundary within an epoch at cycle index W closes the window before the next cycle begins (R66). -/
theorem boundaryBody_closes {s : State} (hj : s.tracker.jump = none) (hc : s.tracker.cycleCount + 1 < s.tracker.epochLength)
    (opened : s.link.windowOpen = true) (hw : s.tracker.cycleIndex + 1 = s.port.image.w) (hn : s.port.image.w < s.port.image.n) :
    boundaryBody s = strobeTimers (abandonBackoff (judgePosture (beginCycle
      (closeWindow s.tracker.epoch (boundaryEvaluated s))))) := by
  have kind : boundaryKind (windowsClosed s.tracker) = .continues := by
    rw [boundaryKind, windowsClosed_eq, hj]
    exact if_pos hc
  obtain ⟨epoch, index⟩ := boundaryEvaluated_epoch hj hc (hw ▸ hn)
  have image : (boundaryEvaluated s).port.image = s.port.image := (evaluated_kept .continues s).2.2
  have window : (boundaryEvaluated s).link.windowOpen = true := by
    unfold boundaryEvaluated
    rw [evaluated_link]
    exact opened
  have closes : boundaryContinues (boundaryEvaluated s) = closeWindow s.tracker.epoch (boundaryEvaluated s) := by
    unfold boundaryContinues
    rw [window, index, image, hw, epoch]
    simp
  unfold boundaryBody
  simp only [advanceToSome_tracker, advanceToSome_port, kind]
  rw [← closes]
  rfl

/-! ## The assessment (R111, R116, R119 to R127) -/

/-- An adjacency that stands as R111 gives it stays as it stands. -/
theorem evaluateAdjacency_of_standing {s : State}
    (up : s.peers.adjacentUp = evaluateSide s.port.image.position .up s.peers.entries)
    (down : s.peers.adjacentDown = evaluateSide s.port.image.position .down s.peers.entries) : evaluateAdjacency s = s := by
  unfold evaluateAdjacency
  dsimp only
  rw [← up, ← down]
  have same : setAdjacent .up s.peers.adjacentUp s = s := if_pos rfl
  rw [same]
  exact if_pos rfl

theorem recordLocated_eq (n : Nat) (a b : Option Span) (s : State) :
    recordLocated n a b s = s.setPort (recordLocated n a b s).port := by
  unfold recordLocated
  split <;> rfl

/-- The assessor with the map of a record and its boundaries (R119 to R121). -/
def mapTaken (image : Image) (r : EpochRecord) (es : List PeerEntry) (a : Assessor) : Assessor :=
  let m := buildMap image r es
  { a with
    lastEpoch := some r.epoch, map := some m
    phaseBoundary := ⟨phaseBoundaryOf .one m, phaseBoundaryOf .two m, phaseBoundaryOf .three m⟩
    residualBoundary := residualBoundaryOf image m }

/-- With no record in the register there is no flag to judge (R153), and nothing to report. -/
theorem reporting_judgeAgreement_of_empty {s : State} (empty : s.register.records = []) : reporting judgeAgreement s = s := by
  have nothing : judgeAgreement s = s := by
    unfold judgeAgreement State.setRecords
    rw [empty, List.map_nil, ← empty]
  unfold reporting
  rw [nothing]
  exact if_pos rfl

/-- Stage 2 with no record to judge: map, boundaries and their events. -/
theorem takeMap_eq {s : State} (empty : s.register.records = []) (r : EpochRecord) : ∃ p,
    takeMap r s = (s.setAssessor (mapTaken s.port.image r s.peers.entries s.assessor)).setPort p := by
  have events : ∀ (t : State) (a1 b1 a2 b2 a3 b3 a0 b0 : Option Span), ∃ p, recordLocated 0 a0 b0 (recordLocated 3 a3 b3
      (recordLocated 2 a2 b2 (recordLocated 1 a1 b1 t))) = t.setPort p := fun t a1 b1 a2 b2 a3 b3 a0 b0 => by
    rw [recordLocated_eq 1]
    generalize (recordLocated 1 a1 b1 t).port = p1
    rw [recordLocated_eq 2]
    generalize (recordLocated 2 a2 b2 (t.setPort p1)).port = p2
    rw [recordLocated_eq 3]
    generalize (recordLocated 3 a3 b3 ((t.setPort p1).setPort p2)).port = p3
    exact ⟨_, recordLocated_eq ..⟩
  obtain ⟨p, located⟩ := events (s.setAssessor (mapTaken s.port.image r s.peers.entries s.assessor)) _ _ _ _ _ _ _ _
  exact ⟨p, (congrArg (reporting judgeAgreement) located).trans (reporting_judgeAgreement_of_empty empty)⟩

theorem ownCovered_of_empty {s : State} (empty : s.register.records = []) (kind : ClaimKind) (fin : SpanEnd) :
    ownCovered s kind fin = false := by
  simp [ownCovered, empty]

/-- The cells of an assessor `a` moved to those of `b` by the verdicts of one assessment (R123 to R126), in the words of O53. -/
structure CellsMoved (image : Image) (o : EpochRecord) (peers : PeerTable) (d : Detector) (a b : Assessor) : Prop where
  openDown : ∀ φ, ∃ v, VerdictIs d.assessment False (sideEvidence o.epoch .down peers) (OpenDown image φ o d.snapshot) v ∧
    b.openDown.get φ = (a.openDown.get φ).move image.k v
  openUp : ∀ φ, ∃ v, VerdictIs d.assessment False (sideEvidence o.epoch .up peers) (OpenUp image φ o d.snapshot) v ∧
    b.openUp.get φ = (a.openUp.get φ).move image.k v
  groundDown : ∃ v, VerdictIs d.assessment False (sideEvidence o.epoch .down peers) (GroundDown image o d.snapshot) v ∧
    b.groundDown = a.groundDown.move image.k v
  groundUp : ∃ v, VerdictIs d.assessment False (sideEvidence o.epoch .up peers) (GroundUp image o) v ∧
    b.groundUp = a.groundUp.move image.k v

/-- Stage 3 with no record COVERED. -/
theorem moveCells_moves {s : State} (clear : ∀ kind fin, ownCovered s kind fin = false) (o : EpochRecord) :
    CellsMoved s.port.image o s.peers s.detector s.assessor (moveCells o s).assessor where
  openDown φ := ⟨_, cellVerdict_is (clear .openConductor .u) fun _ => openDownHolds_iff, by cases φ <;> rfl⟩
  openUp φ := ⟨_, cellVerdict_is (clear .openConductor .d) fun _ => openUpHolds_iff, by cases φ <;> rfl⟩
  groundDown := ⟨_, cellVerdict_is (clear .ground .u) fun _ => groundDownHolds_iff, rfl⟩
  groundUp := ⟨_, cellVerdict_is (clear .ground .d) fun _ => groundUpHolds_iff, rfl⟩

/-- Stages 2 and 3 with no record in the register (R116, R119 to R127). -/
theorem moveCells_takeMap {s : State} (empty : s.register.records = []) (r : EpochRecord) :
    let a := (moveCells r (takeMap r s)).assessor
    let m := buildMap s.port.image r s.peers.entries
    a.lastEpoch = some r.epoch ∧ a.map = some m ∧ (∀ φ, a.phaseBoundary.get φ = phaseBoundaryOf φ m) ∧
    a.residualBoundary = residualBoundaryOf s.port.image m ∧
    CellsMoved s.port.image r s.peers s.detector s.assessor a := by
  have image : (takeMap r s).port.image = s.port.image := (keeps_takeMap r s).coreKept.image
  obtain ⟨p, taken⟩ := takeMap_eq empty r
  have moved := moveCells_moves (s := takeMap r s) (ownCovered_of_empty (by rw [taken]; exact empty)) r
  rw [image, taken] at moved
  rw [taken]
  exact ⟨rfl, rfl, fun φ => by cases φ <;> rfl, rfl, moved.openDown, moved.openUp, moved.groundDown, moved.groundUp⟩

/-! ## The own records of an assessment (R129, R130) -/

/-- What an own record is where none was held before the assessment: absent where none is wanted, and raised where one is and the
side has an adjacent peer. -/
def Mirrors (epoch : EpochNum) (s : State) (kind : ClaimKind) (fin : SpanEnd) (held : Option ClaimRecord) : Prop :=
  (wanted s.assessor kind fin = none → held = none) ∧
  ∀ k, s.peers.adjacent (sideOf fin) = some k → ∀ mask, wanted s.assessor kind fin = some mask → ∃ x, held = some x ∧
    x.status = .standing ∧ x.span = raisedSpan s.port.image.position (peerAt s k).position fin ∧ x.mask = mask ∧
    x.raiseEpoch = epoch

/-- Flags judged anew make no difference. -/
theorem Mirrors.judged {epoch : EpochNum} {s : State} {kind : ClaimKind} {fin : SpanEnd} {held : Option ClaimRecord}
    (h : Mirrors epoch s kind fin held) (ps : List ClaimPair) (a : Assessor) :
    Mirrors epoch s kind fin (held.map (ClaimRecord.judged ps a)) := by
  obtain ⟨absent, raised⟩ := h
  refine ⟨fun unwanted => by rw [absent unwanted]; rfl, fun k near mask want => ?_⟩
  obtain ⟨x, rfl, is⟩ := raised k near mask want
  exact ⟨_, rfl, is⟩

/-- The hand-offs of `s`, whose register holds no record, as far as the own records in `made` are made in `t`. -/
structure Mirrored (epoch : EpochNum) (s : State) (made : List (ClaimKind × SpanEnd)) (t : State) : Prop where
  within : Within s t
  assessor : t.assessor = s.assessor
  adjacent : ∀ side, t.peers.adjacent side = s.peers.adjacent side
  position : ∀ k, (peerAt t k).position = (peerAt s k).position
  standing : ∀ x ∈ t.register.records, x.status = .standing
  coming : ∀ kind fin, (kind, fin) ∉ made → findRecord t.register.records (ownKey s kind fin) = none
  mirrors : ∀ kind fin, (kind, fin) ∈ made → Mirrors epoch s kind fin (findRecord t.register.records (ownKey s kind fin))

section
variable {epoch : EpochNum} {s t : State} {made : List (ClaimKind × SpanEnd)} {kind : ClaimKind} {fin : SpanEnd}

theorem Mirrored.begin (epoch : EpochNum) (empty : s.register.records = []) : Mirrored epoch s [] s where
  within := .refl s
  assessor := rfl
  adjacent _ := rfl
  position _ := rfl
  standing x hx := by
    rw [empty] at hx
    exact absurd hx List.not_mem_nil
  coming _ _ _ := by rw [empty]; rfl
  mirrors _ _ made := absurd made List.not_mem_nil

theorem Mirrored.ownKey_eq (h : Mirrored epoch s made t) (kind : ClaimKind) (fin : SpanEnd) :
    ownKey t kind fin = ownKey s kind fin := by
  unfold ownKey
  rw [h.within.coreKept.image]

/-- A hand-off that leaves the state as it stands makes its record by leaving it absent. -/
theorem Mirrored.left (h : Mirrored epoch s made t) (new : (kind, fin) ∉ made)
    (bare : wanted s.assessor kind fin = none ∨ s.peers.adjacent (sideOf fin) = none) :
    Mirrored epoch s ((kind, fin) :: made) t :=
  { h with
    coming := fun k f other => h.coming k f fun done => other (List.mem_cons_of_mem _ done)
    mirrors := fun k f done => by
      rcases List.mem_cons.mp done with same | done
      · obtain ⟨rfl, rfl⟩ := Prod.mk.inj same
        refine ⟨fun _ => h.coming _ _ new, fun slot near mask want => ?_⟩
        rcases bare with unwanted | alone
        · exact nomatch unwanted.symm.trans want
        · exact nomatch alone.symm.trans near
      · exact h.mirrors k f done }

theorem pin_position (position : Nat) (s : State) (k : Nat) : (peerAt (pin position s) k).position = (peerAt s k).position := by
  have same : ∀ e : PeerEntry, (if e.state ≠ .free ∧ e.position = position then { e with pinned := e.pinned + 1 } else e).position =
      e.position := fun e => by
    split <;> rfl
  unfold peerAt pin
  rw [adjustPin_eq]
  simp only [pinnedAt, List.getD_eq_getElem?_getD, List.getElem?_map]
  cases s.peers.entries[k]? with
  | none => rfl
  | some e => exact same e

/-- A raise makes its record and judges the flags of the others. -/
theorem Mirrored.raised (h : Mirrored epoch s made t) (new : (kind, fin) ∉ made) {mask : PerPhase Bool}
    (want : wanted s.assessor kind fin = some mask) {k : Nat} (near : s.peers.adjacent (sideOf fin) = some k) :
    Mirrored epoch s ((kind, fin) :: made) (raiseOwn epoch
      ⟨raisedSpan s.port.image.position (peerAt s k).position fin, kind, mask, fin⟩ (pin (peerAt s k).position t)) := by
  generalize hc : (⟨raisedSpan s.port.image.position (peerAt s k).position fin, kind, mask, fin⟩ : ClaimContent) = c
  generalize hu : pin (peerAt s k).position t = u
  have pinned : u = { t with peers := { t.peers with entries := u.peers.entries } } := by
    rw [← hu]
    rfl
  have key : ownKey u c.kind c.fin = ownKey s kind fin := by
    rw [pinned, ← hc]
    exact h.ownKey_eq kind fin
  have records : u.register = t.register := by rw [pinned]
  have raises := raiseOwn_register epoch c u
  rw [key] at raises
  generalize hr : standingRecord epoch (ownKey s kind fin) u.port.image.position c true = r at raises
  have rkey : r.key = ownKey s kind fin := by rw [← hr]; rfl
  have others : ∀ k' f', (k', f') ≠ (kind, fin) → ∃ ps a, findRecord (raiseOwn epoch c u).register.records (ownKey s k' f') =
      (findRecord t.register.records (ownKey s k' f')).map (ClaimRecord.judged ps a) := fun k' f' differs => by
    have other : ownKey s k' f' ≠ r.key := fun same => differs (by
      rw [rkey] at same
      obtain ⟨-, rfl, rfl⟩ := (ClaimKey.mk.injEq ..).mp same
      rfl)
    obtain ⟨ps, found⟩ := findRecord_placeRecord_ne other u
    exact ⟨ps, u.assessor, by rw [raises, found, records]⟩
  constructor
  case within =>
    refine (h.within.trans ?_).trans (keeps_raiseOwn epoch c u)
    rw [pinned]
    constructor <;> rfl
  case assessor =>
    rw [raiseOwn_eq, raised_eq, pinned]
    exact h.assessor
  case adjacent =>
    intro side
    rw [raiseOwn_eq, raised_eq, pinned, ← h.adjacent side]
    cases side <;> rfl
  case position =>
    intro j
    have same : peerAt (raiseOwn epoch c u) j = peerAt u j := by
      rw [raiseOwn_eq, raised_eq]
      rfl
    rw [same, ← hu, pin_position, h.position]
  case standing =>
    intro x hx
    obtain ⟨ps, placed⟩ := placeRecord_records r u
    rw [raises, placed] at hx
    obtain ⟨y, hy, rfl⟩ := List.mem_map.mp hx
    rcases List.mem_append.mp hy with old | last
    · exact h.standing y (records ▸ (List.mem_filter.mp old).1)
    · rw [List.mem_singleton.mp last, ← hr]
      rfl
  case coming =>
    intro k' f' other
    obtain ⟨ps, a, found⟩ := others k' f' fun same => other (same ▸ List.mem_cons_self)
    rw [found, h.coming k' f' fun done => other (List.mem_cons_of_mem _ done)]
    rfl
  case mirrors =>
    intro k' f' done
    by_cases same : (k', f') = (kind, fin)
    · obtain ⟨rfl, rfl⟩ := Prod.mk.inj same
      obtain ⟨ps, found⟩ := findRecord_placeRecord_same r u
      rw [raises, ← rkey, found]
      refine ⟨fun unwanted => (nomatch unwanted.symm.trans want), fun slot next m wm => ⟨_, rfl, ?_⟩⟩
      obtain rfl := Option.some.inj (near.symm.trans next)
      obtain rfl := Option.some.inj (want.symm.trans wm)
      rw [← hr, ← hc]
      exact ⟨rfl, rfl, rfl, rfl⟩
    · obtain ⟨ps, a, found⟩ := others k' f' same
      rw [found]
      exact (h.mirrors k' f' ((List.mem_cons.mp done).resolve_left same)).judged ps a

/-- Each hand-off makes its own record, with nothing to evaluate. -/
theorem Mirrored.handOff (h : Mirrored epoch s made t) (tripless : NoTripTable s) (new : (kind, fin) ∉ made) :
    Mirrored epoch s ((kind, fin) :: made) (handOff epoch kind fin t) := by
  have held : findRecord t.register.records (ownKey t kind fin) = none := by
    rw [h.ownKey_eq]
    exact h.coming kind fin new
  cases want : wanted s.assessor kind fin with
  | none =>
    rw [handOff_idle (by rw [h.assessor, want]) held]
    exact h.left new (.inl want)
  | some mask =>
    rw [handOff_asks (by rw [h.assessor, want]) fun r found => nomatch held.symm.trans found]
    cases near : s.peers.adjacent (sideOf fin) with
    | none =>
      have alone : raiseClaim epoch kind fin mask t = t := by
        unfold raiseClaim
        rw [h.adjacent, near]
      rw [alone]
      exact h.left new (.inr near)
    | some k =>
      rw [raiseClaim_eq (tripless.within h.within) ((h.adjacent _).trans near), h.position, h.within.coreKept.image]
      exact h.raised new want near

/-- The four hand-offs of an assessment that finds no record in the register. -/
theorem mirrorClaims_mirrored (epoch : EpochNum) (tripless : NoTripTable s) (empty : s.register.records = []) :
    Mirrored epoch s [(.ground, .d), (.ground, .u), (.openConductor, .d), (.openConductor, .u)] (mirrorClaims epoch s) :=
  ((((Mirrored.begin epoch empty).handOff tripless (by decide)).handOff tripless (by decide)).handOff tripless
    (by decide)).handOff tripless (by decide)

end

/-! ## What follows the close: the cycle that begins, and its strobe -/

section
variable {s : State}

/-- Where all records stand, a close takes none with it (R49, R150). -/
theorem testCloseOnChange_of_standing (all : ∀ x ∈ s.register.records, x.status = .standing) :
    (testCloseOnChange s).register = s.register ∧ (testCloseOnChange s).assessor = s.assessor := by
  unfold testCloseOnChange
  split
  · rw [closeDisturbance_eq, removeRecords_of_none (s := calming s) fun x hx => by simp [all x hx]]
    exact ⟨rfl, rfl⟩
  · exact ⟨rfl, rfl⟩

/-- A completion where all records stand closes no RELEASE series of the register's (R72, R141). -/
theorem completeFrame_of_standing (tripless : NoTripTable s) (all : ∀ x ∈ s.register.records, x.status = .standing) :
    (completeFrame s).register = s.register ∧ (completeFrame s).assessor = s.assessor := by
  have told : ∀ (x : QueueSubject) (t : State), NoTripTable t → (∀ x ∈ t.register.records, x.status = .standing) →
      (tellOwner x t).register = t.register ∧ (tellOwner x t).assessor = t.assessor := by
    intro x t tripless all
    unfold tellOwner
    split
    · next kind fin =>
      rw [reporting_of_noTripTable (tripless.within (keeps_releaseClosed kind fin t))]
      unfold releaseClosed
      rw [removeRecords_of_none fun r hr => by simp [all r hr]]
      exact testCloseOnChange_of_standing all
    · exact ⟨rfl, rfl⟩
  unfold completeFrame completeSeries
  split
  · split
    · split
      · exact ⟨rfl, rfl⟩
      · split
        · exact told _ _ tripless all
        · exact ⟨rfl, rfl⟩
    · exact ⟨rfl, rfl⟩
  · exact ⟨rfl, rfl⟩

theorem strobeTimers_of_standing (tripless : NoTripTable s) (all : ∀ x ∈ s.register.records, x.status = .standing) :
    (strobeTimers s).register = s.register ∧ (strobeTimers s).assessor = s.assessor := by
  have completes : (completeIfDue (s.setLink (countStrobe s.link))).register = s.register ∧
      (completeIfDue (s.setLink (countStrobe s.link))).assessor = s.assessor := by
    unfold completeIfDue
    split
    · rw [countTimeout_of_noTripTable _ (.inl (completeFrame_noTripTable (s := s.setLink (countStrobe s.link)) tripless))]
      exact completeFrame_of_standing (s := s.setLink (countStrobe s.link)) tripless all
    · exact ⟨rfl, rfl⟩
  unfold strobeTimers
  rw [endBackoffIfDue_eq, endReceptionIfDue_eq]
  exact completes

theorem strobeTimers_windowOpen (s : State) : (strobeTimers s).link.windowOpen = s.link.windowOpen := by
  have ended : ∀ t : State, (endBackoffIfDue t).link.windowOpen = t.link.windowOpen := fun t => by
    unfold endBackoffIfDue endBackoff
    split
    · split
      · split <;> rfl
      · rfl
    · rfl
  obtain ⟨q, counted⟩ := strobeCounted_link s
  rw [strobeTimers_eq, ended, counted, receptionCounted_eq, completionCounted_eq]
  rfl

/-- The cycle that begins leaves window, register and assessor as the close has left them. -/
theorem settled_cycleBegins (hr : s.run ≠ .config) (tripless : NoTripTable s)
    (all : ∀ x ∈ s.register.records, x.status = .standing) :
    let t := settle (strobeTimers (abandonBackoff (judgePosture (beginCycle s))))
    t.register = s.register ∧ t.assessor = s.assessor ∧ t.link.windowOpen = s.link.windowOpen := by
  have begun : abandonBackoff (judgePosture (beginCycle s)) = { beginCycle s with
      link := (abandonBackoff (judgePosture (beginCycle s))).link } := by
    rw [abandonBackoff_eq]
    rfl
  have window : (abandonBackoff (judgePosture (beginCycle s))).link.windowOpen = s.link.windowOpen := abandonBackoff_windowOpen _
  generalize abandonBackoff (judgePosture (beginCycle s)) = u at begun window
  have register : u.register = s.register := by rw [begun]; rfl
  have assessor : u.assessor = s.assessor := by rw [begun]; rfl
  have run : u.run = s.run := by rw [begun]; rfl
  have idle : NoTripTable u := by rw [begun]; exact tripless
  obtain ⟨records, cells⟩ := strobeTimers_of_standing idle (register ▸ all)
  have settled : LinkSettled _ (settle (strobeTimers u)) := settle_linkSettled (by rw [strobeTimers_run, run]; exact hr)
  obtain ⟨stays, -⟩ := settled.counters
  refine ⟨(settle_register _).trans (records.trans register), ?_, stays.trans ((strobeTimers_windowOpen u).trans window)⟩
  rw [settle_eq]
  exact cells.trans assessor

end

/-! ## The close of the window -/

/-- A window close that finds the adjacency standing: its state is the four hand-offs of the assessed
state, with the window CLOSED. -/
theorem closeWindow_assesses {s : State} {x : EpochNum} {r : EpochRecord} (tripless : NoTripTable s)
    (found : ringFind s.engine.ring (x - 1) = some r) (valid : r.invalid = false)
    (up : s.peers.adjacentUp = evaluateSide s.port.image.position .up s.peers.entries)
    (down : s.peers.adjacentDown = evaluateSide s.port.image.position .down s.peers.entries) : ∃ l, l.windowOpen = false ∧
      closeWindow x s = mirrorClaims x (moveCells r (takeMap r (s.setLink l))) := by
  refine ⟨(shutWindow x s).link, shutWindow_windowOpen x s, ?_⟩
  have shut : shutWindow x s = s.setLink (shutWindow x s).link := shutWindow_eq x s
  generalize (shutWindow x s).link = l at shut
  have held : validRecord (s.setLink l).engine.ring (x - 1) = some r := by
    unfold validRecord
    rw [State.setLink_engine, found]
    simp [Option.filter, valid]
  unfold closeWindow assess
  rw [shut, evaluateAdjacency_of_standing (s := s.setLink l) up down, held]
  exact evaluateTrips_of_noTripTable (NoTripTable.within (s := s.setLink l) tripless
    (((keeps_takeMap r _).trans (keeps_moveCells r _)).trans (keeps_mirrorClaims x _)))

/-! ## O53 -/

section
variable {s : State} {r : EpochRecord}

/-- Stages 2 and 3 leave peers and register as they stand. -/
theorem moveCells_takeMap_kept (empty : s.register.records = []) (r : EpochRecord) :
    (moveCells r (takeMap r s)).peers = s.peers ∧ (moveCells r (takeMap r s)).register = s.register := by
  obtain ⟨p, taken⟩ := takeMap_eq empty r
  rw [taken]
  exact ⟨rfl, rfl⟩

/-- A boundary that closes the window with no record in the register and the adjacency standing: what it leaves of register and
assessor are the four hand-offs `u` of the assessment of a state `v` with the blocks of `s`. -/
theorem boundary_assesses (hw : s.working = true) (hj : s.tracker.jump = none)
    (hc : s.tracker.cycleCount + 1 < s.tracker.epochLength) (opened : s.link.windowOpen = true)
    (hi : s.tracker.cycleIndex + 1 = s.port.image.w) (hn : s.port.image.w < s.port.image.n)
    (found : ringFind s.engine.ring (s.tracker.epoch - 1) = some r) (valid : r.invalid = false) (tripless : NoTripTable s)
    (empty : s.register.records = []) (up : s.peers.adjacentUp = evaluateSide s.port.image.position .up s.peers.entries)
    (down : s.peers.adjacentDown = evaluateSide s.port.image.position .down s.peers.entries) :
    ∃ u v : State, v.assessed = s.assessed ∧ v.port.image = s.port.image ∧
      Mirrored s.tracker.epoch (moveCells r (takeMap r v))
        [(.ground, .d), (.ground, .u), (.openConductor, .d), (.openConductor, .u)] u ∧
      (settle (boundaryBody s)).register = u.register ∧ (settle (boundaryBody s)).assessor = u.assessor ∧
      (settle (boundaryBody s)).link.windowOpen = false := by
  have assessed := boundaryEvaluated_assessed tripless
  have ring := boundaryEvaluated_ring s
  obtain ⟨run, image⟩ : (boundaryEvaluated s).run = s.run ∧ (boundaryEvaluated s).port.image = s.port.image := by
    obtain ⟨run, -, image⟩ := evaluated_kept .continues s
    exact ⟨run, image⟩
  rw [boundaryBody_closes hj hc opened hi hn]
  generalize boundaryEvaluated s = v at assessed ring run image
  obtain ⟨-, peers, -, register⟩ := assessed_eq assessed
  have idle : NoTripTable v := tripless.congr run image
  obtain ⟨l, shut, closes⟩ := closeWindow_assesses idle (ring ▸ found) valid (by rw [peers, image]; exact up)
    (by rw [peers, image]; exact down)
  have bare : (v.setLink l).register.records = [] := (congrArg Register.records register).trans empty
  have moved := (keeps_takeMap r (v.setLink l)).trans (keeps_moveCells r _)
  have still : NoTripTable (moveCells r (takeMap r (v.setLink l))) := NoTripTable.within (s := v.setLink l) idle moved
  obtain ⟨-, records⟩ := moveCells_takeMap_kept bare r
  have made := mirrorClaims_mirrored s.tracker.epoch still ((congrArg Register.records records).trans bare)
  rw [closes]
  generalize mirrorClaims s.tracker.epoch (moveCells r (takeMap r (v.setLink l))) = u at made
  have runs : u.run = s.run := (moved.trans made.within).run.trans run
  have window : u.link.windowOpen = false := by
    rw [(moved.trans made.within).link]
    exact shut
  obtain ⟨kept, cells, stays⟩ := settled_cycleBegins (by rw [runs]; exact State.working_run hw)
    (still.within made.within) made.standing
  exact ⟨u, v.setLink l, assessed, image, made, kept, cells, stays.trans window⟩

end

/-- Settles O53: the cells' moves state by state, map and boundaries by the searches that make them, and the close by the stages of
the assessment. -/
theorem cellsMoveByTheTable : Obligations.CellsMoveByTheTable := by
  refine ⟨fun k c => ⟨move_of_clear, fun watch => ?_, move_of_held, move_of_fading, rfl⟩, fun k n c two clear one => ?_,
    fun image r es => ⟨rfl, buildMap_sorted image r es, fun x => mem_buildMap⟩, fun image m v gap => ?_,
    fun r s hw hj hc opened hi hn found valid noEntry empty up down => ?_⟩
  · obtain ⟨counts, reaches⟩ := watch_isTrue (k := k) watch
    exact ⟨counts, reaches, watch_isFalse watch, watch_unknown watch⟩
  · obtain ⟨n, rfl⟩ : ∃ j, n = j + 1 := ⟨n - 1, by omega⟩
    obtain ⟨watch, held⟩ := isTrue_in_a_row two clear n
    split
    · next few => exact (watch few).1
    · next enough => exact held (Nat.le_of_not_lt enough)
  · obtain ⟨live, dead⟩ := classify_iff gap v
    exact ⟨live, dead, fun φ => phaseBoundaryOf_first φ m, residualBoundaryOf_first image m⟩
  · obtain ⟨u, v, assessed, image, made, register, assessor, window⟩ :=
      boundary_assesses hw hj hc opened hi hn found valid (.inr noEntry) empty up down
    obtain ⟨detector, peers, cells, claims⟩ := assessed_eq assessed
    have bare : v.register.records = [] := (congrArg Register.records claims).trans empty
    obtain ⟨epoch, map, phase, residual, moved⟩ := moveCells_takeMap bare r
    obtain ⟨samePeers, -⟩ := moveCells_takeMap_kept bare r
    have sameImage : (moveCells r (takeMap r v)).port.image = s.port.image :=
      ((keeps_takeMap r v).trans (keeps_moveCells r _)).coreKept.image.trans image
    rw [image, peers] at map phase residual moved
    rw [detector, cells] at moved
    have ended : r.epoch = s.tracker.epoch - 1 := by simpa using List.find?_some found
    refine ⟨_, exec_cycleBoundary hw, window, ?_⟩
    rw [register, assessor, made.assessor]
    refine ⟨ended ▸ epoch, map, phase, residual, fun φ => ⟨moved.openDown φ, moved.openUp φ⟩, moved.groundDown, moved.groundUp,
      fun kind fin => ?_⟩
    obtain ⟨absent, raised⟩ := made.mirrors kind fin (by cases kind <;> cases fin <;> decide)
    unfold ownKey at absent
    unfold ownKey peerAt at raised
    rw [sameImage] at absent
    rw [sameImage, samePeers, peers] at raised
    refine ⟨fun unwanted => absent (wanted_eq unwanted), fun k near mask want => ?_⟩
    exact raised k ((congrArg s.peers.adjacent (sideOf_eq fin)).trans near) mask (wanted_eq want)

end Sys2Proof.Machine

/-! The Claim Register's form (O8): the keys and places that R137 asks about, the pair list and the flags that R151 to R153 ask about,
and the frame `ClaimsKept`, that an operation keeps both, for the register, the Detector, the Trip Linkage and the assessment. -/

namespace Sys2Proof.Machine

/-! ## Keys and places (R137) -/

/-- All that R137 asks of a record: its key, and whether it is an own one. -/
def ClaimRecord.place (r : ClaimRecord) : ClaimKey × Bool := (r.key, r.own)

/-- The register's places in register order. -/
def places (s : State) : List (ClaimKey × Bool) := s.register.records.map ClaimRecord.place

/-- Distinct keys, at most 8 heard places, and own places exactly those under the station's id (R137). -/
structure PlacesOk (station : Nat) (l : List (ClaimKey × Bool)) : Prop where
  keys : (l.map Prod.fst).Nodup
  heard : (l.filter (fun p => !p.2)).length ≤ 8
  owned : ∀ p ∈ l, p.2 = true ↔ p.1.claimant = station

/-- The places of a state are in order under its own id. -/
def RecordsOk (s : State) : Prop := PlacesOk s.port.image.stationId (places s)

theorem heard_places (s : State) :
    ((places s).filter (fun p => !p.2)).length = (s.register.records.filter (fun r => !r.own)).length := by
  unfold places
  rw [List.filter_map, List.length_map]
  rfl

theorem registerOk_iff {s : State} : RegisterOk s ↔ RecordsOk s ∧ (s.run = .config → s.register.records = []) := by
  have keys : (places s).map Prod.fst = s.register.records.map ClaimRecord.key := List.map_map ..
  constructor
  · rintro ⟨single, heard, owned, bare⟩
    exact ⟨⟨keys ▸ single, heard_places s ▸ heard, List.forall_mem_map.mpr owned⟩, bare⟩
  · rintro ⟨⟨single, heard, owned⟩, bare⟩
    exact ⟨keys ▸ single, heard_places s ▸ heard, List.forall_mem_map.mp owned, bare⟩

section
variable {station : Nat} {l m : List (ClaimKey × Bool)} {key : ClaimKey} {own : Bool}

theorem PlacesOk.sublist (h : PlacesOk station l) (sub : m.Sublist l) : PlacesOk station m where
  keys := h.keys.sublist (sub.map _)
  heard := (sub.filter _).length_le.trans h.heard
  owned p hp := h.owned p (sub.subset hp)

/-- A place taken at the end, in place of any of its key: a heard one only where that leaves a heard place free. -/
theorem PlacesOk.append (h : PlacesOk station l) (is : own = true ↔ key.claimant = station)
    (room : own = false → ((l.filter (fun p => p.1 ≠ key)).filter (fun p => !p.2)).length < 8) :
    PlacesOk station (l.filter (fun p => p.1 ≠ key) ++ [(key, own)]) := by
  have kept : PlacesOk station (l.filter (fun p => p.1 ≠ key)) := h.sublist List.filter_sublist
  refine ⟨?_, ?_, ?_⟩
  · rw [List.map_append, List.nodup_append]
    refine ⟨kept.keys, by simp, fun k hk x hx => ?_⟩
    obtain ⟨p, hp, rfl⟩ := List.mem_map.mp hk
    simp only [List.map_cons, List.map_nil, List.mem_singleton] at hx
    exact hx ▸ of_decide_eq_true (List.mem_filter.mp hp).2
  · rw [List.filter_append, List.length_append]
    cases own with
    | true => exact kept.heard
    | false => exact room rfl
  · intro p hp
    rcases List.mem_append.mp hp with hp | hp
    · exact kept.owned p hp
    · exact List.mem_singleton.mp hp ▸ is

/-- Where a heard place has the key, one of at most 8 falls free with it. -/
theorem PlacesOk.room_of_mem (h : PlacesOk station l) (mem : (key, false) ∈ l) :
    ((l.filter (fun p => p.1 ≠ key)).filter (fun p => !p.2)).length < 8 := by
  refine Nat.lt_of_lt_of_le ?_ h.heard
  rw [List.filter_comm]
  exact List.length_filter_lt_length_iff_exists.mpr ⟨_, List.mem_filter.mpr ⟨mem, rfl⟩, by simp⟩

end

theorem places_appendRecord (r : ClaimRecord) (rs : List ClaimRecord) : (appendRecord r rs).map ClaimRecord.place =
    (rs.map ClaimRecord.place).filter (fun p => p.1 ≠ r.key) ++ [r.place] := by
  unfold appendRecord removeRecord
  rw [List.map_append, List.filter_map]
  rfl

theorem places_rejudgePairs (s : State) : places (rejudgePairs s) = places s := by
  simp [places, rejudgePairs_register, ClaimRecord.place, Function.comp_def]

theorem places_judgeAgreement (s : State) : places (judgeAgreement s) = places s := by
  simp [places, judgeAgreement, ClaimRecord.place, Function.comp_def]

/-! ## Pairs and flags (R151 to R153) -/

theorem intersects_iff {x y : Span} : x.intersects y = true ↔ max x.up y.up < min x.down y.down := decide_eq_true_iff

theorem masksMeet_iff {a b : PerPhase Bool} : masksMeet a b = true ↔ ∃ φ, a.get φ = true ∧ b.get φ = true := by
  have zipped : ∀ φ, (PerPhase.zip (· && ·) a b).get φ = (a.get φ && b.get φ) := fun φ => by cases φ <;> rfl
  unfold masksMeet
  simp only [PerPhase.some_iff, zipped, Bool.and_eq_true]

theorem corroborate_iff {u d : ClaimRecord} : corroborate u d = true ↔ Corroborates u d := by
  have kinds : (u.key.kind = .ground ∨ masksMeet u.mask d.mask = true) ↔
      (u.key.kind = .openConductor → ∃ φ, u.mask.get φ = true ∧ d.mask.get φ = true) := by
    cases u.key.kind <;> simp [masksMeet_iff]
  simp only [corroborate, Corroborates, ClaimRecord.standing, Bool.and_eq_true, Bool.or_eq_true, decide_eq_true_eq,
    intersects_iff, kinds, and_assoc]

theorem inSomePair_iff {ps : List ClaimPair} {key : ClaimKey} :
    inSomePair ps key = true ↔ ∃ p ∈ ps, p.upKey = key ∨ p.downKey = key := by
  simp only [inSomePair, List.any_eq_true, Bool.or_eq_true, decide_eq_true_eq]

theorem boundaryMeets_iff {b : Option Span} {x : Span} : boundaryMeets b x = true ↔
    ∃ y, b = some y ∧ max y.up x.up < min y.down x.down := by
  cases b with
  | none => simp [boundaryMeets]
  | some y => simp [boundaryMeets, intersects_iff]

theorem agreesWith_iff {a : Assessor} {r : ClaimRecord} : agreesWith a r = true ↔ Agrees a r := by
  have zipped : ∀ φ, (PerPhase.zip (fun inMask b => inMask && boundaryMeets b r.span) r.mask a.phaseBoundary).get φ =
      (r.mask.get φ && boundaryMeets (a.phaseBoundary.get φ) r.span) := fun φ => by cases φ <;> rfl
  unfold agreesWith Agrees
  cases r.key.kind with
  | ground => exact boundaryMeets_iff
  | openConductor => simp only [PerPhase.some_iff, zipped, Bool.and_eq_true, boundaryMeets_iff]

/-- The map agreement flags are true to the map (R153). -/
def AgreesOk (s : State) : Prop := ∀ r ∈ s.register.records, r.agrees = true ↔ Agrees s.assessor r

/-- The located boundaries that the flags are judged by stand. -/
def SameBoundaries (s t : State) : Prop :=
  t.assessor.phaseBoundary = s.assessor.phaseBoundary ∧ t.assessor.residualBoundary = s.assessor.residualBoundary

theorem SameBoundaries.agrees {s t : State} (h : SameBoundaries s t) {x y : ClaimRecord} (key : y.key = x.key)
    (span : y.span = x.span) (mask : y.mask = x.mask) : Agrees t.assessor y ↔ Agrees s.assessor x := by
  obtain ⟨phase, residual⟩ := h
  unfold Agrees
  rw [phase, residual, key, span, mask]

/-- Flags true to the map stay so on records that keep their key, span, mask and flag. -/
theorem AgreesOk.of_origin {s t : State} (h : AgreesOk s) (same : SameBoundaries s t)
    (origin : ∀ y ∈ t.register.records, ∃ x ∈ s.register.records,
      y.key = x.key ∧ y.span = x.span ∧ y.mask = x.mask ∧ y.agrees = x.agrees) : AgreesOk t := by
  intro y hy
  obtain ⟨x, hx, key, span, mask, agrees⟩ := origin y hy
  rw [agrees, h x hx, same.agrees key span mask]

theorem judgeAgreement_agreesOk (s : State) : AgreesOk (judgeAgreement s) := by
  refine List.forall_mem_map.mpr fun r _ => ?_
  exact (agreesWith_iff (a := s.assessor)).trans Iff.rfl

/-- Re-judging makes the pair list and the corroborated marks true to the records, whatever they were (R151, R152). -/
theorem rejudgePairs_pairsOk {s : State} (h : AgreesOk s) : PairsOk (rejudgePairs s) := by
  have assessor : (rejudgePairs s).assessor = s.assessor := by rw [rejudgePairs_eq]
  have pairs : (rejudgePairs s).register.pairs = pairsOf s.register.records := congrArg Register.pairs (rejudgePairs_register s)
  refine ⟨fun p => ?_, ?_, ?_⟩
  · rw [rejudgePairs_pairs, mem_pairsOf]
    simp only [corroborate_iff]
    exact exists_congr fun u => and_congr_right fun _ => exists_congr fun d => and_congr_right fun _ =>
      and_congr_right fun _ => eq_comm
  · rw [pairs, rejudgePairs_register]
    exact List.forall_mem_map.mpr fun r _ => inSomePair_iff
  · rw [assessor, rejudgePairs_register]
    exact List.forall_mem_map.mpr h

/-! ## The frame -/

/-- All that the register's invariants are judged by. -/
def claimsView (s : State) : Register × PerPhase (Option Span) × Option Span × Image × RunState :=
  (s.register, s.assessor.phaseBoundary, s.assessor.residualBoundary, s.port.image, s.run)

/-- `t` keeps the image, a working part working, and of the register its places in order and its pairs and flags true. -/
structure ClaimsKept (s t : State) : Prop where
  image : t.port.image = s.port.image
  running : s.run ≠ .config → t.run ≠ .config
  records : RecordsOk s → RecordsOk t
  pairs : RecordsOk s → PairsOk s → PairsOk t

/-- A function whose result always keeps its argument's register in form. -/
def KeepsClaims (f : State → State) : Prop := ∀ s, ClaimsKept s (f s)

theorem ClaimsKept.refl (s : State) : ClaimsKept s s := ⟨rfl, id, id, fun _ h => h⟩

theorem ClaimsKept.trans {s t u : State} (h : ClaimsKept s t) (k : ClaimsKept t u) : ClaimsKept s u where
  image := k.image.trans h.image
  running := k.running ∘ h.running
  records := k.records ∘ h.records
  pairs ok hp := k.pairs (h.records ok) (h.pairs ok hp)

theorem PairsOk.congr {s t : State} (h : PairsOk s) (register : t.register = s.register) (same : SameBoundaries s t) :
    PairsOk t := by
  obtain ⟨listed, marked, agreed⟩ := h
  unfold PairsOk
  rw [register]
  exact ⟨listed, marked, fun r hr => (agreed r hr).trans (same.agrees rfl rfl rfl).symm⟩

theorem ClaimsKept.same {s t : State} (h : claimsView t = claimsView s) : ClaimsKept s t := by
  obtain ⟨register, phase, residual, image, run⟩ : t.register = s.register ∧
      t.assessor.phaseBoundary = s.assessor.phaseBoundary ∧ t.assessor.residualBoundary = s.assessor.residualBoundary ∧
      t.port.image = s.port.image ∧ t.run = s.run := by simpa [claimsView] using h
  refine ⟨image, fun working => run ▸ working, fun ok => ?_, fun _ ok => ok.congr register ⟨phase, residual⟩⟩
  unfold RecordsOk places
  rw [register, image]
  exact ok

/-- The register as it stands, and then `k`. -/
theorem ClaimsKept.after {s t u : State} (k : ClaimsKept t u) (h : claimsView t = claimsView s) : ClaimsKept s u :=
  (ClaimsKept.same h).trans k

theorem ClaimsKept.ite {c : Prop} [Decidable c] {s t u : State} (ht : ClaimsKept s t) (hu : ClaimsKept s u) :
    ClaimsKept s (if c then t else u) := by
  split
  · exact ht
  · exact hu

theorem KeepsClaims.ite {f : State → State} (p : State → Prop) [DecidablePred p] (hf : KeepsClaims f) :
    KeepsClaims (fun s => if p s then f s else s) := fun s => .ite (hf s) (.refl s)

theorem keepsClaims_foldl {α : Type} {f : State → α → State} (h : ∀ a, KeepsClaims (fun s => f s a)) (l : List α) :
    KeepsClaims (fun s => l.foldl f s) := by
  induction l with
  | nil => exact .refl
  | cons a l ih => exact fun s => (h a s).trans (ih _)

/-! ## The four ways in which an operation may change the records -/

section
variable {s u : State}

/-- The records changed and the pair list re-judged: the places must stay in order, and the flags true. -/
theorem ClaimsKept.rejudged (image : u.port.image = s.port.image) (run : u.run = s.run)
    (records : RecordsOk s → PlacesOk s.port.image.stationId (places u)) (agreed : AgreesOk s → AgreesOk u) :
    ClaimsKept s (rejudgePairs u) where
  image := (keeps_rejudgePairs u).coreKept.image.trans image
  running working := by
    rw [rejudgePairs_eq, run]
    exact working
  records ok := by
    unfold RecordsOk
    rw [places_rejudgePairs, (keeps_rejudgePairs u).coreKept.image, image]
    exact records ok
  pairs _ hp := rejudgePairs_pairsOk (agreed hp.2.2)

/-- Records left out, or changed but for key, span, mask, own mark and flag, and the pair list re-judged. -/
theorem ClaimsKept.of_origin (image : u.port.image = s.port.image) (run : u.run = s.run) (same : SameBoundaries s u)
    (sub : (places u).Sublist (places s)) (origin : ∀ y ∈ u.register.records, ∃ x ∈ s.register.records,
      y.key = x.key ∧ y.span = x.span ∧ y.mask = x.mask ∧ y.agrees = x.agrees) : ClaimsKept s (rejudgePairs u) :=
  .rejudged image run (fun ok => ok.sublist sub) fun h => h.of_origin same origin

/-- The flags judged on records that stand, whatever the map has become (R153). -/
theorem judgeAgreement_kept (register : u.register = s.register) (image : u.port.image = s.port.image) (run : u.run = s.run) :
    ClaimsKept s (judgeAgreement u) where
  image := image
  running working := run ▸ working
  records ok := by
    unfold RecordsOk
    rw [places_judgeAgreement, places, register]
    exact image ▸ ok
  pairs _ := by
    rintro ⟨listed, marked, -⟩
    have pairsOf : ∀ p, p ∈ u.register.pairs ↔ ∃ x ∈ u.register.records, ∃ d ∈ u.register.records, Corroborates x d ∧
        p = ⟨x.key, d.key, ⟨max x.span.up d.span.up, min x.span.down d.span.down⟩⟩ := register ▸ listed
    refine ⟨fun p => (pairsOf p).trans ?_, List.forall_mem_map.mpr fun r hr => ?_, judgeAgreement_agreesOk u⟩
    · simp only [judgeAgreement, State.setRecords_register, List.mem_map, exists_exists_and_eq_and]
      exact Iff.rfl
    · change r.corroborated = true ↔ ∃ p ∈ u.register.pairs, p.upKey = r.key ∨ p.downKey = r.key
      rw [register] at hr ⊢
      exact marked r hr

/-- Two records that differ in what no invariant of the register asks about: position, epochs and ages. -/
structure SameClaim (x y : ClaimRecord) : Prop where
  key : y.key = x.key
  span : y.span = x.span
  mask : y.mask = x.mask
  status : y.status = x.status
  own : y.own = x.own
  corroborated : y.corroborated = x.corroborated
  agrees : y.agrees = x.agrees

theorem SameClaim.refl (x : ClaimRecord) : SameClaim x x := ⟨rfl, rfl, rfl, rfl, rfl, rfl, rfl⟩

theorem SameClaim.corroborates {x y a b : ClaimRecord} (h : SameClaim x y) (k : SameClaim a b) :
    Corroborates y b ↔ Corroborates x a := by
  unfold Corroborates
  rw [h.key, h.span, h.mask, h.status, k.key, k.span, k.mask, k.status]

/-- Records changed in position, epochs and ages alone. -/
theorem ClaimsKept.of_map {f : ClaimRecord → ClaimRecord} (image : u.port.image = s.port.image) (run : u.run = s.run)
    (same : SameBoundaries s u) (register : u.register = ⟨s.register.records.map f, s.register.pairs⟩)
    (hf : RecordsOk s → ∀ x ∈ s.register.records, SameClaim x (f x)) : ClaimsKept s u where
  image := image
  running working := run ▸ working
  records ok := by
    have stand : places u = places s := by
      unfold places
      rw [register, List.map_map]
      exact List.map_congr_left fun x hx => Prod.ext (hf ok x hx).key (hf ok x hx).own
    unfold RecordsOk
    rw [stand, image]
    exact ok
  pairs ok := by
    rintro ⟨listed, marked, agreed⟩
    have claims := hf ok
    unfold PairsOk
    rw [register]
    refine ⟨fun p => (listed p).trans ?_, List.forall_mem_map.mpr fun x hx => ?_, List.forall_mem_map.mpr fun x hx => ?_⟩
    · simp only [List.mem_map, exists_exists_and_eq_and]
      refine exists_congr fun x => and_congr_right fun hx => exists_congr fun d => and_congr_right fun hd => ?_
      rw [(claims x hx).corroborates (claims d hd), (claims x hx).key, (claims d hd).key, (claims x hx).span, (claims d hd).span]
    · rw [(claims x hx).corroborated, (claims x hx).key]
      exact marked x hx
    · rw [(claims x hx).agrees, agreed x hx]
      exact (same.agrees (claims x hx).key (claims x hx).span (claims x hx).mask).symm

end

end Sys2Proof.Machine

/-! The frame `ClaimsKept` through the register, the Detector, the Trip Linkage, the claims and the assessment. -/

namespace Sys2Proof.Machine

/-! ## Register and Detector (Chapters 3 and 8) -/

theorem releaseHolds_view (rs : List ClaimRecord) (s : State) : claimsView (releaseHolds rs s) = claimsView s := by
  have cells : ∀ k f (a : Assessor), (clearCellsBehind k f a).phaseBoundary = a.phaseBoundary ∧
      (clearCellsBehind k f a).residualBoundary = a.residualBoundary := fun k f a => by
    cases k <;> cases f <;> exact ⟨rfl, rfl⟩
  induction rs generalizing s with
  | nil => rfl
  | cons r rs ih =>
    refine (ih _).trans ?_
    unfold releaseHold
    split
    · dsimp only
      split
      · rfl
      · obtain ⟨phase, residual⟩ := cells r.key.kind r.key.fin s.assessor
        exact Prod.ext rfl (Prod.ext phase (Prod.ext residual rfl))
    · rfl

theorem withdrawAll_view (rs : List ClaimRecord) (s : State) : claimsView (withdrawAll rs s) = claimsView s := by
  induction rs generalizing s with
  | nil => rfl
  | cons r rs ih =>
    refine (ih _).trans ?_
    split <;> rfl

/-- Other records under the same view: image, run state and boundaries are those of before. -/
theorem setRecords_of_view {s t : State} (h : claimsView t = claimsView s) (rs : List ClaimRecord) :
    (t.setRecords rs).port.image = s.port.image ∧ (t.setRecords rs).run = s.run ∧ SameBoundaries s (t.setRecords rs) := by
  obtain ⟨-, phase, residual, image, run⟩ : t.register = s.register ∧
    t.assessor.phaseBoundary = s.assessor.phaseBoundary ∧ t.assessor.residualBoundary = s.assessor.residualBoundary ∧
    t.port.image = s.port.image ∧ t.run = s.run := by simpa [claimsView] using h
  exact ⟨image, run, phase, residual⟩

theorem keepsClaims_removeRecords (p : ClaimRecord → Bool) : KeepsClaims (removeRecords p) := fun s => by
  obtain ⟨image, run, same⟩ := setRecords_of_view (releaseHolds_view (s.register.records.filter p) s)
    (s.register.records.filter (fun r => !p r))
  refine .ite (.of_origin image run same (List.filter_sublist.map _) fun y hy => ?_) (.refl s)
  exact ⟨y, (List.mem_filter.mp hy).1, rfl, rfl, rfl, rfl⟩

/-- Records whose status alone has changed, and the pair list re-judged. -/
theorem restated_kept {s t : State} {f : ClaimRecord → ClaimRecord} (view : claimsView t = claimsView s)
    (hf : ∀ r, ∃ x, f r = { r with status := x }) : ClaimsKept s (rejudgePairs (t.setRecords (s.register.records.map f))) := by
  obtain ⟨image, run, same⟩ := setRecords_of_view view (s.register.records.map f)
  have stand : places (t.setRecords (s.register.records.map f)) = places s := by
    refine (List.map_map ..).trans (List.map_congr_left fun r _ => ?_)
    obtain ⟨x, is⟩ := hf r
    rw [Function.comp_apply, is]
    rfl
  refine .of_origin image run same (stand ▸ .refl _) (List.forall_mem_map.mpr fun r hr => ⟨r, hr, ?_⟩)
  obtain ⟨x, is⟩ := hf r
  rw [is]
  exact ⟨rfl, rfl, rfl, rfl⟩

theorem ite_status (c : Prop) [Decidable c] (x : ClaimStatus) (r : ClaimRecord) :
    ∃ y, (if c then { r with status := x } else r) = { r with status := y } := by
  split
  · exact ⟨x, rfl⟩
  · exact ⟨r.status, rfl⟩

theorem keepsClaims_coverRecords (p : ClaimRecord → Bool) : KeepsClaims (coverRecords p) := fun s =>
  .ite (restated_kept (withdrawAll_view _ s) fun r => ite_status _ .covered r) (.refl s)

/-- The records whose form is judged afresh, flags and all, need their places in order and nothing else. -/
theorem judged_kept {s u : State} (image : u.port.image = s.port.image) (run : u.run = s.run)
    (records : RecordsOk s → PlacesOk s.port.image.stationId (places u)) : ClaimsKept s (rejudgePairs (judgeAgreement u)) :=
  .rejudged image run (by rwa [places_judgeAgreement]) fun _ => judgeAgreement_agreesOk u

theorem judged_in_place_kept {s u : State} (image : u.port.image = s.port.image) (run : u.run = s.run)
    (stand : RecordsOk s → places u = places s) : ClaimsKept s (rejudgePairs (judgeAgreement u)) :=
  judged_kept image run fun ok => by
    rw [stand ok]
    exact ok

/-- A record placed: an own one under the station's id, or a heard one with a place free or its own to take again. -/
theorem placeRecord_kept {r : ClaimRecord} {s : State} (is : r.own = true ↔ r.key.claimant = s.port.image.stationId)
    (room : RecordsOk s → r.own = false →
      (((places s).filter (fun p => p.1 ≠ r.key)).filter (fun p => !p.2)).length < 8) : ClaimsKept s (placeRecord r s) :=
  judged_kept rfl rfl fun ok => by
    have placed : places (s.setRecords (appendRecord r s.register.records)) =
        (places s).filter (fun p => p.1 ≠ r.key) ++ [r.place] := places_appendRecord r _
    rw [placed]
    exact PlacesOk.append ok is (room ok)

/-- An entry into CALM touches the register through the records it removes alone (R41, R49, R51). -/
theorem keepsClaims_leaveBlind : KeepsClaims leaveBlind := fun _ => .after (keepsClaims_removeRecords _ _) rfl

theorem keepsClaims_returnToCalm : KeepsClaims returnToCalm := fun _ => .after (keepsClaims_removeRecords _ _) rfl

theorem keepsClaims_forceClose : KeepsClaims forceClose := fun _ => .after (keepsClaims_returnToCalm _) rfl

theorem keepsClaims_restoreLine : KeepsClaims restoreLine := fun s => by
  refine .trans (t := registerCalm true _) ?_ (.same rfl)
  exact .after (keepsClaims_removeRecords _ _) rfl

theorem keepsClaims_testClose : KeepsClaims testClose :=
  .ite (fun s => closeDue s = true) fun _ => .after (keepsClaims_returnToCalm _) rfl

theorem keepsClaims_testCloseOnChange : KeepsClaims testCloseOnChange := fun s => by
  rw [testCloseOnChange_eq]
  exact (keepsClaims_testClose s).trans (.same rfl)

theorem keepsClaims_requestDisturbance (c : OpenCause) (x : EventSubject) : KeepsClaims (requestDisturbance c x) := fun s => by
  unfold requestDisturbance
  split <;> exact .same rfl

/-- An own record handed to the Detector (R38 to R51). -/
theorem keepsClaims_handRecord (e : EpochRecord) : KeepsClaims (handRecord e) := fun s => by
  have blind : KeepsClaims (handBlind e) := fun _ => .ite (.after (keepsClaims_leaveBlind _) rfl) (.same rfl)
  have calm : KeepsClaims (handCalm e) := fun s => by
    unfold handCalm
    split
    · exact .ite (.ite (.same rfl) (.same rfl)) (.refl s)
    · exact .refl s
  have forced : KeepsClaims moveForced := fun _ => .ite (.after (keepsClaims_forceClose _) rfl) (.same rfl)
  have disturbed : KeepsClaims (handDisturbed e) := fun s =>
    have tested : ClaimsKept s (testClose (s.setDetector { s.detector with
        settle := if quiet s.port.image s.engine.ring e then raise s.port.image.settleCount s.detector.settle else 0 })) :=
      .after (keepsClaims_testClose _) rfl
    .ite (tested.trans (forced _)) tested
  have deenergized : KeepsClaims (handDeenergized e) := fun _ => .ite (.after (keepsClaims_restoreLine _) rfl) (.same rfl)
  have taken : ClaimsKept s (takeReference e s) := .same rfl
  unfold handRecord
  dsimp only
  split
  · exact taken.trans (blind _)
  · exact .ite taken (taken.trans (calm _))
  · exact taken.trans (disturbed _)
  · exact taken.trans (deenergized _)

theorem keepsClaims_enterDeenergized (n p : Nat) : KeepsClaims (enterDeenergized n p) := fun _ =>
  .ite (.same rfl) (.after (.trans (keepsClaims_coverRecords _ _) (keepsClaims_removeRecords _ _)) rfl)

theorem keepsClaims_returnToBlind : KeepsClaims returnToBlind := fun s => by
  unfold returnToBlind
  dsimp only
  split <;> exact .same rfl

/-! ## The Trip Linkage (Chapter 9) -/

theorem keepsClaims_setTrip (o : Output) (r : TripRecord) : KeepsClaims (setTrip o r) := fun _ => by
  cases o <;> exact .same rfl

theorem keepsClaims_timerByTripped (c : TrippedContent) (k : Nat) : KeepsClaims (timerByTripped c k) := fun s => by
  unfold timerByTripped
  split
  · exact .refl s
  · split
    · split <;> exact .same rfl
    · exact .refl s
  · exact .ite (.same rfl) (.refl s)

theorem keepsClaims_timersByTripped (c : TrippedContent) : KeepsClaims (timersByTripped c) :=
  keepsClaims_foldl (keepsClaims_timerByTripped c) _

theorem keepsClaims_coverZone (c : TrippedContent) : KeepsClaims (coverZone c) := fun s => by
  unfold coverZone
  split
  · exact .refl s
  · have covered := keepsClaims_coverRecords (fun r => r.span.within c.zone) s
    exact .ite (covered.trans (keepsClaims_testCloseOnChange _)) covered

section
variable {ev : State → State} (hev : KeepsClaims ev)
include hev

theorem keepsClaims_offerTripped (c : TrippedContent) : KeepsClaims (offerTripped ev c) := fun _ =>
  .after (((keepsClaims_timersByTripped c _).trans (keepsClaims_coverZone c _)).trans (hev _)) rfl

theorem keepsClaims_confirmTrip (o : Output) : KeepsClaims (confirmTrip ev o) := fun s =>
  (keepsClaims_setTrip o _ s).trans (.after (keepsClaims_offerTripped hev _ _) rfl)

theorem keepsClaims_failTrip (o : Output) : KeepsClaims (failTrip ev o) := fun s =>
  (keepsClaims_setTrip o _ s).trans (.after (keepsClaims_offerTripped hev _ _) rfl)

theorem keepsClaims_actPrimary (k : Nat) (e : LinkageEntry) (x : Span) : KeepsClaims (actPrimary ev k e x) := fun s =>
  have asserted : ∀ o, KeepsClaims (assertOutput k e x o) := fun o t =>
    .ite ((keepsClaims_setTrip o _ t).trans (.same rfl)) (.refl t)
  have confirmed : ∀ b o, KeepsClaims (confirmAtOnce ev k b o) := fun _ o t =>
    .ite (keepsClaims_confirmTrip hev o t) (.refl t)
  have driven := (asserted .trip0 s).trans (asserted .trip1 _)
  .ite (driven.trans (.after (.trans (confirmed _ _ _) (confirmed _ _ _)) rfl)) (.ite (.refl s) (.same rfl))

theorem keepsClaims_evaluateEntry (k : Nat) (e : LinkageEntry) : KeepsClaims (evaluateEntry ev k e) := fun s => by
  unfold evaluateEntry
  split
  · exact .refl s
  · split
    · split
      · exact keepsClaims_actPrimary hev _ _ _ s
      · exact .refl s
    · dsimp only
      split
      · exact .after (keepsClaims_actPrimary hev _ _ _ _) rfl
      · exact .same rfl

theorem keepsClaims_evaluateEntries (es : List LinkageEntry) (k : Nat) : KeepsClaims (evaluateEntries ev k es) := by
  induction es generalizing k with
  | nil => exact .refl
  | cons e es ih => exact fun s => (keepsClaims_evaluateEntry hev k e s).trans (ih _ _)

end

theorem keepsClaims_evaluateRounds (n : Nat) : KeepsClaims (evaluateRounds n) := by
  induction n with
  | zero => exact .refl
  | succ n ih => exact fun s => keepsClaims_evaluateEntries ih _ _ s

/-- An evaluation of the Trip Linkage keeps the register in form (R159). -/
theorem keepsClaims_evaluateTrips : KeepsClaims evaluateTrips := .ite (fun s => s.run = .run) (keepsClaims_evaluateRounds _)

/-- An operation reported to the Trip Linkage keeps what it and the evaluation keep. -/
theorem ClaimsKept.reporting {f : State → State} {s u : State} (hf : ClaimsKept s (f u)) : ClaimsKept s (reporting f u) :=
  .ite hf (hf.trans (keepsClaims_evaluateTrips _))

theorem KeepsClaims.reporting {f : State → State} (hf : KeepsClaims f) : KeepsClaims (reporting f) := fun s => (hf s).reporting

theorem keepsClaims_failIfDue (o : Output) : KeepsClaims (failIfDue o) :=
  .ite (fun s => failDue s o = true) (keepsClaims_failTrip keepsClaims_evaluateTrips o)

theorem keepsClaims_expireBackup (k : Nat) (e : LinkageEntry) : KeepsClaims (expireBackup k e) := fun s => by
  unfold expireBackup
  split
  · split
    · exact .ite (.same rfl) (.after (keepsClaims_actPrimary (keepsClaims_evaluateRounds _) _ _ _ _) rfl)
    · exact .refl s
  · exact .refl s

theorem keepsClaims_expireBackups (es : List LinkageEntry) (k : Nat) : KeepsClaims (expireBackups k es) := by
  induction es generalizing k with
  | nil => exact .refl
  | cons e es ih => exact fun s => (keepsClaims_expireBackup k e s).trans (ih _ _)

/-- The Linkage's timers at a boundary (R161, R163, R165). -/
theorem keepsClaims_linkageTimers (kind : BoundaryKind) : KeepsClaims (linkageTimers kind) := fun s =>
  have raised : ClaimsKept (raiseConfirms s) (raiseTimers (raiseConfirms s)) := .ite (.same rfl) (.refl _)
  have timers : ClaimsKept s (if kind.begins then
      expireBackups 0 (raiseConfirms s).port.image.entries (raiseTimers (raiseConfirms s)) else raiseConfirms s) :=
    .ite (.after (raised.trans (keepsClaims_expireBackups _ _ _)) rfl) (.same rfl)
  (timers.trans (keepsClaims_failIfDue .trip0 _)).trans (keepsClaims_failIfDue .trip1 _)

theorem keepsClaims_linkageTripped (n : Nat) (c : TrippedContent) : KeepsClaims (linkageTripped n c) := fun s => by
  have heard : ClaimsKept s (if tripKnown s.linkage.trips n c then takeIntoTripList n c s
      else record (takeIntoTripList n c s) .trippedHeard (.station n) (some c.span) (.trip c.result c.output)) :=
    .ite (.same rfl) (.same rfl)
  exact .ite ((heard.trans (keepsClaims_timersByTripped c _)).trans (keepsClaims_evaluateTrips _)) heard

/-! ## Ages, refreshes and releases of records (R140, R141, R147) -/

theorem sameClaim_ages (r : ClaimRecord) : SameClaim r (ageRecord r) := ⟨rfl, rfl, rfl, rfl, rfl, rfl, rfl⟩

theorem keepsClaims_refreshSeries (e : EpochNum) (r : ClaimRecord) : KeepsClaims (refreshSeries e r) := fun _ =>
  .of_map rfl rfl ⟨rfl, rfl⟩ rfl fun _ x _ => by
    split
    · exact ⟨rfl, rfl, rfl, rfl, rfl, rfl, rfl⟩
    · exact .refl x

theorem keepsClaims_refreshIfDue (key : ClaimKey) : KeepsClaims (refreshIfDue key) := fun s => by
  unfold refreshIfDue
  split
  · exact .ite (keepsClaims_refreshSeries _ _ s) (.refl s)
  · exact .refl s

theorem keepsClaims_refreshAll (rs : List ClaimRecord) : KeepsClaims (refreshAll rs) := by
  induction rs with
  | nil => exact .refl
  | cons r rs ih => exact fun s => .trans (.ite (keepsClaims_refreshSeries _ _ s) (.refl s)) (ih _)

theorem keepsClaims_expireClaim (key : ClaimKey) : KeepsClaims (expireClaim key) := fun s => by
  unfold expireClaim
  split
  · exact .ite (.trans (.ite (.same (by rfl)) (.refl s)) (keepsClaims_removeRecords _ _)) (.refl s)
  · exact .refl s

theorem keepsClaims_expireEach (keys : List ClaimKey) : KeepsClaims (expireEach keys) := by
  induction keys with
  | nil => exact .refl
  | cons key keys ih => exact fun s => ((keepsClaims_expireClaim key).reporting s).trans (ih _)

/-- The register's ageing (R140, R147). -/
theorem keepsClaims_ageRegister : KeepsClaims ageRegister := fun s =>
  have aged : KeepsClaims (fun s => s.setRecords (s.register.records.map ageRecord)) := fun _ =>
    .of_map rfl rfl ⟨rfl, rfl⟩ rfl fun _ x _ => sameClaim_ages x
  have refreshed : KeepsClaims refreshDueRecords := fun s => keepsClaims_refreshAll _ s
  ((aged.reporting s).trans (refreshed.reporting _)).trans (keepsClaims_expireEach _ _)

theorem keepsClaims_releaseClosed (kind : ClaimKind) (fin : SpanEnd) : KeepsClaims (releaseClosed kind fin) := fun s =>
  (keepsClaims_removeRecords _ s).trans (keepsClaims_testCloseOnChange _)

/-! ## Heard records (R144 to R146) -/

section
variable {h : Header} {c : ClaimContent} {s : State} {r : ClaimRecord}

/-- A heard claim's record takes the place that is free for it, or that of its key. -/
theorem placeHeard_kept (station : h.sender ≠ s.port.image.stationId) (key : r.key = heardKey h c) (heard : r.own = false)
    (room : RecordsOk s → (((places s).filter (fun p => p.1 ≠ r.key)).filter (fun p => !p.2)).length < 8) :
    ClaimsKept s (placeRecord r s) :=
  placeRecord_kept (by simp [heard, key, heardKey, station]) fun ok _ => room ok

/-- A record under a heard key is a heard one. -/
theorem heard_of_findRecord (station : h.sender ≠ s.port.image.stationId)
    (found : findRecord s.register.records (heardKey h c) = some r) (ok : RecordsOk s) :
    r.own = false ∧ (heardKey h c, false) ∈ places s := by
  obtain ⟨mem, is⟩ := findRecord_some found
  have there : (r.key, r.own) ∈ places s := List.mem_map_of_mem mem
  have heard : r.own = false := Bool.eq_false_iff.mpr fun own => station (by
    simpa [is, heardKey] using (ok.owned _ there).mp own)
  exact ⟨heard, is ▸ heard ▸ there⟩

theorem enterHeard_kept (station : h.sender ≠ s.port.image.stationId)
    (room : RecordsOk s → (((places s).filter (fun p => p.1 ≠ heardKey h c)).filter (fun p => !p.2)).length < 8) :
    ClaimsKept s (enterHeard h c s) :=
  let r := standingRecord s.tracker.epoch (heardKey h c) h.position c false
  have placed := placeHeard_kept (h := h) (c := c) (r := r) (s := recordClaim .claimHeard r (.mask c.mask) s) station rfl rfl room
  .after (placed.trans (keepsClaims_requestDisturbance _ _ _)) rfl

/-- The record that gives way is a heard one of the register (R145). -/
theorem claimVictim_heard (victim : claimVictim s = some r) : r ∈ s.register.records ∧ r.own = false := by
  rcases Option.or_eq_some_iff.mp victim with found | ⟨-, found⟩
  · have meets := List.find?_some found
    simp only [Bool.and_eq_true, Bool.not_eq_true'] at meets
    exact ⟨List.mem_of_find?_eq_some found, meets.1⟩
  · have meets := List.find?_some found
    simp only [Bool.and_eq_true, Bool.not_eq_true'] at meets
    obtain ⟨⟨⟨⟨heard, -⟩, -⟩, -⟩, -⟩ := meets
    exact ⟨List.mem_of_find?_eq_some found, heard⟩

/-- Its removal takes every place of its key. -/
theorem places_evictClaim (mem : r ∈ s.register.records) :
    places (evictClaim r s) = (places s).filter (fun p => p.1 ≠ r.key) := by
  have removed : places (removeRecords (fun x => x.key = r.key) s) = (places s).filter (fun p => p.1 ≠ r.key) := by
    rw [removeRecords_of_some ⟨r, mem, by simp⟩, places_rejudgePairs]
    unfold places
    rw [List.filter_map]
    exact congrArg _ (List.filter_congr fun x _ => decide_not.symm)
  have same : (evictClaim r s).register = (removeRecords (fun x => x.key = r.key) s).register := by
    unfold evictClaim
    dsimp only
    split <;> rfl
  unfold places at removed ⊢
  rw [same, removed]

theorem keepsClaims_evictClaim (r : ClaimRecord) : KeepsClaims (evictClaim r) := fun s =>
  have removed := keepsClaims_removeRecords (fun x => x.key = r.key) s
  .ite (removed.trans (.same rfl)) removed

theorem admitClaim_kept (station : h.sender ≠ s.port.image.stationId) : ClaimsKept s (admitClaim h c s) := by
  unfold admitClaim
  split
  · split
    · next r victim =>
      obtain ⟨mem, heard⟩ := claimVictim_heard victim
      have evicted := keepsClaims_evictClaim r s
      have entered : RecordsOk s → ClaimsKept (evictClaim r s) (enterHeard h c (evictClaim r s)) := fun ok =>
        enterHeard_kept (by rw [evicted.image]; exact station) fun _ => by
          have there : (r.key, r.own) ∈ places s := List.mem_map_of_mem mem
          rw [heard] at there
          rw [places_evictClaim mem]
          exact Nat.lt_of_le_of_lt (List.filter_sublist.filter _).length_le (ok.room_of_mem there)
      have within := (keeps_evictClaim r s).trans (keeps_enterHeard h c _)
      exact ⟨within.coreKept.image, fun working => by rw [within.run]; exact working,
        fun ok => (evicted.trans (entered ok)).records ok, fun ok => (evicted.trans (entered ok)).pairs ok⟩
    · exact .same rfl
  · next room =>
    refine enterHeard_kept station fun _ => Nat.lt_of_le_of_lt (List.filter_sublist.filter _).length_le ?_
    rw [heard_places]
    exact Nat.lt_of_not_le fun full => room (decide_eq_true full)

theorem renewClaim_kept {b : Bool} (station : h.sender ≠ s.port.image.stationId)
    (found : findRecord s.register.records (heardKey h c) = some r) : ClaimsKept s (renewClaim h c b r s) := by
  obtain ⟨-, is⟩ := findRecord_some found
  have single : RecordsOk s → ∀ x ∈ s.register.records, x.key = r.key → x = r := fun ok x hx same => by
    refine eq_of_findRecord ?_ found hx (same.trans is)
    have keys := ok.keys
    rwa [places, List.map_map] at keys
  dsimp only [renewClaim]
  split
  · next alike =>
    have content : c.span = r.span ∧ c.mask = r.mask := by simpa using alike
    obtain ⟨span, mask⟩ := content
    refine .of_map rfl rfl ⟨rfl, rfl⟩ rfl fun ok x hx => ?_
    split
    · next same =>
      obtain rfl := single ok x hx same
      exact ⟨rfl, span, mask, rfl, rfl, rfl, rfl⟩
    · exact .refl x
  · split
    · refine judged_in_place_kept rfl rfl fun ok => (List.map_map ..).trans (List.map_congr_left fun x hx => ?_)
      dsimp only [Function.comp_apply]
      split
      · next same =>
        obtain rfl := single ok x hx same
        rfl
      · rfl
    · by_cases heard : r.own = false
      · exact placeHeard_kept (c := c) station is heard fun ok => is ▸ ok.room_of_mem (heard_of_findRecord station found ok).2
      · have within := keeps_placeRecord { r with
          position := h.position, span := c.span, mask := c.mask, frameAge := 0, refreshEpoch := s.tracker.epoch
          raiseEpoch := s.tracker.epoch, standingAge := 0 } s
        exact ⟨within.coreKept.image, fun working => by rw [within.run]; exact working,
          fun ok => absurd (heard_of_findRecord station found ok).1 heard,
          fun ok => absurd (heard_of_findRecord station found ok).1 heard⟩

theorem takeClaim_kept {b : Bool} (station : h.sender ≠ s.port.image.stationId) : ClaimsKept s (takeClaim h c b s) := by
  unfold takeClaim
  split
  · split
    · exact admitClaim_kept station
    · next r found =>
      split
      · exact renewClaim_kept station found
      · exact .after (placeHeard_kept (c := c) (s := recordClaim .claimHeard _ _ s) station rfl rfl fun ok =>
          ok.room_of_mem (heard_of_findRecord (s := s) station found ok).2) rfl
      · exact .refl s
  · exact .refl s

end

theorem keepsClaims_takeRelease (h : Header) (c : ClaimContent) : KeepsClaims (takeRelease h c) := fun s => by
  unfold takeRelease
  split
  · split
    · next r _ =>
      refine .ite ?_ (.refl s)
      exact restated_kept (t := recordClaim .claimReleased r (.named .heard) s) rfl fun x => ite_status _ .released x
    · exact .refl s
  · exact .refl s

/-! ## Own records and the assessment (Chapter 7) -/

theorem keepsClaims_raiseOwn (e : EpochNum) (c : ClaimContent) : KeepsClaims (raiseOwn e c) := fun s => by
  have placed : ClaimsKept s (placeRecord (standingRecord e (ownKey s c.kind c.fin) s.port.image.position c true) s) :=
    placeRecord_kept (by simp [standingRecord, ownKey]) fun _ own => nomatch own
  have told : ∀ r, KeepsClaims (fun t => offerSeries (.claim c false) (recordClaim .claimRaised r (.mask c.mask) t)) :=
    fun _ _ => .same rfl
  exact .ite ((placed.trans (told _ _)).trans (keepsClaims_requestDisturbance _ _ _)) (placed.trans (told _ _))

theorem keepsClaims_changeMask (e : EpochNum) (key : ClaimKey) (m : PerPhase Bool) : KeepsClaims (changeMask e key m) :=
  fun s => by
  unfold changeMask
  split
  · refine judged_in_place_kept rfl rfl fun _ => ?_
    unfold places refreshSeries modifyRecord
    simp only [offerSeries, State.setQueue_register, State.setRecords_register, List.map_map]
    refine List.map_congr_left fun x _ => ?_
    simp only [Function.comp_apply, ClaimRecord.place]
    split <;> split <;> rfl
  · exact .refl s

theorem keepsClaims_releaseOwn (key : ClaimKey) : KeepsClaims (releaseOwn key) := fun s => by
  have unpinned : ∀ p, KeepsClaims (unpin p) := fun _ _ => .same rfl
  cases held : findRecord s.register.records key with
  | none =>
    unfold releaseOwn
    rw [held]
    exact .refl s
  | some r =>
    have judged : ClaimsKept s (rejudgePairs (releaseRecorded key r s)) :=
      restated_kept (t := recordClaim .claimReleased r (.named .own) (offerSeries (.release r.content) s)) rfl
        fun x => ite_status _ .released x
    rw [releaseOwn_eq held]
    exact (judged.trans (unpinned _ _)).trans (keepsClaims_testCloseOnChange _)

theorem keepsClaims_handOff (e : EpochNum) (k : ClaimKind) (f : SpanEnd) : KeepsClaims (handOff e k f) := fun s => by
  have raised : ∀ m, ClaimsKept s (raiseClaim e k f m s) := fun m => by
    unfold raiseClaim
    split
    · exact .after ((keepsClaims_raiseOwn _ _).reporting _) rfl
    · exact .refl s
  dsimp only [handOff]
  split
  · exact raised _
  · split
    · exact raised _
    · exact .ite (.refl s) ((keepsClaims_changeMask _ _ _).reporting s)
    · exact .refl s
  · exact .ite ((keepsClaims_releaseOwn _).reporting s) (.refl s)
  · exact .refl s

/-- The map taken with new boundaries: the flags are judged by them before anything else reads them (R153). -/
theorem keepsClaims_takeMap (r : EpochRecord) : KeepsClaims (takeMap r) := fun s => by
  have located : ∀ n a b t, (recordLocated n a b t).register = t.register ∧ (recordLocated n a b t).port.image = t.port.image ∧
      (recordLocated n a b t).run = t.run := fun n a b t => by
    unfold recordLocated
    split <;> exact ⟨rfl, rfl, rfl⟩
  refine (judgeAgreement_kept ?_ ?_ ?_).reporting <;> simp only [located, State.setAssessor_register,
    State.setAssessor_port, State.setAssessor_run]

/-- An assessment (R116). -/
theorem keepsClaims_assess (x : EpochNum) : KeepsClaims (assess x) := fun s => by
  have mirrored : KeepsClaims (mirrorClaims x) := fun s =>
    (((keepsClaims_handOff x _ _ s).trans (keepsClaims_handOff x _ _ _)).trans (keepsClaims_handOff x _ _ _)).trans
      (keepsClaims_handOff x _ _ _)
  unfold assess
  split
  · next o _ =>
    have moved : KeepsClaims (moveCells o) := fun _ => .same rfl
    exact (((keepsClaims_takeMap o s).trans (moved _)).trans (mirrored _)).trans (keepsClaims_evaluateTrips _)
  · exact keepsClaims_evaluateTrips s

end Sys2Proof.Machine

/-! The frame `ClaimsKept` for the Peer Table, the fault unit, the completions, the delivered frames and the boundary, and with them
for every command: the statement O8. -/

namespace Sys2Proof.Machine

/-! ## Fault unit and Peer Table (Chapters 6 and 10) -/

theorem keepsClaims_judgeImpaired : KeepsClaims judgeImpaired := fun s =>
  .ite (.refl s) (.after (keepsClaims_evaluateTrips _) rfl)

theorem keepsClaims_judgeSilent : KeepsClaims judgeSilent := fun s =>
  .ite (.refl s) (.ite (.after (keepsClaims_judgeImpaired _) rfl) (.after (keepsClaims_judgeImpaired _) rfl))

theorem keepsClaims_frameHeard : KeepsClaims frameHeard := fun _ => .after (keepsClaims_judgeSilent _) rfl

theorem keepsClaims_missReport (p : QueueEntry → Bool) : KeepsClaims (missReport p) := fun s => .same (by rw [missReport_eq]; rfl)

theorem keepsClaims_setJammed : KeepsClaims setJammed := fun s =>
  have missed : ClaimsKept s (missReport (fun _ => true) (s.setFault { s.fault with jammed := true })) :=
    .after (keepsClaims_missReport _ _) rfl
  missed.trans (.after (keepsClaims_judgeImpaired (record _ _ _ _ _)) rfl)

theorem keepsClaims_epochBusy : KeepsClaims epochBusy := fun s =>
  have cleared : ClaimsKept s (clearJammed s) := .after (keepsClaims_judgeImpaired _) rfl
  .ite (.ite (.refl s) cleared) (.ite (.after (keepsClaims_setJammed _) rfl) (.same rfl))

theorem keepsClaims_epochSilence : KeepsClaims epochSilence := fun _ => .after (keepsClaims_judgeSilent _) rfl

theorem keepsClaims_tableChanged : KeepsClaims tableChanged := fun s =>
  have judged : ClaimsKept s (judgeSource s) := .ite (.refl s) (.same rfl)
  judged.trans (.after (keepsClaims_judgeSilent (State.setFault _ _)) rfl)

theorem keepsClaims_setAdjacent (x : Side) (k : Option Nat) : KeepsClaims (setAdjacent x k) := fun s =>
  .ite (.refl s) (by cases x <;> exact .same rfl)

theorem keepsClaims_evaluateAdjacency : KeepsClaims evaluateAdjacency := fun s =>
  (keepsClaims_setAdjacent _ _ s).trans (keepsClaims_setAdjacent _ _ _)

theorem keepsClaims_dropAdjacent (k : Nat) : KeepsClaims (dropAdjacent k) := fun s =>
  have up : ClaimsKept s (if s.peers.adjacentUp = some k then setAdjacent .up none s else s) :=
    .ite (keepsClaims_setAdjacent _ _ s) (.refl s)
  .ite (up.trans (keepsClaims_setAdjacent _ _ _)) up

theorem keepsClaims_freeSlot (k : Nat) : KeepsClaims (freeSlot k) := fun _ => .after (keepsClaims_dropAdjacent k _) rfl

theorem keepsClaims_evict (k : Nat) : KeepsClaims (evict k) := fun s =>
  have dropped := keepsClaims_dropAdjacent k s
  .ite (.refl s) (.ite dropped (dropped.trans (.same rfl)))

theorem admitPeer_claimsKept (n p : Nat) (s : State) : ClaimsKept s (admitPeer n p s).1 := by
  unfold admitPeer
  split
  · split
    · exact .refl s
    · exact .same rfl
  · split
    · exact .same rfl
    · exact (keepsClaims_evict _ s).trans (.after (keepsClaims_tableChanged (setConflicts (modifyPeer _ _ _) _)) rfl)

theorem moved_claimsKept (k n p : Nat) (s : State) : ClaimsKept s (moved k n p s).1 := by
  dsimp only [moved]
  split
  · exact .same rfl
  · split
    · exact (keepsClaims_freeSlot k s).trans (.after (keepsClaims_tableChanged (setConflicts (recordConflict _ _ _) _)) rfl)
    · exact .after ((keepsClaims_dropAdjacent k _).trans (keepsClaims_tableChanged _)) rfl

theorem findEntry_claimsKept (h : Header) (s : State) : ClaimsKept s (findEntry h s).1 := by
  have judged : ∀ r : State × Option Nat, ClaimsKept s r.1 → ClaimsKept s (flagged h r).1 := by
    rintro ⟨t, _ | k⟩ found
    · exact found
    · exact found.trans (.ite (.same rfl) (.same rfl))
  cases hk : slotOf s.peers.entries h.sender with
  | none => exact findEntry_of_newcomer hk ▸ judged _ (admitPeer_claimsKept _ _ s)
  | some k =>
    by_cases hp : (peerAt s k).position = h.position
    · exact findEntry_known hk hp ▸ judged (s, some k) (.refl s)
    · exact findEntry_of_moved hk hp ▸ judged _ (moved_claimsKept k _ _ s)

/-- A frame taken by the Peer Table: its entry found, what acts on that entry, and what every change of the table brings. -/
theorem keepsClaims_tableReport (h : Header) (p : ReportPayload) : KeepsClaims (tableReport h p) := fun s => by
  have found := findEntry_claimsKept h s
  have acted : ∀ k, KeepsClaims (reportActs k h p) := fun _ _ => .ite (.same rfl) (.same rfl)
  unfold tableReport
  split
  · next heq => rw [heq] at found; exact (found.trans (acted _ _)).trans (keepsClaims_tableChanged _)
  · next heq => rw [heq] at found; exact found.trans (keepsClaims_tableChanged _)

theorem keepsClaims_tableOther (h : Header) : KeepsClaims (tableOther h) := fun s => by
  have found := findEntry_claimsKept h s
  unfold tableOther
  split
  · next heq => rw [heq] at found; exact found.trans (.after (keepsClaims_tableChanged (otherActs _ h _)) rfl)
  · next heq => rw [heq] at found; exact found.trans (keepsClaims_tableChanged _)

theorem keepsClaims_tableAlert (h : Header) (c : AlertContent) : KeepsClaims (tableAlert h c) := fun s => by
  have found := findEntry_claimsKept h s
  unfold tableAlert
  split
  · next t k heq =>
    rw [heq] at found
    have acted := found.trans (.after (keepsClaims_tableChanged (modifyPeer k (fun e => { e with snapshot := some c })
      (otherActs k h t))) rfl)
    exact .ite (acted.trans (keepsClaims_requestDisturbance _ _ _)) acted
  · next heq => rw [heq] at found; exact found.trans (keepsClaims_tableChanged _)

theorem keepsClaims_loseSlot (k : Nat) : KeepsClaims (loseSlot k) := fun _ => .same rfl

theorem keepsClaims_ageTables : KeepsClaims ageTables := fun s => by
  have moves : ∀ k, KeepsClaims (moveSlot k) := fun k s =>
    .ite (.same rfl) (.ite (keepsClaims_loseSlot k s) (.ite (keepsClaims_freeSlot k s) (.refl s)))
  have aged : ClaimsKept s (s.setEntries (s.peers.entries.map (fun e => closeProbation (raiseAge (raiseSilences e))))) := .same rfl
  have moved : KeepsClaims (fun s => (List.range 16).foldl (fun s k => moveSlot k s) s) := keepsClaims_foldl moves _
  exact ((aged.trans (moved _)).trans (keepsClaims_tableChanged _)).trans (keepsClaims_ageRegister _)

/-! ## Link, completions and the counts of a strobe (R56 to R59, R72, R78, R173) -/

/-- A function that changes the link alone. -/
theorem ClaimsKept.of_link {s t : State} (h : t = { s with link := t.link }) : ClaimsKept s t := .same (by rw [h]; rfl)

theorem keepsClaims_settle : KeepsClaims settle := fun s => .of_link (settle_eq s)

theorem keepsClaims_abandonBackoff : KeepsClaims abandonBackoff := fun s => .of_link (abandonBackoff_eq s)

theorem keepsClaims_tellOwner (x : QueueSubject) : KeepsClaims (tellOwner x) := fun s => by
  unfold tellOwner
  split
  · exact (keepsClaims_releaseClosed _ _).reporting s
  · exact .refl s

theorem keepsClaims_completeFrame : KeepsClaims completeFrame := fun s => by
  have series : ∀ x, KeepsClaims (completeSeries x) := fun x s => by
    unfold completeSeries
    split
    · exact .ite (.refl s) (.ite (.after (keepsClaims_tellOwner x _) rfl) (.same rfl))
    · exact .refl s
  unfold completeFrame
  split
  · exact .after (series _ _) rfl
  · exact .same rfl

theorem keepsClaims_clearTimeouts : KeepsClaims clearTimeouts := fun _ =>
  .ite (.after (keepsClaims_judgeImpaired _) rfl) (.same rfl)

theorem keepsClaims_completeIfDue : KeepsClaims completeIfDue := by
  have counted : KeepsClaims countTimeout := fun _ => .ite (.after (keepsClaims_judgeImpaired _) rfl) (.same rfl)
  exact .ite (fun s => completionDue s = true) fun s => (keepsClaims_completeFrame s).trans (counted _)

theorem keepsClaims_endReceptionIfDue : KeepsClaims endReceptionIfDue :=
  .ite (fun s => receptionDue s = true) fun _ => .same rfl

theorem keepsClaims_endBackoffIfDue : KeepsClaims endBackoffIfDue := fun s => .of_link (endBackoffIfDue_eq s)

/-- The counts of a strobe (R56, R59, R78). -/
theorem keepsClaims_strobeTimers : KeepsClaims strobeTimers := fun _ =>
  .after (.trans (.trans (keepsClaims_completeIfDue _) (keepsClaims_endReceptionIfDue _)) (keepsClaims_endBackoffIfDue _)) rfl

/-! ## Delivered frames (Chapters 4 and 5) -/

theorem keepsClaims_timelineReport (h : Header) (l : Stamp) : KeepsClaims (timelineReport h l) := fun s => by
  have source : KeepsClaims (sourceReport h l) := fun s => by
    unfold sourceReport
    dsimp only
    split
    · exact .ite (.same rfl) (.ite (.same rfl) (.same rfl))
    · exact .ite (.same rfl) (.same rfl)
    · exact .same rfl
  have marked : ClaimsKept s (setMark h.sender (alignedBy s.port.image.n h l) s) := by
    unfold setMark
    split <;> exact .same rfl
  unfold timelineReport
  dsimp only
  split
  · exact marked
  · exact marked.trans (.ite (.same rfl) (.refl _))
  · exact .ite (marked.trans (source _)) marked

/-- What a frame of a register's kind brings before the register takes it (R65, R68, R103). -/
theorem tableOther_claimsKept (h : Header) (s : State) : ClaimsKept s (tableOther h (setHold (frameHeard s))) :=
  have heard : ClaimsKept s (setHold (frameHeard s)) := (keepsClaims_frameHeard s).trans (.same rfl)
  heard.trans (keepsClaims_tableOther h _)

theorem keepsClaims_trippedBlocks (n : Nat) (h : Header) (c : TrippedContent) : KeepsClaims (trippedBlocks n h c) := fun s => by
  have d : KeepsClaims (detectorTripped h c) := fun s => .ite ((keepsClaims_enterDeenergized _ _).reporting s) (.refl s)
  have r := (keepsClaims_coverZone c).reporting
  have l := keepsClaims_linkageTripped h.sender c
  dsimp only [trippedBlocks]
  split
  · exact ((d s).trans (r _)).trans (l _)
  · exact ((d s).trans (l _)).trans (r _)
  · exact ((r s).trans (d _)).trans (l _)
  · exact ((r s).trans (l _)).trans (d _)
  · exact ((l s).trans (d _)).trans (r _)
  · exact ((l s).trans (r _)).trans (d _)

/-- The blocks take a frame of a station other than this one in such a way that the register stays in form. -/
def TakesFrames (act : Header → Payload → Stamp → State → State) : Prop :=
  ∀ h p l s, h.sender ≠ s.port.image.stationId → ClaimsKept s (act h p l s)

theorem takesFrames_takeReport : TakesFrames takeReport := fun h p l s _ => by
  unfold takeReport
  split
  · exact ((keepsClaims_frameHeard s).trans (keepsClaims_tableReport h _ _)).trans (keepsClaims_timelineReport h l _)
  · exact .refl s

theorem takesFrames_takeAlert : TakesFrames takeAlert := fun h p _ s _ => by
  have heard : ClaimsKept s (setHold (frameHeard s)) := (keepsClaims_frameHeard s).trans (.same rfl)
  unfold takeAlert
  split
  · exact heard.trans (keepsClaims_tableAlert h _ _)
  · exact .refl s

theorem takesFrames_takeClaimFrame : TakesFrames takeClaimFrame := fun h p _ s station => by
  have table := tableOther_claimsKept h s
  unfold takeClaimFrame
  split
  · exact table.trans (takeClaim_kept (by rw [table.image]; exact station)).reporting
  · exact .refl s

theorem takesFrames_takeReleaseFrame : TakesFrames takeReleaseFrame := fun h p _ s _ => by
  unfold takeReleaseFrame
  split
  · exact (tableOther_claimsKept h s).trans ((keepsClaims_takeRelease _ _).reporting _)
  · exact .refl s

theorem takesFrames_takeTripped : TakesFrames takeTripped := fun h p _ s _ => by
  unfold takeTripped
  split
  · exact (tableOther_claimsKept h s).trans (.after (keepsClaims_trippedBlocks _ _ _ (nextChoice _).2) rfl)
  · exact .refl s

/-- A frame of the own id is dropped (R64). -/
theorem sender_of_valid {image : Image} {b : List Byte} {f : Frame} (h : receiveFilter image b = .valid f) :
    f.header.sender ≠ image.stationId := by
  unfold receiveFilter at h
  dsimp only at h
  repeat' split at h
  all_goals cases h
  assumption

theorem keepsClaims_deliver (kind : Nat) {act : Header → Payload → Stamp → State → State} (h : TakesFrames act)
    (frame : List Byte) : KeepsClaims (deliver kind act frame) := fun s => by
  unfold deliver
  split
  · exact .same rfl
  · next f valid => exact .ite (.after (h f.header f.payload _ (endReception s) (sender_of_valid valid)) rfl) (.refl s)

/-! ## The boundary (Chapters 1 to 5) -/

theorem KeepsClaims.eitherOrder {f g : State → State} (hf : KeepsClaims f) (hg : KeepsClaims g) (race : State → Bool)
    (order : Nat → Bool) : KeepsClaims (fun s => eitherOrder (race s) order f g s) := fun s =>
  have chosen : ClaimsKept s (nextChoice s).2 := .same rfl
  .ite (.ite ((chosen.trans (hf _)).trans (hg _)) ((chosen.trans (hg _)).trans (hf _))) ((hg s).trans (hf _))

theorem keepsClaims_silenceAnd {f : State → State} (h : KeepsClaims f) : KeepsClaims (silenceAnd f) :=
  keepsClaims_epochSilence.eitherOrder h (fun s => jamChanging s && silentChanging s) _

/-- The entry into RUN leaves register, boundaries and image, and evaluates (R91, R92, R159). -/
theorem keepsClaims_enterRun : KeepsClaims enterRun := fun s =>
  have entered : ClaimsKept s { s with run := .run, timeline := { s.timeline with join := .done } } :=
    ⟨rfl, fun _ => nofun, id, fun _ h => h⟩
  entered.trans (keepsClaims_evaluateTrips _)

theorem keepsClaims_openWindow : KeepsClaims openWindow := fun _ => .same rfl

theorem keepsClaims_closeWindow (x : EpochNum) : KeepsClaims (closeWindow x) := fun s =>
  ((ClaimsKept.of_link (shutWindow_eq x s)).trans (keepsClaims_evaluateAdjacency _)).trans (keepsClaims_assess x _)

theorem keepsClaims_endAccumulation (e : EpochNum) (b : Bool) (φ : Phase) (m : TrackerMode) :
    KeepsClaims (endAccumulation e b φ m) := fun s => by
  have taken : ∀ r, KeepsClaims (takeRecord r) := fun r s =>
    have handed : ClaimsKept s (reporting (handRecord r) (s.setEngine { s.engine with ring := ringInsert r s.engine.ring })) :=
      .after ((keepsClaims_handRecord r).reporting _) rfl
    .ite (handed.trans (.same rfl)) handed
  exact .ite (.same rfl) (.after (taken _ _) rfl)

theorem keepsClaims_boundaryEnds (e : EpochNum) (b : Bool) (φ : Phase) (m : TrackerMode) :
    KeepsClaims (boundaryEnds e b φ m) := fun s => by
  have begun : ClaimsKept s (if b then s.setTimeline { s.timeline with slewGuard := false } else s) :=
    .ite (.same rfl) (.refl s)
  have listened : KeepsClaims countListen := fun s =>
    .ite (.ite (.after (keepsClaims_enterRun _) rfl) (.same rfl)) (.refl s)
  have fallen : KeepsClaims fallHold := fun _ => .same rfl
  have expired : KeepsClaims expireAlert := .ite (fun s => alertOverdue s = true) fun _ => .same rfl
  have aged := (((begun.trans (listened _)).trans (fallen _)).trans (expired _)).trans (keepsClaims_ageTables _)
  have recorded : KeepsClaims (recordAndClose e (endAccumulation e b φ m)) := fun s =>
    .ite ((keepsClaims_closeWindow e).eitherOrder (keepsClaims_endAccumulation e b φ m) (fun _ => true) _ s)
      (keepsClaims_endAccumulation e b φ m s)
  have judged := keepsClaims_silenceAnd (keepsClaims_epochBusy.eitherOrder recorded jamComing Config.jamBeforeReport)
  exact (aged.trans (judged _)).trans (keepsClaims_openWindow _)

theorem keepsClaims_boundaryJumps (x : JumpTarget) : KeepsClaims (boundaryJumps x) := fun s => by
  have left : KeepsClaims leaveWindow :=
    .ite (fun s => s.link.windowOpen = true) fun _ => .after (keepsClaims_evaluateAdjacency _) rfl
  have window : KeepsClaims (jumpWindow x) := fun s => .ite ((left s).trans (keepsClaims_openWindow _)) (left s)
  have queue : KeepsClaims (jumpQueue x) := fun s => (keepsClaims_missReport _ s).trans (.same rfl)
  have agreed : KeepsClaims (fun t => reporting judgeAgreement (t.setAssessor (assessorJump t.assessor))) := fun s =>
    (judgeAgreement_kept (s := s) (u := s.setAssessor (assessorJump s.assessor)) rfl rfl rfl).reporting
  have fallen : KeepsClaims fallHold := fun _ => .same rfl
  have joined : KeepsClaims completeJoin := fun s => .ite (keepsClaims_enterRun s) (.refl s)
  have jumped : ClaimsKept s (jumpWindow x (jumpQueue x (s.setEngine (engineJump x.cycle s.engine)))) :=
    .after ((queue _).trans (window _)) rfl
  have blind := jumped.trans (.after (keepsClaims_returnToBlind (timelineJump x _)) rfl)
  have entered := (blind.trans (agreed _)).trans (joined _)
  exact ((entered.trans (fallen _)).trans (keepsClaims_ageTables _)).trans (keepsClaims_silenceAnd keepsClaims_epochBusy _)

theorem keepsClaims_patchStrobe : KeepsClaims patchStrobe := fun s => by
  refine .same ?_
  rw [claimsView, patchStrobe_image, patchStrobe_eq]
  rfl

theorem keepsClaims_recordTracker (es : List TrackerEvent) : KeepsClaims (recordTracker es) := by
  induction es with
  | nil => exact .refl
  | cons e es ih => exact fun s => .after (ih _) rfl

theorem keepsClaims_advanceToSome (s : State) (x : Option Tick) : ClaimsKept s (advanceToSome s x) := by
  rw [advanceToSome_eq]
  exact .same rfl

/-- A cycle boundary (R5). -/
theorem keepsClaims_boundaryBody : KeepsClaims boundaryBody := fun s => by
  have tail : KeepsClaims (fun t => strobeTimers (abandonBackoff (judgePosture (beginCycle t)))) := fun _ =>
    .after ((keepsClaims_abandonBackoff _).trans (keepsClaims_strobeTimers _)) rfl
  have ended : KeepsClaims endCycle := fun s => (keepsClaims_patchStrobe s).trans (.same rfl)
  have evaluated : KeepsClaims evaluateTracker := fun _ => .after (keepsClaims_recordTracker _ _) rfl
  have continues : KeepsClaims boundaryContinues := fun s => .ite (keepsClaims_closeWindow _ s) (.refl s)
  have judged : ∀ kind k, ClaimsKept s (evaluateTracker (linkageTimers kind
      (endCycle ((advanceToSome s s.tracker.next).setTracker k)))) := fun kind k =>
    (keepsClaims_advanceToSome s _).trans
      (.after ((ended _).trans ((keepsClaims_linkageTimers kind _).trans (evaluated _))) rfl)
  unfold boundaryBody
  dsimp only
  refine .trans ?_ (tail _)
  split
  · exact (judged _ _).trans (continues _)
  · exact (judged _ _).trans (keepsClaims_boundaryEnds _ _ _ _ _)
  · exact (judged _ _).trans (keepsClaims_boundaryJumps _ _)

/-! ## The other commands' own operations -/

theorem keepsClaims_takeEdge (φ : Phase) (x : Tick) : KeepsClaims (takeEdge φ x) := fun s => by
  unfold takeEdge
  dsimp only
  rw [advanceTo_eq]
  exact .after (keepsClaims_recordTracker _ _) rfl

theorem keepsClaims_missReference : KeepsClaims missReference := fun s => by
  unfold missReference
  split
  · dsimp only
    rw [advanceTo_eq]
    exact .same rfl
  · exact .refl s

theorem keepsClaims_nextStrobe : KeepsClaims nextStrobe := fun s => by
  unfold nextStrobe
  split
  · next k _ =>
    have issued : KeepsClaims (fun t => { t with sampling := issueStrobe (k + 1) t.sampling }) := fun _ => .same rfl
    exact .ite ((((keepsClaims_advanceToSome s _).trans (keepsClaims_patchStrobe _)).trans (issued _)).trans
      (keepsClaims_strobeTimers _)) (.refl s)
  · exact .refl s

/-! ## Every command -/

/-- The register's form kept, with no records in CONFIG (R137, R138). -/
structure RegisterKept (s t : State) : Prop where
  register : RegisterOk s → RegisterOk t
  pairs : RegisterOk s → PairsOk s → PairsOk t

/-- Out of CONFIG the frame is all there is to keep. -/
theorem ClaimsKept.registerKept {s t : State} (h : ClaimsKept s t) (hs : s.run ≠ .config) : RegisterKept s t where
  register ok := registerOk_iff.mpr ⟨h.records (registerOk_iff.mp ok).1, fun hc => absurd hc (h.running hs)⟩
  pairs ok := h.pairs (registerOk_iff.mp ok).1

theorem RegisterKept.same {s t : State} (h : claimsView t = claimsView s) : RegisterKept s t := by
  obtain ⟨register, run⟩ : t.register = s.register ∧ t.run = s.run := by
    simp only [claimsView, Prod.mk.injEq] at h
    exact ⟨h.1, h.2.2.2.2⟩
  have kept := ClaimsKept.same h
  refine ⟨fun ok => registerOk_iff.mpr ?_, fun ok => kept.pairs (registerOk_iff.mp ok).1⟩
  obtain ⟨records, bare⟩ := registerOk_iff.mp ok
  rw [register, run]
  exact ⟨kept.records records, bare⟩

/-- An empty register is in form, whatever the part. -/
theorem RegisterKept.of_empty {t : State} (empty : t.register = Init.register) (s : State) : RegisterKept s t := by
  refine ⟨fun _ => ?_, fun _ _ => ?_⟩
  · unfold RegisterOk
    rw [empty]
    exact ⟨List.nodup_nil, Nat.zero_le _, by simp [Init.register], fun _ => rfl⟩
  · unfold PairsOk
    rw [empty]
    simp [Init.register]

theorem RegisterKept.ite {c : Prop} [Decidable c] {s t u : State} (ht : RegisterKept s t) (hu : RegisterKept s u) :
    RegisterKept s (if c then t else u) := by
  split
  · exact ht
  · exact hu

theorem KeepsClaims.whileWorking {f : State → State} (h : KeepsClaims f) (s : State) : RegisterKept s (whileWorking f s) := by
  cases hw : s.working with
  | false => rw [whileWorking_of_idle hw]; exact .same rfl
  | true =>
    rw [whileWorking_of_working hw]
    exact ((h s).trans (keepsClaims_settle _)).registerKept (State.working_run hw)

/-- A transaction whose command acts within the view. -/
theorem transact_registerKept {act : State → Reply × State} (h : ∀ s, claimsView (act s).2 = claimsView s) (s : State) :
    RegisterKept s (transact act s) := by
  unfold transact
  dsimp only
  split
  · exact .same rfl
  · split
    · exact .same rfl
    · exact .same (h (s.setPort { s.port with shifted := some (shiftedNow s.port) }))

/-- The image is loaded in CONFIG, over an empty register (R138, R181). -/
theorem loadConfig_registerKept (image : RawImage) (s : State) : RegisterKept s (transact (loadConfig image) s) := by
  unfold transact
  dsimp only
  split
  · exact .same rfl
  split
  · exact .same rfl
  unfold loadConfig
  split
  · next config =>
    refine ⟨fun ok => ?_, fun _ h => h⟩
    obtain ⟨-, -, -, bare⟩ := ok
    have empty := bare config
    unfold RegisterOk
    simp [State.setPort, empty]
  · exact .same rfl

/-- The START instant leaves the register, the boundaries and the image (R182). -/
theorem endValidation_registerKept (s : State) : RegisterKept s (endValidation s) := by
  have started : ClaimsKept s (startInstant s) := ⟨rfl, fun _ => nofun, id, fun _ h => h⟩
  have settled := started.trans (keepsClaims_settle _)
  have listens : (settle (startInstant s)).run ≠ .config := by
    rw [settle_run]
    exact nofun
  unfold endValidation
  split
  · split
    · exact .same rfl
    · exact ⟨fun ok => registerOk_iff.mpr ⟨settled.records (registerOk_iff.mp ok).1, fun hc => absurd hc listens⟩,
        fun ok => settled.pairs (registerOk_iff.mp ok).1⟩
  · exact .same rfl

/-- A change of PEN brings nothing in CONFIG, where no evaluation is made. -/
theorem takePen_registerKept (level : Bool) (s : State) : RegisterKept s (settle (takePen level s)) := by
  have held : ClaimsKept s (takePen level s) := .ite (.same rfl) (.after (keepsClaims_evaluateTrips _) rfl)
  by_cases config : s.run = .config
  · refine .same ?_
    rw [settle_eq]
    unfold takePen
    split
    · rfl
    · rw [evaluateTrips_of_not_run (s := holdPen level s) (by simp [holdPen, config])]
      rfl
  · exact (held.trans (keepsClaims_settle _)).registerKept config

/-- An open-confirm level confirms in RUN alone (R164). -/
theorem takeOpen_registerKept (o : Output) (level : Bool) (s : State) :
    RegisterKept s (settle (takeOpen o level (setOpenPin o level s))) := by
  have view : claimsView (holdOpen o level (setOpenPin o level s)) = claimsView s := by cases o <;> rfl
  have held : ClaimsKept s (takeOpen o level (setOpenPin o level s)) :=
    .ite (.after (keepsClaims_confirmTrip keepsClaims_evaluateTrips o _) view) (.same view)
  by_cases config : s.run = .config
  · refine .same ?_
    have run : (holdOpen o level (setOpenPin o level s)).run = .config := by cases o <;> exact config
    rw [settle_eq]
    unfold takeOpen
    dsimp only
    rw [if_neg (by simp [run])]
    exact view
  · exact (held.trans (keepsClaims_settle _)).registerKept config

/-- Every command keeps the register in form. -/
theorem exec_registerKept (c : Instr) {s t : State} (ht : exec c s = .next t) : RegisterKept s t := by
  have reads : ∀ reply : State → Reply, RegisterKept s (transact (readOnly reply) s) := fun _ =>
    transact_registerKept (fun _ => rfl) s
  have working : ∀ {f : State → State}, KeepsClaims f → t = whileWorking f s → RegisterKept s t := fun hf e => e ▸ hf.whileWorking s
  cases c with
  | powerOnReset => cases ht; exact .of_empty rfl s
  | resetPin => cases ht; exact .of_empty rfl s
  | resetPinAsserted => cases ht; exact .of_empty rfl s
  | reset => cases ht; exact .ite (.same rfl) (.of_empty (by rfl) s)
  | getStatus => cases ht; exact reads _
  | getRecord k => cases ht; exact reads _
  | getPeer k => cases ht; exact reads _
  | getClaims => cases ht; exact reads _
  | getMap => cases ht; exact reads _
  | badCommand => cases ht; exact reads _
  | popEvent =>
    cases ht
    refine transact_registerKept (fun s => ?_) s
    unfold popEvent
    split <;> rfl
  | loadConfig image => cases ht; exact loadConfig_registerKept image s
  | start =>
    cases ht
    refine transact_registerKept (fun s => ?_) s
    unfold startValidation
    split <;> rfl
  | startValidationEnd => cases ht; exact .ite (.same rfl) (endValidation_registerKept s)
  | crossingEdge φ x => cases ht; exact working (keepsClaims_takeEdge φ x) rfl
  | referenceMiss => cases ht; exact working keepsClaims_missReference rfl
  | cycleBoundary => cases ht; exact working keepsClaims_boundaryBody rfl
  | sampleStrobe => cases ht; exact working keepsClaims_nextStrobe rfl
  | sampleStall => cases ht; exact working (.ite (fun s => stallDue s.sampling = true) fun _ => .same (by rfl)) rfl
  | sampleSetArrival set =>
    cases ht
    refine working (fun s => .ite (.same ?_) (.refl s)) rfl
    unfold resumeSampling
    split <;> rfl
  | listenTimeout => cases ht; exact working (.ite (fun s => listenDue s = true) keepsClaims_enterRun) rfl
  | disturbanceClose => cases ht; exact working keepsClaims_testClose.reporting rfl
  | disturbanceTimeout =>
    cases ht
    exact working (KeepsClaims.ite (fun s => forceDue s = true) keepsClaims_forceClose).reporting rfl
  | blindExit =>
    cases ht
    exact working (KeepsClaims.ite (fun s => blindExitDue s = true) keepsClaims_leaveBlind).reporting rfl
  | deenergizedRestored =>
    cases ht
    exact working (KeepsClaims.ite (fun s => restoreDue s = true) keepsClaims_restoreLine).reporting rfl
  | alertExpired => cases ht; exact working (.ite (fun s => alertOverdue s = true) fun _ => .same (by rfl)) rfl
  | vigilanceHoldExpired => cases ht; exact working (.ite (fun s => s.link.hold = 0) fun _ => .same (by rfl)) rfl
  | probationWindowPassed k => cases ht; exact working (fun _ => .same (by rfl)) rfl
  | peerStale k =>
    cases ht
    exact working (.ite (fun s => staleDue (peerAt s k) = true) fun s =>
      .after (keepsClaims_tableChanged (modifyPeer k (fun e => { e with state := .stale }) s)) rfl) rfl
  | peerLost k =>
    cases ht
    exact working (.ite (fun s => lostDue (peerAt s k) = true) fun s =>
      (keepsClaims_loseSlot k s).trans (keepsClaims_tableChanged _)) rfl
  | peerFreed k =>
    cases ht
    exact working (.ite (fun s => freeDue (peerAt s k) = true) fun s =>
      (keepsClaims_freeSlot k s).trans (keepsClaims_tableChanged _)) rfl
  | claimRefresh k f => cases ht; exact working (keepsClaims_refreshIfDue (ownKey s k f)).reporting rfl
  | claimExpired key => cases ht; exact working (keepsClaims_expireClaim key).reporting rfl
  | delayEnd k => cases ht; exact working (.ite (fun s => delayEnded s k = true) keepsClaims_evaluateTrips) rfl
  | backupTrip k =>
    cases ht
    refine working (fun s => ?_) rfl
    split
    · exact keepsClaims_expireBackup _ _ s
    · exact .refl s
  | jammedSet => cases ht; exact working (.ite (fun s => jamDue s = true) keepsClaims_setJammed) rfl
  | silentSet => cases ht; exact working keepsClaims_judgeSilent rfl
  | txDone =>
    cases ht
    have completed : KeepsClaims (fun s => if s.link.sending then completeFrame s else s) :=
      .ite (fun s => s.link.sending = true) keepsClaims_completeFrame
    exact working (fun s => (completed s).trans (keepsClaims_clearTimeouts _)) rfl
  | txCompletionTimeout => cases ht; exact working keepsClaims_completeIfDue rfl
  | backoffEnd => cases ht; exact working keepsClaims_endBackoffIfDue rfl
  | channelBusyChange level =>
    cases ht
    have watched : KeepsClaims (watchBusy level) := fun s => .ite (.refl s) (.same (by rfl))
    have kept := watched.whileWorking { s with busyPin := level }
    exact ⟨kept.register, kept.pairs⟩
  | rxStart => cases ht; exact working (.ite (fun s => s.link.receiverEnable = true) fun _ => .same (by rfl)) rfl
  | receptionTimeout => cases ht; exact working keepsClaims_endReceptionIfDue rfl
  | reportReceived frame => cases ht; exact working (keepsClaims_deliver 1 takesFrames_takeReport frame) rfl
  | alertReceived frame => cases ht; exact working (keepsClaims_deliver 2 takesFrames_takeAlert frame) rfl
  | claimReceived frame => cases ht; exact working (keepsClaims_deliver 3 takesFrames_takeClaimFrame frame) rfl
  | releaseReceived frame => cases ht; exact working (keepsClaims_deliver 4 takesFrames_takeReleaseFrame frame) rfl
  | trippedReceived frame => cases ht; exact working (keepsClaims_deliver 5 takesFrames_takeTripped frame) rfl
  | receivedFrameDropped frame => cases ht; exact working (keepsClaims_deliver 0 (fun _ _ _ s _ => .refl s) frame) rfl
  | penChange level => cases ht; exact .ite (.same (by rfl)) (takePen_registerKept level s)
  | openConfirmChange o level =>
    cases ht
    exact .ite (.same (by cases o <;> rfl)) (takeOpen_registerKept o level s)
  | tripFailed o => cases ht; exact working (keepsClaims_failIfDue o) rfl

/-- Every step keeps the register in form: with a command waiting by `exec_registerKept`; one with none moves the timebase or the queue
of commands alone. -/
theorem step_registerKept {s t : State} (hstep : step s = .next t) : RegisterKept s t := by
  unfold step at hstep
  split at hstep
  · cases hstep
    unfold idle
    split <;> exact .same rfl
  · next c rest _ =>
    have kept := exec_registerKept c (s := { s with pending := rest }) hstep
    exact ⟨kept.register, kept.pairs⟩

/-- Settles O8, by `step_registerKept`. -/
theorem claimRegisterInvariant : Obligations.ClaimRegisterInvariant :=
  ⟨fun _ _ ok hstep => (step_registerKept hstep).register ok, fun _ _ ok pairs hstep => (step_registerKept hstep).pairs ok pairs⟩

end Sys2Proof.Machine

/-! What a CLAIM, RELEASE or TRIPPED frame brings before its own blocks take it (R58, R65, R68, R103, R175), how long an event stays in
the Event Queue, and how many pairs a record placed can bring: the layer under the statements O54 and O56. -/

namespace Sys2Proof.Machine

/-! ## A frame before its blocks take it -/

theorem tableOther_moved (h : Header) (s : State) : TableMoved s (tableOther h s) := by
  have found := findEntry_moved h s
  unfold tableOther
  split
  · next t k heq =>
    rw [heq] at found
    exact (found.trans (modifyPeer_tableOnly k _ t).moved).trans (tableChanged_moved _)
  · next heq => rw [heq] at found; exact found.trans (tableChanged_moved _)

/-- The part as the blocks of a frame's kind find it, with SILENT clear: the reception ended, the frame heard, the hold set, and the
frame taken by the table. -/
def noted (h : Header) (s : State) : State := tableOther h (setHold (listened s))

/-- What of `s` still stands in `u`, the part once a frame has been noted. -/
structure FrameNoted (s u : State) : Prop where
  run : u.run = s.run
  tracker : u.tracker = s.tracker
  detector : u.detector = s.detector
  register : u.register = s.register
  linkage : u.linkage = s.linkage
  image : u.port.image = s.port.image
  impaired : u.fault.impaired = s.fault.impaired
  hold : u.link.hold = Config.holdEpochs

theorem noted_frameNoted {s : State} (hs : s.fault.silent = false) (h : Header) : FrameNoted s (noted h s) := by
  have moved := tableOther_moved h (setHold (listened s))
  have rest := moved.rest (listened_heard hs)
  have image := moved.image
  unfold noted
  generalize tableOther h (setHold (listened s)) = u at rest image
  constructor
  case image => exact image
  all_goals rw [rest]; rfl

theorem FrameNoted.noTripTable {s u : State} (h : FrameNoted s u) (tripless : NoTripTable s) : NoTripTable u := by
  unfold NoTripTable
  rw [h.run, h.image]
  exact tripless

/-- What the re-judging after a frame's blocks leaves of the command (R57, R67, R68). -/
theorem FrameNoted.settles {s u v : State} (h : FrameNoted s u) (w : Within u v) (hw : s.working = true) :
    (settle v).link.hold = 20 ∧ (settle v).tracker = s.tracker ∧ (settle v).run = s.run := by
  have run : v.run = s.run := w.run.trans h.run
  have hold : v.link.hold = Config.holdEpochs := by
    rw [w.link]
    exact h.hold
  have settled : LinkSettled v.link (settle v) := settle_linkSettled (by rw [run]; exact State.working_run hw)
  exact ⟨settled.hold hold, (settle_tracker v).trans (w.tracker.trans h.tracker), (settle_run v).trans run⟩

section
variable {frame : List Byte} {h : Header} {c : ClaimContent} {b : Bool} {s : State}

theorem exec_claimReceived (hw : s.working = true) (tripless : NoTripTable s) (hs : s.fault.silent = false)
    (hf : receiveFilter s.port.image frame = .valid ⟨h, .claim c b⟩) :
    exec (.claimReceived frame) s = .next (settle (takeClaim h c b (noted h s))) := by
  have still : NoTripTable (takeClaim h c b (noted h s)) :=
    ((noted_frameNoted hs h).noTripTable tripless).within (keeps_takeClaim h c b _)
  have delivered : deliver 3 takeClaimFrame frame s =
      reporting (takeClaim h c b) (tableOther h (setHold (frameHeard (endReception s)))) := by
    unfold deliver
    rw [hf]
    rfl
  rw [frameHeard_endReception hs] at delivered
  rw [← reporting_of_noTripTable still, noted, ← delivered]
  exact next_whileWorking hw _

theorem exec_releaseReceived (hw : s.working = true) (tripless : NoTripTable s) (hs : s.fault.silent = false)
    (hf : receiveFilter s.port.image frame = .valid ⟨h, .release c b⟩) :
    exec (.releaseReceived frame) s = .next (settle (takeRelease h c (noted h s))) := by
  have still : NoTripTable (takeRelease h c (noted h s)) :=
    ((noted_frameNoted hs h).noTripTable tripless).within (keeps_takeRelease h c _)
  have delivered : deliver 4 takeReleaseFrame frame s =
      reporting (takeRelease h c) (tableOther h (setHold (frameHeard (endReception s)))) := by
    unfold deliver
    rw [hf]
    rfl
  rw [frameHeard_endReception hs] at delivered
  rw [← reporting_of_noTripTable still, noted, ← delivered]
  exact next_whileWorking hw _

end

/-! ## How long an event stays (R186) -/

/-- The Event Queue holds `e`, with at most `n` events newer than it. -/
def Recent (n : Nat) (e : Event) (s : State) : Prop := ∃ older newer, s.port.events = older ++ e :: newer ∧ newer.length ≤ n

section
variable {n : Nat} {e : Event} {s : State}

theorem Recent.mem (h : Recent n e s) : e ∈ s.port.events := by
  obtain ⟨older, newer, events, -⟩ := h
  simp [events]

theorem Recent.congr {t : State} (h : Recent n e s) (port : t.port = s.port) : Recent n e t := by
  unfold Recent
  rw [port]
  exact h

theorem Recent.mono {m : Nat} (h : Recent n e s) (le : n ≤ m) : Recent m e s := by
  obtain ⟨older, newer, events, few⟩ := h
  exact ⟨older, newer, events, few.trans le⟩

/-- The event just recorded is the newest. -/
theorem record_recent (s : State) (k : EventKind) (x : EventSubject) (y : Option Span) (d : Detail) :
    ∃ e, Recent 0 e (record s k x y d) ∧ e.kind = k ∧ e.subject = x ∧ e.span = y ∧ e.detail = d :=
  ⟨_, ⟨_, [], rfl, Nat.le_refl 0⟩, rfl, rfl, rfl, rfl⟩

/-- An event outlasts one more, the oldest of 32 leaving, as long as fewer than 31 are newer. -/
theorem Recent.record (h : Recent n e s) (room : n < 31) (k : EventKind) (x : EventSubject) (y : Option Span) (d : Detail) :
    Recent (n + 1) e (record s k x y d) := by
  obtain ⟨older, newer, events, few⟩ := h
  by_cases full : 32 ≤ s.port.events.length
  · have long : older ≠ [] := by
      rintro rfl
      simp [events] at full
      omega
    rw [Recent, record_events_of_full k x y d full, events, List.tail_append_of_ne_nil long]
    exact ⟨older.tail, newer ++ [_], List.append_assoc .., by simpa using few⟩
  · rw [Recent, record_events_of_room k x y d (by omega), events]
    exact ⟨older, newer ++ [_], List.append_assoc .., by simpa using few⟩

theorem Recent.recordPairs {ps : List ClaimPair} (h : Recent n e s) (room : n + ps.length ≤ 31) :
    Recent (n + ps.length) e (recordPairs ps s) := by
  induction ps generalizing n s with
  | nil => exact h
  | cons p ps ih =>
    rw [List.length_cons] at room ⊢
    have one := h.record (by omega) .corroborated (.claim p.upKey) (some p.span) (.value p.downKey.claimant)
    exact (ih one (by omega)).mono (by omega)

/-- An event outlasts the pairs that enter at a re-judging. -/
theorem Recent.rejudgePairs {k : Nat} (h : Recent n e s)
    (entering : ((pairsOf s.register.records).filter (fun p => !pairIn s.register.pairs p)).length ≤ k) (room : n + k ≤ 31) :
    Recent (n + k) e (rejudgePairs s) := by
  have same : Recent n e { s with register := ⟨s.register.records.map (fun r =>
      { r with corroborated := inSomePair (pairsOf s.register.records) r.key }), pairsOf s.register.records⟩ } := h.congr rfl
  exact (same.recordPairs (by omega)).mono (by omega)

theorem Recent.requestDisturbance (h : Recent n e s) (room : n < 31) (cause : OpenCause) (x : EventSubject) :
    Recent (n + 1) e (requestDisturbance cause x s) := by
  unfold Machine.requestDisturbance enterDisturbed
  split
  · exact (h.congr rfl : Recent n e { s with detector := _ }).record room ..
  · exact (h.congr rfl : Recent n e { s with detector := _ }).record room ..
  · exact h.mono (Nat.le_succ n)
  · exact h.mono (Nat.le_succ n)

end

/-! ## The pairs that a record placed can bring (R151, R152) -/

theorem corroborate_self (r : ClaimRecord) : corroborate r r = false := by
  unfold corroborate
  cases r.key.fin <;> rfl

/-- At most one new pair for each other record as its U-end, and one as its D-end. -/
theorem pairs_entering_le {rs : List ClaimRecord} {ps : List ClaimPair} (r : ClaimRecord) (listed : ∀ p ∈ pairsOf rs, p ∈ ps) :
    ((pairsOf (rs ++ [r])).filter (fun p => !pairIn ps p)).length ≤ 2 * rs.length := by
  have known : ∀ p ∈ pairsOf rs, (!pairIn ps p) = false := fun p hp => by
    have there : pairIn ps p = true := List.any_eq_true.mpr ⟨p, listed p hp, by simp⟩
    simp [there]
  have upEnds : ∀ u ∈ rs, ((((rs ++ [r]).filter (corroborate u)).map (pairOf u)).filter (fun p => !pairIn ps p)).length ≤ 1 := by
    intro u hu
    have old : ((rs.filter (corroborate u)).map (pairOf u)).filter (fun p => !pairIn ps p) = [] :=
      List.filter_eq_nil_iff.mpr fun p hp => by
        obtain ⟨d, hd, rfl⟩ := List.mem_map.mp hp
        obtain ⟨mem, agree⟩ := List.mem_filter.mp hd
        simp [known _ (mem_pairsOf.mpr ⟨u, hu, d, mem, agree, rfl⟩)]
    rw [List.filter_append, List.map_append, List.filter_append, old, List.nil_append]
    refine (List.length_filter_le _ _).trans ?_
    rw [List.length_map]
    exact List.length_filter_le _ _
  have downEnds : ((((rs ++ [r]).filter (corroborate r)).map (pairOf r)).filter (fun p => !pairIn ps p)).length ≤ rs.length := by
    refine (List.length_filter_le _ _).trans ?_
    rw [List.length_map, List.filter_append]
    simpa [corroborate_self] using List.length_filter_le _ _
  have split : pairsOf (rs ++ [r]) = rs.flatMap (fun u => ((rs ++ [r]).filter (corroborate u)).map (pairOf u)) ++
      ((rs ++ [r]).filter (corroborate r)).map (pairOf r) := by
    simp only [pairsOf, List.flatMap_append, List.flatMap_cons, List.flatMap_nil, List.append_nil]
  rw [split, List.filter_append, List.length_append, List.filter_flatMap, List.length_flatMap]
  have sum := List.sum_le_card_nsmul (rs.map fun u =>
    ((((rs ++ [r]).filter (corroborate u)).map (pairOf u)).filter (fun p => !pairIn ps p)).length) 1
    (List.forall_mem_map.mpr upEnds)
  simp only [List.length_map, smul_eq_mul, mul_one] at sum
  omega

/-- The register holds 12 records at most: 8 heard ones, and one own one for each kind and end (R137). -/
theorem RecordsOk.length_le {s : State} (ok : RecordsOk s) : s.register.records.length ≤ 12 := by
  have own : ((places s).filter Prod.snd).length ≤ 4 := by
    let station := s.port.image.stationId
    have single : (((places s).filter Prod.snd).map Prod.fst).Nodup := ok.keys.sublist (List.filter_sublist.map _)
    have among : ((places s).filter Prod.snd).map Prod.fst ⊆ [⟨station, .openConductor, .u⟩, ⟨station, .openConductor, .d⟩,
        ⟨station, .ground, .u⟩, ⟨station, .ground, .d⟩] := fun k hk => by
      obtain ⟨p, hp, rfl⟩ := List.mem_map.mp hk
      obtain ⟨mem, is⟩ := List.mem_filter.mp hp
      have claimant := (ok.owned p mem).mp is
      obtain ⟨⟨n, kind, fin⟩, _⟩ := p
      obtain rfl : n = station := claimant
      cases kind <;> cases fin <;> simp
    simpa using (List.subperm_of_subset single among).length_le
  have heard := ok.heard
  have parts : (places s).length = ((places s).filter Prod.snd).length + ((places s).filter (fun p => !p.2)).length :=
    List.length_eq_length_filter_add Prod.snd
  have length : (places s).length = s.register.records.length := List.length_map ..
  omega

/-- An event outlasts the pairs that a record placed brings. -/
theorem Recent.placeRecord {n : Nat} {e : Event} {s : State} (h : Recent n e s) (r : ClaimRecord)
    (listed : s.register.pairs = pairsOf s.register.records) (few : s.register.records.length ≤ 12) (room : n ≤ 7) :
    Recent (n + 24) e (placeRecord r s) := by
  refine Recent.rejudgePairs (s := judgeAgreement (s.setRecords (appendRecord r s.register.records))) (h.congr rfl) ?_ (by omega)
  have unmarked : pairsOf (judgeAgreement (s.setRecords (appendRecord r s.register.records))).register.records =
      pairsOf (removeRecord r.key s.register.records ++ [r]) := pairsOf_map (fun x => ⟨x.corroborated, _, rfl⟩) _
  rw [unmarked]
  refine (pairs_entering_le r fun p hp => ?_).trans (Nat.mul_le_mul_left 2 ((List.length_filter_le _ _).trans few))
  exact listed ▸ pairsOf_subset (fun x hx _ => (List.mem_filter.mp hx).1) p hp

end Sys2Proof.Machine

/-! Heard claim records (R144 to R146): what a CLAIM and a RELEASE make of the record of their key and of the register; the statement
O54. -/

namespace Sys2Proof.Machine

/-! ## The record that gives way (R145) -/

/-- The search of a list finds what a test finds first. -/
theorem find?_eq_some_iff_isFirst {α : Type} [DecidableEq α] {p : α → Bool} {test : α → Prop}
    (h : ∀ x, p x = true ↔ test x) {l : List α} {x : α} : l.find? p = some x ↔ IsFirst test l x := by
  unfold IsFirst
  induction l with
  | nil => simp
  | cons a l ih =>
    by_cases ha : test a
    · rw [List.find?_cons_of_pos ((h a).mpr ha)]
      refine ⟨fun same => ?_, fun ⟨_, _, before⟩ => ?_⟩
      · obtain rfl := Option.some.inj same
        simp [ha]
      · by_contra other
        have ne : a ≠ x := fun same => other (congrArg some same)
        exact before a (by simp [ne]) ha
    · have ne : ∀ {x}, test x → a ≠ x := fun hx same => ha (same ▸ hx)
      rw [List.find?_cons_of_neg (fun hp => ha ((h a).mp hp)), ih]
      refine ⟨fun ⟨mem, hx, before⟩ => ⟨List.mem_cons_of_mem a mem, hx, ?_⟩, fun ⟨mem, hx, before⟩ => ?_⟩
      · simpa [ne hx, ha] using before
      · refine ⟨(List.mem_cons.mp mem).resolve_left (ne hx).symm, hx, ?_⟩
        simpa [ne hx, ha] using before

theorem timerRefers_iff {s : State} {key : ClaimKey} : timerRefers s.linkage key = true ↔ TimerRefers s key := by
  unfold timerRefers TimerRefers
  rw [List.any_eq_true]
  refine exists_congr fun x => and_congr_right fun _ => ?_
  cases x.timer.candidate <;> simp

theorem requirementInForce_delayed {e : LinkageEntry} {impaired : Bool} : requirementInForce e impaired = some .delayed ↔
    e.requirement = .delayed ∧ (impaired = true → e.degraded = .same) := by
  unfold requirementInForce
  cases impaired <;> cases e.degraded <;> simp

theorem within_iff {x : Span} {z : Zone} : x.within z = true ↔ InZone z x := by
  simp only [Span.within, Bool.and_eq_true, decide_eq_true_eq, InZone]

theorem answered_iff {trips : List TripItem} {x : Span} : answered trips x = true ↔
    ∃ i ∈ trips, i.content.result = .success ∧ InZone i.content.zone x := by
  simp only [answered, List.any_eq_true, Bool.and_eq_true, decide_eq_true_eq, within_iff]

theorem acceptsKind_iff {e : LinkageEntry} {kind : ClaimKind} : acceptsKind e kind = true ↔
    (kind = .openConductor → e.acceptsOpen = true) ∧ (kind = .ground → e.acceptsGround = true) := by
  cases kind <;> simp [acceptsKind]

theorem inScope_iff {e : LinkageEntry} {trips : List TripItem} {c : Candidate} : inScope e trips c = true ↔
    InZone e.zone c.span ∧
    ((c.key.kind = .openConductor → e.acceptsOpen = true) ∧ (c.key.kind = .ground → e.acceptsGround = true)) ∧
    (¬ ∃ i ∈ trips, i.content.result = .success ∧ InZone i.content.zone c.span) ∧ (e.mapCheck = true → c.agrees = true) := by
  have map : (!e.mapCheck || c.agrees) = true ↔ (e.mapCheck = true → c.agrees = true) := by cases e.mapCheck <;> simp
  simp only [inScope, Bool.and_eq_true, Bool.not_eq_true', within_iff, acceptsKind_iff, map, and_assoc,
    ← Bool.not_eq_true, answered_iff]

theorem anyDelayRuns_iff {s : State} {r : ClaimRecord} : anyDelayRuns s r = true ↔ DelayRuns s r := by
  unfold anyDelayRuns DelayRuns
  rw [List.any_eq_true]
  refine exists_congr fun p => and_congr_right fun _ => ?_
  simp only [delayRuns, Bool.and_eq_true, Bool.not_eq_true', decide_eq_true_eq, inScope_iff, requirementInForce_delayed,
    ClaimRecord.standing, singleCandidate]
  constructor
  · rintro ⟨⟨⟨⟨spent, standing⟩, ⟨lo, hi⟩, ⟨opens, grounds⟩, free, map⟩, delayed, same⟩, young⟩
    exact ⟨spent, standing, young, delayed, same, lo, hi, opens, grounds, map, fun i hi found => free ⟨i, hi, found⟩⟩
  · rintro ⟨spent, standing, young, delayed, same, lo, hi, opens, grounds, map, free⟩
    exact ⟨⟨⟨⟨spent, standing⟩, ⟨lo, hi⟩, ⟨opens, grounds⟩, fun ⟨i, hi, found⟩ => free i hi found, map⟩, delayed, same⟩, young⟩

/-- The record that gives way is the one R145 names. -/
theorem claimVictim_iff {s : State} {r : ClaimRecord} : claimVictim s = some r ↔ GivesWay s r := by
  have released : ∀ x : ClaimRecord, (!x.own && decide (x.status = .released)) = true ↔
      x.own = false ∧ x.status = .released := fun x => by simp
  have loose : ∀ x : ClaimRecord, (!x.own && x.standing && !x.corroborated && !timerRefers s.linkage x.key &&
      !anyDelayRuns s x) = true ↔ x.own = false ∧ x.status = .standing ∧ x.corroborated = false ∧
        ¬ TimerRefers s x.key ∧ ¬ DelayRuns s x := fun x => by
    rw [← timerRefers_iff, ← anyDelayRuns_iff]
    simp only [ClaimRecord.standing, Bool.and_eq_true, Bool.not_eq_true', decide_eq_true_eq, Bool.not_eq_true, and_assoc]
  have none : s.register.records.find? (fun x => !x.own && decide (x.status = .released)) = none ↔
      ∀ x ∈ s.register.records, ¬ (x.own = false ∧ x.status = .released) := by
    rw [List.find?_eq_none]
    exact forall₂_congr fun x _ => not_congr (released x)
  unfold claimVictim GivesWay
  rw [Option.or_eq_some_iff, find?_eq_some_iff_isFirst released, none, find?_eq_some_iff_isFirst loose]

/-- Nothing of what it is chosen by has moved when a frame has been noted. -/
theorem FrameNoted.claimVictim {s u : State} (h : FrameNoted s u) : claimVictim u = claimVictim s := by
  unfold Machine.claimVictim anyDelayRuns delayRuns
  rw [h.register, h.linkage, h.image, h.impaired]

/-! ## A CLAIM or RELEASE and its own header (R144) -/

theorem claimAdmissible_iff {h : Header} {c : ClaimContent} : claimAdmissible h c = true ↔
    (c.fin = .u → c.span.up = h.position) ∧ (c.fin = .d → c.span.down = h.position) ∧
      (c.kind = .openConductor → c.mask ≠ ⟨false, false, false⟩) := by
  have mask : c.mask.some = true ↔ ¬ c.mask = ⟨false, false, false⟩ := by
    obtain ⟨_, _, ⟨a, b, d⟩, _⟩ := c
    cases a <;> cases b <;> cases d <;> simp [PerPhase.some]
  unfold claimAdmissible
  cases c.fin <;> cases c.kind <;> simp [mask]

section
variable {h : Header} {c : ClaimContent} {b : Bool} {s : State} {r : ClaimRecord}

theorem takeClaim_inadmissible (bad : ¬ claimAdmissible h c = true) : takeClaim h c b s = s := if_neg bad

theorem takeClaim_new (good : claimAdmissible h c = true) (new : findRecord s.register.records (heardKey h c) = none) :
    takeClaim h c b s = admitClaim h c s := by
  simp [takeClaim, good, new]

theorem takeClaim_standing (good : claimAdmissible h c = true) (found : findRecord s.register.records (heardKey h c) = some r)
    (standing : r.status = .standing) : takeClaim h c b s = renewClaim h c b r s := by
  simp [takeClaim, good, found, standing]

theorem takeClaim_covered (good : claimAdmissible h c = true) (found : findRecord s.register.records (heardKey h c) = some r)
    (covered : r.status = .covered) : takeClaim h c b s = s := by
  simp [takeClaim, good, found, covered]

theorem takeRelease_inadmissible (bad : ¬ claimAdmissible h c = true) : takeRelease h c s = s := if_neg bad

theorem takeRelease_new (new : findRecord s.register.records (heardKey h c) = none) : takeRelease h c s = s := by
  simp [takeRelease, new]

theorem takeRelease_not_standing (found : findRecord s.register.records (heardKey h c) = some r) (other : r.status ≠ .standing) :
    takeRelease h c s = s := by
  simp [takeRelease, found, ClaimRecord.standing, other]

/-! ## A claim entered (R145) -/

/-- The register's keys in register order. -/
def keysOf (s : State) : List ClaimKey := s.register.records.map ClaimRecord.key

theorem keysOf_eq_places (s : State) : keysOf s = (places s).map Prod.fst := by
  unfold keysOf places
  rw [List.map_map]
  rfl

/-- The state whose record is placed: CLAIM_HEARD is recorded first. -/
def heardRecorded (h : Header) (c : ClaimContent) (s : State) : State :=
  let r := standingRecord s.tracker.epoch (heardKey h c) h.position c false
  recordClaim .claimHeard r (.mask c.mask) s

/-- The heard record placed, before the Detector is asked; all there is to a return from RELEASED. -/
def heardPlaced (h : Header) (c : ClaimContent) (s : State) : State :=
  placeRecord (standingRecord s.tracker.epoch (heardKey h c) h.position c false) (heardRecorded h c s)

theorem heardPlaced_keys (h : Header) (c : ClaimContent) (s : State) :
    keysOf (heardPlaced h c s) = (keysOf s).filter (fun x => x ≠ heardKey h c) ++ [heardKey h c] := placeRecord_keys _ _

theorem heardPlaced_detector (h : Header) (c : ClaimContent) (s : State) : (heardPlaced h c s).detector = s.detector := by
  unfold heardPlaced
  rw [placeRecord_eq]
  rfl

/-- The key finds the record as it has been heard, but for its judged flags. -/
theorem findRecord_heardPlaced (h : Header) (c : ClaimContent) (s : State) : ∃ x,
    findRecord (heardPlaced h c s).register.records (heardKey h c) = some x ∧ x =
      { standingRecord s.tracker.epoch (heardKey h c) h.position c false with
        corroborated := x.corroborated, agrees := x.agrees } := by
  obtain ⟨ps, found⟩ := findRecord_placeRecord_same
    (standingRecord s.tracker.epoch (heardKey h c) h.position c false) (heardRecorded h c s)
  exact ⟨_, found, rfl⟩

/-- A CLAIM under the key of a RELEASED record places it anew and asks for nothing (R144). -/
theorem takeClaim_released (good : claimAdmissible h c = true) (found : findRecord s.register.records (heardKey h c) = some r)
    (released : r.status = .released) : takeClaim h c b s = heardPlaced h c s := by
  simp only [takeClaim, good, found, released, if_true]
  rfl

theorem enterHeard_eq (h : Header) (c : ClaimContent) (s : State) :
    enterHeard h c s = requestDisturbance .claim (.claim (heardKey h c)) (heardPlaced h c s) := rfl

theorem enterHeard_register (h : Header) (c : ClaimContent) (s : State) :
    (enterHeard h c s).register = (heardPlaced h c s).register := by
  rw [enterHeard_eq, requestDisturbance_eq]

/-- The Detector opens from CALM and BLIND, and is left otherwise (R43). -/
theorem enterHeard_detector (h : Header) (c : ClaimContent) (s : State) :
    (s.detector.assessment = .calm ∨ s.detector.assessment = .blind →
      (enterHeard h c s).detector.assessment = .disturbed) ∧
    (s.detector.assessment = .disturbed ∨ s.detector.assessment = .deenergized →
      (enterHeard h c s).detector = s.detector) := by
  have same := heardPlaced_detector h c s
  rw [enterHeard_eq]
  generalize heardPlaced h c s = u at same
  rw [← same]
  refine ⟨fun quiet => ?_, fun opened => by rw [requestDisturbance_of_open opened]⟩
  rcases quiet with calm | blind
  · rw [requestDisturbance_of_calm calm, enterDisturbed_detector]
  · rw [requestDisturbance_of_blind blind, enterDisturbed_detector]

/-- An event outlasts a claim entered: its CLAIM_HEARD, its pairs and the opening. -/
theorem Recent.enterHeard {e : Event} (recent : Recent 0 e s) (listed : s.register.pairs = pairsOf s.register.records)
    (few : s.register.records.length ≤ 12) : e ∈ (enterHeard h c s).port.events := by
  have heard : Recent 1 e (heardRecorded h c s) := recent.record (by omega) ..
  have placed : Recent 25 e (heardPlaced h c s) := heard.placeRecord _ listed few (by omega)
  exact (placed.requestDisturbance (by omega) ..).mem

/-! ## A full register (R137, R145) -/

theorem heardFull_iff {rs : List ClaimRecord} : heardFull rs = true ↔ 8 ≤ (rs.filter (fun r => !r.own)).length := decide_eq_true_iff

theorem admitClaim_of_room (room : ¬ 8 ≤ (s.register.records.filter (fun r => !r.own)).length) :
    admitClaim h c s = enterHeard h c s := if_neg fun full => room (heardFull_iff.mp full)

theorem admitClaim_of_victim (full : 8 ≤ (s.register.records.filter (fun r => !r.own)).length)
    (victim : claimVictim s = some r) : admitClaim h c s = enterHeard h c (evictClaim r s) := by
  simp [admitClaim, heardFull_iff.mpr full, victim]

theorem admitClaim_of_no_victim (full : 8 ≤ (s.register.records.filter (fun r => !r.own)).length)
    (none : claimVictim s = none) :
    admitClaim h c s = record s .claimOverflow (.claim (heardKey h c)) (some c.span) .absent := by
  simp [admitClaim, heardFull_iff.mpr full, none]

/-- An eviction leaves the register as a removal of the record's key leaves it. -/
theorem evictClaim_register (r : ClaimRecord) (s : State) :
    (evictClaim r s).register = (removeRecords (fun x => x.key = r.key) s).register := by
  unfold evictClaim
  dsimp only
  split <;> rfl

theorem evictClaim_keys (mem : r ∈ s.register.records) : keysOf (evictClaim r s) = (keysOf s).filter (fun x => x ≠ r.key) := by
  rw [keysOf_eq_places, places_evictClaim mem, keysOf_eq_places, List.filter_map]
  rfl

theorem evictClaim_detector (r : ClaimRecord) (s : State) : (evictClaim r s).detector = s.detector := by
  unfold evictClaim
  dsimp only
  split <;> exact removeRecords_detector _ s

/-- The pair list is true to the records after an eviction. -/
theorem evictClaim_listed (mem : r ∈ s.register.records) :
    (evictClaim r s).register.pairs = pairsOf (evictClaim r s).register.records := by
  rw [evictClaim_register, removeRecords_of_some ⟨r, mem, by simp⟩]
  exact rejudgePairs_pairs _

/-- A STANDING record that gives way is the newest event's subject (R145). -/
theorem evictClaim_event (standing : r.status = .standing) : ∃ e, Recent 0 e (evictClaim r s) ∧ e.kind = .claimExpired ∧
    e.subject = .claim r.key ∧ e.span = some r.span ∧ e.detail = .named .evicted := by
  have told : evictClaim r s = recordClaim .claimExpired r (.named .evicted) (removeRecords (fun x => x.key = r.key) s) :=
    if_pos (by simp [ClaimRecord.standing, standing])
  rw [told]
  exact record_recent ..

/-- A claim entered in place of the record that gives way: what becomes of the keys, and the event of a STANDING one. -/
theorem evicted_entered (ok : RecordsOk s) (mem : r ∈ s.register.records) (new : heardKey h c ∉ keysOf s) :
    keysOf (enterHeard h c (evictClaim r s)) = (keysOf s).filter (fun x => x ≠ r.key) ++ [heardKey h c] ∧
    (r.status = .standing → ∃ e ∈ (enterHeard h c (evictClaim r s)).port.events, e.kind = .claimExpired ∧
      e.subject = .claim r.key ∧ e.span = some r.span ∧ e.detail = .named .evicted) := by
  have keys := evictClaim_keys mem
  refine ⟨?_, fun standing => ?_⟩
  · have absent : ∀ x ∈ (keysOf s).filter (fun x => x ≠ r.key), decide (x ≠ heardKey h c) = true := fun x hx =>
      decide_eq_true fun same => new (same ▸ (List.mem_filter.mp hx).1)
    rw [keysOf, enterHeard_register, ← keysOf, heardPlaced_keys, keys, List.filter_eq_self.mpr absent]
  · have few : (evictClaim r s).register.records.length ≤ 12 := by
      have fewer := congrArg List.length keys
      rw [keysOf, List.length_map] at fewer
      rw [fewer]
      refine (List.length_filter_le _ _).trans ?_
      rw [keysOf, List.length_map]
      exact ok.length_le
    obtain ⟨e, recent, told⟩ := evictClaim_event (s := s) standing
    exact ⟨e, recent.enterHeard (evictClaim_listed mem) few, told⟩

/-! ## A record renewed (R144) -/

/-- The record with the content of a CLAIM taken. -/
def contentTaken (h : Header) (c : ClaimContent) (epoch : EpochNum) (r : ClaimRecord) : ClaimRecord :=
  { r with position := h.position, span := c.span, mask := c.mask, frameAge := 0, refreshEpoch := epoch }

/-- The key of a record replaced in place finds the new one. -/
theorem findRecord_replaced {key : ClaimKey} {x : ClaimRecord} {rs : List ClaimRecord} (found : findRecord rs key = some r)
    (same : x.key = r.key) : findRecord (modifyRecord r.key (fun _ => x) rs) key = some x := by
  obtain ⟨-, is⟩ := findRecord_some found
  have kept : ∀ y : ClaimRecord, (if y.key = r.key then x else y).key = y.key := fun y => by
    split
    · next there => rw [there, same]
    · rfl
  unfold modifyRecord
  rw [findRecord_map kept, found]
  exact congrArg some (if_pos rfl)

/-- A CLAIM of the same content, or with REFRESH, changes the record in its place. -/
theorem renewClaim_in_place (found : findRecord s.register.records (heardKey h c) = some r)
    (stays : (c.span = r.span ∧ c.mask = r.mask) ∨ b = true) : keysOf (renewClaim h c b r s) = keysOf s ∧ ∃ x,
      findRecord (renewClaim h c b r s).register.records (heardKey h c) = some x ∧ x =
        { contentTaken h c s.tracker.epoch r with corroborated := x.corroborated, agrees := x.agrees } := by
  let u := s.setRecords (modifyRecord r.key (fun _ => contentTaken h c s.tracker.epoch r) s.register.records)
  have keys : keysOf u = keysOf s := modifyRecord_keys (key := r.key) (f := fun _ => contentTaken h c s.tracker.epoch r)
    (fun _ _ => rfl) s.register.records
  have replaced : findRecord u.register.records (heardKey h c) = some (contentTaken h c s.tracker.epoch r) :=
    findRecord_replaced found rfl
  by_cases alike : c.span = r.span ∧ c.mask = r.mask
  · have plain : renewClaim h c b r s = u := if_pos (by simp [alike])
    rw [plain]
    exact ⟨keys, _, replaced, rfl⟩
  · obtain rfl := stays.resolve_left alike
    have judged : renewClaim h c true r s = rejudgePairs (judgeAgreement u) := by
      rw [renewClaim, if_neg (by simpa [or_iff_not_imp_left] using alike)]
      exact if_pos rfl
    obtain ⟨ps, records⟩ := rejudged_records u
    rw [judged]
    refine ⟨(rejudgePairs_keys _).trans ((judgeAgreement_keys u).trans keys),
      (contentTaken h c s.tracker.epoch r).judged ps u.assessor, ?_, rfl⟩
    rw [records, findRecord_map (f := ClaimRecord.judged ps _) (fun _ => rfl), replaced]
    rfl

/-- A CLAIM of another content without REFRESH raises the record afresh, at the end of register order. -/
theorem renewClaim_afresh (found : findRecord s.register.records (heardKey h c) = some r)
    (differs : ¬ (c.span = r.span ∧ c.mask = r.mask)) :
    keysOf (renewClaim h c false r s) = (keysOf s).filter (fun x => x ≠ heardKey h c) ++ [heardKey h c] ∧ ∃ x,
      findRecord (renewClaim h c false r s).register.records (heardKey h c) = some x ∧ x =
        { contentTaken h c s.tracker.epoch r with
          raiseEpoch := s.tracker.epoch, standingAge := 0, corroborated := x.corroborated, agrees := x.agrees } := by
  obtain ⟨-, is⟩ := findRecord_some found
  let x := { contentTaken h c s.tracker.epoch r with raiseEpoch := s.tracker.epoch, standingAge := 0 }
  have placed : renewClaim h c false r s = placeRecord x s := by
    rw [renewClaim, if_neg (by simpa [or_iff_not_imp_left] using differs)]
    exact if_neg nofun
  obtain ⟨ps, finds⟩ := findRecord_placeRecord_same x s
  rw [placed, ← is]
  exact ⟨placeRecord_keys x s, _, finds, rfl⟩

/-! ## A record released (R146) -/

/-- A RELEASE makes the STANDING record of its key RELEASED, in no pair any more; keys and Detector stand. -/
theorem takeRelease_releases (single : (keysOf s).Nodup) (good : claimAdmissible h c = true)
    (found : findRecord s.register.records (heardKey h c) = some r) (standing : r.status = .standing) :
    keysOf (takeRelease h c s) = keysOf s ∧ (takeRelease h c s).detector = s.detector ∧ ∃ x,
      findRecord (takeRelease h c s).register.records (heardKey h c) = some x ∧
        x = { r with status := .released, corroborated := false } := by
  obtain ⟨-, is⟩ := findRecord_some found
  let u := recordClaim .claimReleased r (.named .heard)
    (s.setRecords (modifyRecord r.key (fun x => { x with status := .released }) s.register.records))
  have taken : takeRelease h c s = rejudgePairs u := by
    simp only [takeRelease, good, found, if_true]
    exact if_pos (by simp [ClaimRecord.standing, standing])
  have keys : keysOf u = keysOf s := modifyRecord_keys (key := r.key) (f := fun x => { x with status := .released })
    (fun _ there => there) s.register.records
  have singleNow : (keysOf u).Nodup := keys ▸ single
  have released : findRecord u.register.records (heardKey h c) = some { r with status := .released } := by
    rw [← is] at found ⊢
    exact findRecord_modifyRecord (f := fun x => { x with status := .released }) (fun _ => rfl) found
  have unpaired : inSomePair (pairsOf u.register.records) r.key = false := by
    refine Bool.eq_false_iff.mpr fun paired => ?_
    obtain ⟨p, hp, side⟩ := inSomePair_iff.mp paired
    obtain ⟨x, hx, d, hd, agree, rfl⟩ := mem_pairsOf.mp hp
    obtain ⟨up, down⟩ := corroborate_standing agree
    have fallen : ∀ y ∈ u.register.records, y.key = r.key → y.status = .released := fun y hy same => by
      rw [eq_of_findRecord singleNow released hy (same.trans is)]
    rcases side with same | same
    · exact nomatch (fallen x hx same).symm.trans up
    · exact nomatch (fallen d hd same).symm.trans down
  rw [taken]
  refine ⟨(rejudgePairs_keys u).trans keys, by rw [rejudgePairs_eq]; rfl, _, ?_, rfl⟩
  rw [findRecord_rejudgePairs, released]
  exact congrArg some (congrArg (fun b => { r with status := .released, corroborated := b }) unpaired)

/-! ## O54 -/

/-- A CLAIM of a new key: dropped at a full register where none gives way, else entered. -/
theorem takeClaim_admits (ok : RecordsOk s) (good : claimAdmissible h c = true)
    (new : findRecord s.register.records (heardKey h c) = none) :
    let t := takeClaim h c b s
    let full := 8 ≤ (s.register.records.filter (fun r => !r.own)).length
    (full → claimVictim s = none → t = record s .claimOverflow (.claim (heardKey h c)) (some c.span) .absent) ∧
    (full → ∀ r, claimVictim s = some r → keysOf t = (keysOf s).filter (fun x => x ≠ r.key) ++ [heardKey h c] ∧
      (r.status = .standing → ∃ e ∈ t.port.events, e.kind = .claimExpired ∧ e.subject = .claim r.key ∧
        e.span = some r.span ∧ e.detail = .named .evicted)) ∧
    (¬ full → keysOf t = keysOf s ++ [heardKey h c]) ∧
    (¬ full ∨ (∃ r, claimVictim s = some r) →
      ∃ u, t = enterHeard h c u ∧ u.tracker = s.tracker ∧ u.detector = s.detector) := by
  have absent : heardKey h c ∉ keysOf s := fun mem => by
    obtain ⟨x, hx, is⟩ := List.mem_map.mp mem
    exact List.find?_eq_none.mp new x hx (decide_eq_true is)
  rw [takeClaim_new good new]
  refine ⟨admitClaim_of_no_victim, fun full r victim => ?_, fun room => ?_, fun free => ?_⟩
  · rw [admitClaim_of_victim full victim]
    exact evicted_entered ok (claimVictim_heard victim).1 absent
  · rw [admitClaim_of_room room, keysOf, enterHeard_register, ← keysOf, heardPlaced_keys, List.filter_eq_self.mpr]
    exact fun x hx => decide_eq_true fun same => absent (same ▸ hx)
  · by_cases full : 8 ≤ (s.register.records.filter (fun r => !r.own)).length
    · obtain ⟨r, victim⟩ := free.resolve_left (not_not_intro full)
      exact ⟨_, admitClaim_of_victim full victim, (keeps_evictClaim r s).tracker, evictClaim_detector r s⟩
    · exact ⟨s, admitClaim_of_room full, rfl, rfl⟩

/-- What a claim entered leaves under its key. -/
theorem findRecord_enterHeard (h : Header) (c : ClaimContent) (s : State) : ∃ x,
    findRecord (enterHeard h c s).register.records (heardKey h c) = some x ∧ x =
      { standingRecord s.tracker.epoch (heardKey h c) h.position c false with
        corroborated := x.corroborated, agrees := x.agrees } := by
  rw [enterHeard_register]
  exact findRecord_heardPlaced h c s

/-- A RELEASE keeps keys and Detector, whatever it finds. -/
theorem takeRelease_keeps (single : (keysOf s).Nodup) (h : Header) (c : ClaimContent) :
    keysOf (takeRelease h c s) = keysOf s ∧ (takeRelease h c s).detector = s.detector := by
  by_cases good : claimAdmissible h c = true
  · cases found : findRecord s.register.records (heardKey h c) with
    | none =>
      rw [takeRelease_new found]
      exact ⟨rfl, rfl⟩
    | some r =>
      by_cases standing : r.status = .standing
      · obtain ⟨keys, detector, -⟩ := takeRelease_releases single good found standing
        exact ⟨keys, detector⟩
      · rw [takeRelease_not_standing found standing]
        exact ⟨rfl, rfl⟩
  · rw [takeRelease_inadmissible good]
    exact ⟨rfl, rfl⟩

end

/-- Settles O54: the frame's own blocks by `noted`, then a CLAIM by the record of its key and a RELEASE by its record's status. -/
theorem heardClaimsActByStatus : Obligations.HeardClaimsActByStatus := by
  intro frame h c refresh s hw tripless hs ok key agreesHeader keys
  obtain ⟨records, -⟩ := registerOk_iff.mp ok
  have stands := noted_frameNoted hs h
  refine ⟨fun hf => ⟨_, exec_claimReceived hw tripless hs hf, ?_⟩, fun hf => ⟨_, exec_releaseReceived hw tripless hs hf, ?_⟩⟩
  · generalize noted h s = u at stands
    obtain ⟨hold, tracker, -⟩ := stands.settles (keeps_takeClaim h c refresh u) hw
    have recordsNow : RecordsOk u := by
      unfold RecordsOk places
      rw [stands.register, stands.image]
      exact records
    refine ⟨hold, tracker, fun bad => ?_, fun good new => ?_, fun good r found => ?_⟩
    · rw [settle_register, settle_detector, takeClaim_inadmissible (mt claimAdmissible_iff.mp bad)]
      exact ⟨stands.register, stands.detector⟩
    · have admits := takeClaim_admits (b := refresh) recordsNow (claimAdmissible_iff.mpr good) (by rw [stands.register]; exact new)
      simp only [keysOf, stands.claimVictim, stands.register, stands.detector, stands.tracker] at admits
      obtain ⟨drops, evicts, enters, entered⟩ := admits
      refine ⟨fun full noneGives => ?_, fun full r _ gives => ?_, fun room => ?_, fun free => ?_⟩
      · have noVictim : claimVictim s = none := Option.eq_none_iff_forall_ne_some.mpr fun r victim =>
          noneGives r (claimVictim_heard victim).1 (claimVictim_iff.mp victim)
        rw [settle_register, settle_detector, settle_port, drops full noVictim]
        exact ⟨stands.register, stands.detector, _, List.getLast?_concat, rfl, rfl, rfl⟩
      · dsimp only [keys]
        rw [settle_register, settle_port]
        exact evicts full r (claimVictim_iff.mpr gives)
      · dsimp only [keys]
        rw [settle_register]
        exact enters room
      · obtain ⟨v, eq, epoch, detector⟩ := entered (free.imp_right fun ⟨r, _, gives⟩ => ⟨r, claimVictim_iff.mpr gives⟩)
        obtain ⟨x, finds, is⟩ := findRecord_enterHeard h c v
        rw [settle_register, settle_detector, eq, ← detector, ← epoch]
        refine ⟨⟨x, finds, ?_⟩, enterHeard_detector h c v⟩
        rw [is]
        exact ⟨rfl, rfl, rfl, rfl, rfl, rfl, rfl, rfl⟩
    · have foundNow : findRecord u.register.records (heardKey h c) = some r := by rw [stands.register]; exact found
      have admissible := claimAdmissible_iff.mpr good
      dsimp only [keys]
      rw [settle_register, settle_detector, ← stands.register, ← stands.tracker, ← stands.detector]
      refine ⟨fun standing => ?_, fun released => ?_, fun covered => ?_⟩
      · rw [takeClaim_standing admissible foundNow standing]
        by_cases stays : (c.span = r.span ∧ c.mask = r.mask) ∨ refresh = true
        · obtain ⟨sameKeys, x, finds, is⟩ := renewClaim_in_place foundNow stays
          refine ⟨x, finds, ?_⟩
          rw [is]
          exact ⟨standing, rfl, rfl, rfl, rfl, fun _ => ⟨rfl, rfl, sameKeys⟩,
            fun differs fresh => absurd stays (not_or.mpr ⟨differs, by simp [fresh]⟩)⟩
        · obtain ⟨differs, fresh⟩ := not_or.mp stays
          obtain rfl := Bool.eq_false_iff.mpr fresh
          obtain ⟨newKeys, x, finds, is⟩ := renewClaim_afresh foundNow differs
          refine ⟨x, finds, ?_⟩
          rw [is]
          exact ⟨standing, rfl, rfl, rfl, rfl, fun stays' => absurd stays' stays, fun _ _ => ⟨rfl, rfl, newKeys⟩⟩
      · obtain ⟨x, finds, is⟩ := findRecord_heardPlaced h c u
        rw [takeClaim_released admissible foundNow released]
        refine ⟨heardPlaced_detector h c u, heardPlaced_keys h c u, x, finds, ?_⟩
        rw [is]
        exact ⟨rfl, rfl, rfl, rfl, rfl, rfl⟩
      · rw [takeClaim_covered admissible foundNow covered]
        exact ⟨rfl, rfl⟩
  · generalize noted h s = u at stands
    obtain ⟨hold, tracker, -⟩ := stands.settles (keeps_takeRelease h c u) hw
    have single : (keysOf u).Nodup := by
      rw [keysOf_eq_places, places, stands.register]
      exact records.keys
    obtain ⟨sameKeys, detector⟩ := takeRelease_keeps single h c
    dsimp only [keys]
    rw [settle_register, settle_detector, ← stands.register, ← stands.detector]
    refine ⟨hold, tracker, detector, sameKeys, fun bad => ?_, fun new => ?_, fun r found => ⟨fun other => ?_, fun good standing => ?_⟩⟩
    · rw [takeRelease_inadmissible (mt claimAdmissible_iff.mp bad)]
    · rw [takeRelease_new new]
    · rw [takeRelease_not_standing found other]
    · obtain ⟨-, -, x, finds, is⟩ := takeRelease_releases single (claimAdmissible_iff.mpr good) found standing
      refine ⟨x, finds, ?_⟩
      rw [is]
      exact ⟨rfl, rfl⟩

end Sys2Proof.Machine

/-! The blocks that take a TRIPPED (R50, R148, R149, R162, R167), each by itself where no evaluation can follow: what it makes of the
records, the Detector, the trip list and the events. -/

namespace Sys2Proof.Machine

/-! ## TRIPPED_HEARD and the table (R186) -/

/-- Every TRIPPED_HEARD that `t` holds was there in `s`. -/
def Unheard (s t : State) : Prop := ∀ e ∈ t.port.events, e.kind = .trippedHeard → e ∈ s.port.events

theorem Unheard.of_port {s t : State} (port : t.port = s.port) : Unheard s t := fun e he _ => by rwa [port] at he

theorem Unheard.trans {s t u : State} (h : Unheard s t) (k : Unheard t u) : Unheard s u := fun e he is => h e (k e he is) is

/-- An event of another kind brings no TRIPPED_HEARD. -/
theorem record_unheard {s : State} {k : EventKind} (other : k ≠ .trippedHeard) (x : EventSubject) (y : Option Span) (d : Detail) :
    Unheard s (record s k x y d) := by
  intro e he is
  unfold record at he
  dsimp only at he
  rcases List.mem_append.mp he with old | new
  · split at old
    · exact List.mem_of_mem_tail old
    · exact old
  · rw [List.mem_singleton.mp new] at is
    exact absurd is other

/-- What the table makes of a frame with SILENT clear, and that it records no TRIPPED_HEARD. -/
structure TableQuiet (s t : State) : Prop where
  moved : TableMoved s t
  unheard : Heard s → Unheard s t

theorem TableQuiet.trans {s t u : State} (h : TableQuiet s t) (k : TableQuiet t u) : TableQuiet s u :=
  ⟨h.moved.trans k.moved, fun hs => (h.unheard hs).trans (k.unheard (h.moved.heard hs))⟩

theorem TableOnly.quiet {s t : State} (h : TableOnly s t) (unheard : Unheard s t) : TableQuiet s t := ⟨h.moved, fun _ => unheard⟩

theorem TableQuiet.refl (s : State) : TableQuiet s s := (TableOnly.refl s).quiet (.of_port rfl)

theorem tableChanged_quiet (s : State) : TableQuiet s (tableChanged s) :=
  ⟨tableChanged_moved s, fun hs => .of_port (by rw [tableChanged_of_heard hs])⟩

theorem dropAdjacent_quiet (k : Nat) (s : State) : TableQuiet s (dropAdjacent k s) :=
  (dropAdjacent_tableOnly k s).quiet (.of_port (by rw [dropAdjacent_eq]))

theorem modifyPeer_quiet (k : Nat) (f : PeerEntry → PeerEntry) (s : State) : TableQuiet s (modifyPeer k f s) :=
  (modifyPeer_tableOnly k f s).quiet (.of_port rfl)

theorem setConflicts_quiet (s : State) (l : List Nat) : TableQuiet s (setConflicts s l) :=
  (setConflicts_tableOnly s l).quiet (.of_port rfl)

theorem record_quiet {s : State} {k : EventKind} (other : k ≠ .trippedHeard) (x : EventSubject) (y : Option Span) (d : Detail) :
    TableQuiet s (record s k x y d) := (record_tableOnly s k x y d).quiet (record_unheard other x y d)

theorem evict_quiet (k : Nat) (s : State) : TableQuiet s (evict k s) := by
  unfold evict
  dsimp only
  split
  · exact .refl s
  · split
    · exact dropAdjacent_quiet k s
    · exact (dropAdjacent_quiet k s).trans (record_quiet (by decide) _ _ _)

theorem admitPeer_quiet (id position : Nat) (s : State) : TableQuiet s (admitPeer id position s).1 := by
  unfold admitPeer
  split
  · split
    · exact .refl s
    · exact (record_quiet (by decide) _ _ _).trans (setConflicts_quiet _ _)
  · split
    · exact TableOnly.quiet ⟨rfl, rfl⟩ (.of_port rfl)
    · exact ((evict_quiet _ s).trans ((modifyPeer_quiet _ _ _).trans (setConflicts_quiet _ _))).trans (tableChanged_quiet _)

theorem moved_quiet (k id position : Nat) (s : State) : TableQuiet s (moved k id position s).1 := by
  dsimp only [moved]
  split
  · exact record_quiet (by decide) _ _ _
  · split
    · exact (((modifyPeer_quiet k _ s).trans (dropAdjacent_quiet k _)).trans
        ((record_quiet (by decide) _ _ _).trans (setConflicts_quiet _ _))).trans (tableChanged_quiet _)
    · exact ((modifyPeer_quiet k _ s).trans (dropAdjacent_quiet k _)).trans (tableChanged_quiet _)

theorem findEntry_quiet (h : Header) (s : State) : TableQuiet s (findEntry h s).1 := by
  have mismatch : ∀ k t, TableQuiet t (judgeMismatch k h t) := fun k t => by
    unfold judgeMismatch
    dsimp only
    split
    · exact (modifyPeer_quiet k _ t).trans (record_quiet (by decide) _ _ _)
    · exact modifyPeer_quiet k _ t
  have judged : ∀ r : State × Option Nat, TableQuiet s r.1 → TableQuiet s (flagged h r).1 := by
    rintro ⟨t, _ | k⟩ found
    · exact found
    · exact found.trans (mismatch k t)
  cases hk : slotOf s.peers.entries h.sender with
  | none => exact findEntry_of_newcomer hk ▸ judged _ (admitPeer_quiet _ _ s)
  | some k =>
    by_cases hp : (peerAt s k).position = h.position
    · exact findEntry_known hk hp ▸ judged (s, some k) (.refl s)
    · exact findEntry_of_moved hk hp ▸ judged _ (moved_quiet k _ _ s)

/-- A frame noted with SILENT clear brings no TRIPPED_HEARD. -/
theorem noted_unheard {s : State} (hs : s.fault.silent = false) (h : Header) : Unheard s (noted h s) := by
  have found := findEntry_quiet h (setHold (listened s))
  have taken : TableQuiet (setHold (listened s)) (noted h s) := by
    unfold noted tableOther
    split
    · next t k heq =>
      rw [heq] at found
      exact (found.trans (modifyPeer_quiet k _ t)).trans (tableChanged_quiet _)
    · next heq => rw [heq] at found; exact found.trans (tableChanged_quiet _)
  exact taken.unheard (listened_heard hs)

/-! ## Records but for their corroborated marks -/

/-- A record without its corroborated mark. -/
def ClaimRecord.bare (r : ClaimRecord) : ClaimRecord := { r with corroborated := false }

/-- The register's records without their marks. -/
def bareRecords (s : State) : List ClaimRecord := s.register.records.map ClaimRecord.bare

/-- A record COVERED if it is STANDING and meets a test (R148, R149). -/
def coverIf (p : ClaimRecord → Bool) (r : ClaimRecord) : ClaimRecord :=
  if r.standing && p r then { r with status := .covered } else r

/-- A test that does not ask for the corroborated mark. -/
def MarkBlind (p : ClaimRecord → Bool) : Prop := ∀ r, p r.bare = p r

theorem bare_rejudged (s : State) : bareRecords (rejudgePairs s) = bareRecords s := by
  unfold bareRecords
  rw [rejudgePairs_register, List.map_map]
  rfl

/-- What a mark-blind fact says of the records, it says of the bare ones. -/
theorem forall_bare {p : ClaimRecord → Prop} (blind : ∀ r, p r.bare ↔ p r) {s : State} :
    (∀ r ∈ s.register.records, p r) ↔ ∀ r ∈ bareRecords s, p r := by
  unfold bareRecords
  rw [List.forall_mem_map]
  exact forall₂_congr fun r _ => (blind r).symm

section
variable {p : ClaimRecord → Bool} (blind : MarkBlind p)
include blind

theorem coverIf_bare (r : ClaimRecord) : (coverIf p r).bare = coverIf p r.bare := by
  have same : r.bare.standing = r.standing := rfl
  unfold coverIf
  rw [blind r, same]
  split <;> rfl

theorem coverRecords_bare (s : State) : bareRecords (coverRecords p s) = (bareRecords s).map (coverIf p) := by
  have moved : (s.register.records.map (coverIf p)).map ClaimRecord.bare = (bareRecords s).map (coverIf p) := by
    unfold bareRecords
    rw [List.map_map, List.map_map]
    exact List.map_congr_left fun r _ => coverIf_bare blind r
  unfold coverRecords
  dsimp only
  split
  · rw [bare_rejudged]
    exact moved
  · next none =>
    have unhit : s.register.records.map (coverIf p) = s.register.records :=
      (List.map_congr_left fun r hr => if_neg fun hit => none (List.any_eq_true.mpr ⟨r, hr, hit⟩)).trans (List.map_id _)
    rw [← moved, unhit]
    rfl

theorem removeRecords_bare (s : State) : bareRecords (removeRecords p s) = (bareRecords s).filter (fun r => !p r) := by
  have moved : (s.register.records.filter (fun r => !p r)).map ClaimRecord.bare = (bareRecords s).filter (fun r => !p r) := by
    unfold bareRecords
    rw [List.filter_map]
    exact congrArg _ (List.filter_congr fun r _ => congrArg not (blind r).symm)
  unfold removeRecords
  dsimp only
  split
  · rw [bare_rejudged]
    exact moved
  · next none =>
    have unhit : s.register.records.filter (fun r => !p r) = s.register.records :=
      List.filter_eq_self.mpr fun r hr => by
        rw [Bool.not_eq_true']
        exact Bool.eq_false_iff.mpr fun hit => none (List.any_eq_true.mpr ⟨r, hr, hit⟩)
    rw [← moved, unhit]
    rfl

end

/-- A record that stands once a test has covered was there before, and fails the test. -/
theorem standing_of_coverIf {p : ClaimRecord → Bool} {rs : List ClaimRecord} {r : ClaimRecord} (hr : r ∈ rs.map (coverIf p))
    (standing : r.status = .standing) : r ∈ rs ∧ p r = false := by
  obtain ⟨x, hx, rfl⟩ := List.mem_map.mp hr
  unfold coverIf at standing ⊢
  split at standing
  · cases standing
  · next unhit =>
    rw [if_neg unhit]
    exact ⟨hx, Bool.eq_false_iff.mpr fun hit => unhit (by simp [ClaimRecord.standing, standing, hit])⟩

/-- A record covered by one test after another is covered by either. -/
theorem coverIf_coverIf (p q : ClaimRecord → Bool) (r : ClaimRecord) :
    coverIf p (coverIf q r) = coverIf (fun r => p r || q r) r := by
  by_cases hit : (r.standing && q r) = true
  · obtain ⟨standing, meets⟩ := Bool.and_eq_true_iff.mp hit
    have first : coverIf q r = { r with status := .covered } := if_pos hit
    have either : coverIf (fun r => p r || q r) r = { r with status := .covered } := if_pos (by simp [standing, meets])
    rw [first, either]
    exact if_neg (by simp [ClaimRecord.standing])
  · have first : coverIf q r = r := if_neg hit
    rw [first]
    unfold coverIf
    rw [Bool.and_or_distrib_left, Bool.eq_false_iff.mpr hit, Bool.or_false]

/-! ## Covering and removing leave the other blocks -/

/-- `t` has the Detector, the trip list and the known TRIPPED_HEARD of `s`; where the pair list was true to the records it still is,
and no event has been recorded. -/
structure OnlyClaims (s t : State) : Prop where
  detector : t.detector = s.detector
  linkage : t.linkage = s.linkage
  unheard : Unheard s t
  listed : s.register.pairs = pairsOf s.register.records →
    t.register.pairs = pairsOf t.register.records ∧ t.port = s.port

theorem OnlyClaims.refl (s : State) : OnlyClaims s s := ⟨rfl, rfl, .of_port rfl, fun listed => ⟨listed, rfl⟩⟩

theorem OnlyClaims.trans {s t u : State} (h : OnlyClaims s t) (k : OnlyClaims t u) : OnlyClaims s u where
  detector := k.detector.trans h.detector
  linkage := k.linkage.trans h.linkage
  unheard := h.unheard.trans k.unheard
  listed hs := by
    obtain ⟨ht, port⟩ := h.listed hs
    obtain ⟨hu, port'⟩ := k.listed ht
    exact ⟨hu, port'.trans port⟩

/-- A re-judging over records of which no STANDING one is new. -/
theorem rejudged_onlyClaims {s u : State} (detector : u.detector = s.detector) (linkage : u.linkage = s.linkage)
    (port : u.port = s.port) (pairs : u.register.pairs = s.register.pairs)
    (old : ∀ r ∈ u.register.records, r.status = .standing → r ∈ s.register.records) : OnlyClaims s (rejudgePairs u) where
  detector := by rw [rejudgePairs_eq]; exact detector
  linkage := by rw [rejudgePairs_eq]; exact linkage
  unheard := by
    have pairsUnheard : ∀ ps t, Unheard t (recordPairs ps t) := fun ps => by
      induction ps with
      | nil => exact fun t => .of_port rfl
      | cons p ps ih => exact fun t => (record_unheard (by decide) _ _ _).trans (ih _)
    have same : Unheard s { u with register := ⟨u.register.records.map (fun r =>
      { r with corroborated := inSomePair (pairsOf u.register.records) r.key }), pairsOf u.register.records⟩ } := .of_port port
    exact same.trans (pairsUnheard _ _)
  listed hs := by
    refine ⟨rejudgePairs_pairs u, ?_⟩
    rw [rejudgePairs_of_no_new fun q hq => ?_]
    · exact port
    · rw [pairs, hs]
      exact pairsOf_subset old q hq

theorem withdrawAll_eq (rs : List ClaimRecord) (s : State) :
    withdrawAll rs s = { s with link := { s.link with queue := (withdrawAll rs s).link.queue } } := by
  induction rs generalizing s with
  | nil => rfl
  | cons r rs ih =>
    rw [withdrawAll, ih]
    split <;> rfl

theorem coverRecords_onlyClaims (p : ClaimRecord → Bool) (s : State) : OnlyClaims s (coverRecords p s) := by
  unfold coverRecords
  dsimp only
  split
  · rw [withdrawAll_eq]
    exact rejudged_onlyClaims rfl rfl rfl rfl fun r hr standing => (standing_of_coverIf hr standing).1
  · exact .refl s

theorem removeRecords_onlyClaims (p : ClaimRecord → Bool) (s : State) : OnlyClaims s (removeRecords p s) := by
  unfold removeRecords
  dsimp only
  split
  · rw [releaseHolds_eq]
    exact rejudged_onlyClaims rfl rfl rfl rfl fun r hr _ => (List.mem_filter.mp hr).1
  · exact .refl s

end Sys2Proof.Machine

/-! What each of the three blocks that take a TRIPPED makes of the part where no evaluation can follow: the Trip Linkage (R162, R167),
the Claim Register (R47, R148), the Detector (R50, R149). -/

namespace Sys2Proof.Machine

/-! ## The Trip Linkage: the trip list and the timers (R162, R167) -/

/-- `t` has the Detector, the register and the trip list of `s`, and no TRIPPED_HEARD but those of `s`. -/
structure OnlyTimers (s t : State) : Prop where
  detector : t.detector = s.detector
  register : t.register = s.register
  trips : t.linkage.trips = s.linkage.trips
  unheard : Unheard s t

theorem OnlyTimers.refl (s : State) : OnlyTimers s s := ⟨rfl, rfl, rfl, .of_port rfl⟩

theorem OnlyTimers.trans {s t u : State} (h : OnlyTimers s t) (k : OnlyTimers t u) : OnlyTimers s u :=
  ⟨k.detector.trans h.detector, k.register.trans h.register, k.trips.trans h.trips, h.unheard.trans k.unheard⟩

/-- A timer's turn: what it leaves, and that it brings at most one event. -/
theorem timerByTripped_onlyTimers (c : TrippedContent) (k : Nat) (s : State) : OnlyTimers s (timerByTripped c k s) ∧
    ∀ {n e}, Recent n e s → n < 31 → Recent (n + 1) e (timerByTripped c k s) := by
  have idle : OnlyTimers s s ∧ ∀ {n e}, Recent n e s → n < 31 → Recent (n + 1) e s :=
    ⟨.refl s, fun recent _ => recent.mono (Nat.le_succ _)⟩
  have changed : ∀ f, OnlyTimers s (modifyRuntime k f s) ∧
      ∀ {n e}, Recent n e s → n < 31 → Recent (n + 1) e (modifyRuntime k f s) :=
    fun f => ⟨⟨rfl, rfl, rfl, .of_port rfl⟩, fun recent _ => (recent.congr rfl).mono (Nat.le_succ _)⟩
  unfold timerByTripped
  split
  · exact idle
  · split
    · split
      · exact changed _
      · exact ⟨⟨rfl, rfl, rfl, record_unheard (by decide) _ _ _⟩, fun recent room => (recent.congr rfl).record room ..⟩
    · exact idle
  · split
    · exact changed _
    · exact idle

/-- The eight timers: what they leave, and that they bring at most eight events. -/
theorem timersByTripped_onlyTimers (c : TrippedContent) (s : State) : OnlyTimers s (timersByTripped c s) ∧
    ∀ {e}, Recent 0 e s → Recent 8 e (timersByTripped c s) := by
  have turns : ∀ (ks : List Nat) (s : State), OnlyTimers s (ks.foldl (fun s k => timerByTripped c k s) s) ∧
      ∀ {n e}, Recent n e s → n + ks.length ≤ 31 →
        Recent (n + ks.length) e (ks.foldl (fun s k => timerByTripped c k s) s) := by
    intro ks
    induction ks with
    | nil => exact fun s => ⟨.refl s, fun recent _ => recent⟩
    | cons k ks ih =>
      intro s
      obtain ⟨leaves, stays⟩ := timerByTripped_onlyTimers c k s
      obtain ⟨leaves', stays'⟩ := ih (timerByTripped c k s)
      refine ⟨leaves.trans leaves', fun recent room => ?_⟩
      rw [List.length_cons] at room ⊢
      exact (stays' (stays recent (by omega)) (by omega)).mono (by omega)
  obtain ⟨leaves, stays⟩ := turns (List.range 8) s
  exact ⟨leaves, fun recent => stays recent (by decide)⟩

/-- A TRIPPED taken into the trip list, with TRIPPED_HEARD unless it matches an item (R167). -/
def tripHeard (n : Nat) (c : TrippedContent) (s : State) : State :=
  if tripKnown s.linkage.trips n c then takeIntoTripList n c s
  else record (takeIntoTripList n c s) .trippedHeard (.station n) (some c.span) (.trip c.result c.output)

section
variable {n : Nat} {c : TrippedContent} {s : State}

theorem tripHeard_fields (n : Nat) (c : TrippedContent) (s : State) : (tripHeard n c s).detector = s.detector ∧
    (tripHeard n c s).register = s.register ∧ (tripHeard n c s).linkage.trips = tripListTake n c s.linkage.trips := by
  unfold tripHeard
  split <;> exact ⟨rfl, rfl, rfl⟩

theorem linkageTripped_eq (tripless : NoTripTable s) (n : Nat) (c : TrippedContent) : linkageTripped n c s =
    if (tripHeard n c s).run = .run then timersByTripped c (tripHeard n c s) else tripHeard n c s := by
  have within : Within s (timersByTripped c (tripHeard n c s)) := by
    have heard : Within s (tripHeard n c s) := by
      unfold tripHeard
      split
      · exact keeps_takeIntoTripList n c s
      · exact (keeps_takeIntoTripList n c s).trans (keeps_record _ _ _ _ _)
    exact heard.trans (keeps_timersByTripped c _)
  have quiet := evaluateTrips_of_noTripTable (tripless.within within)
  unfold tripHeard at quiet ⊢
  unfold linkageTripped
  dsimp only
  rw [quiet]

theorem linkageTripped_onlyTimers (tripless : NoTripTable s) (n : Nat) (c : TrippedContent) :
    OnlyTimers (tripHeard n c s) (linkageTripped n c s) := by
  rw [linkageTripped_eq tripless]
  split
  · exact (timersByTripped_onlyTimers c _).1
  · exact .refl _

theorem linkageTripped_detector (tripless : NoTripTable s) : (linkageTripped n c s).detector = s.detector :=
  (linkageTripped_onlyTimers tripless n c).detector.trans (tripHeard_fields n c s).1

theorem linkageTripped_register (tripless : NoTripTable s) : (linkageTripped n c s).register = s.register :=
  (linkageTripped_onlyTimers tripless n c).register.trans (tripHeard_fields n c s).2.1

theorem linkageTripped_trips (tripless : NoTripTable s) :
    (linkageTripped n c s).linkage.trips = tripListTake n c s.linkage.trips :=
  (linkageTripped_onlyTimers tripless n c).trips.trans (tripHeard_fields n c s).2.2

theorem linkageTripped_unheard (tripless : NoTripTable s) (known : tripKnown s.linkage.trips n c = true) :
    Unheard s (linkageTripped n c s) := by
  have heard : Unheard s (tripHeard n c s) := .of_port (by rw [tripHeard, if_pos known]; rfl)
  exact heard.trans (linkageTripped_onlyTimers tripless n c).unheard

/-- The TRIPPED_HEARD of a TRIPPED. -/
def TellsTrip (n : Nat) (c : TrippedContent) (e : Event) : Prop :=
  e.kind = .trippedHeard ∧ e.subject = .station n ∧ e.span = some c.span ∧ e.detail = .trip c.result c.output

theorem linkageTripped_tells (tripless : NoTripTable s) (unknown : tripKnown s.linkage.trips n c = false) :
    ∃ e, Recent 8 e (linkageTripped n c s) ∧ TellsTrip n c e := by
  obtain ⟨e, recent, tells⟩ := record_recent (takeIntoTripList n c s) .trippedHeard (.station n) (some c.span)
    (.trip c.result c.output)
  have heard : Recent 0 e (tripHeard n c s) := by
    rw [tripHeard, if_neg (by simp [unknown])]
    exact recent
  refine ⟨e, ?_, tells⟩
  rw [linkageTripped_eq tripless]
  split
  · exact (timersByTripped_onlyTimers c _).2 heard
  · exact heard.mono (Nat.zero_le 8)

end

/-! ## The Claim Register: the zone covered, and the close (R47, R148) -/

/-- The records within the zone of a TRIPPED. -/
def zoned (c : TrippedContent) (r : ClaimRecord) : Bool := r.span.within c.zone

theorem zoned_iff {c : TrippedContent} {r : ClaimRecord} : zoned c r = true ↔ InZone c.zone r.span := within_iff

/-- The settle counter stands full in DISTURBED, and a record that the zone covers is an own one (R46, R47). -/
def Closable (c : TrippedContent) (s : State) : Prop :=
  s.detector.assessment = .disturbed ∧ s.port.image.settleCount ≤ s.detector.settle ∧
    ∃ r ∈ s.register.records, r.own = true ∧ r.status = .standing ∧ InZone c.zone r.span

/-- The own records that the zone covers are moreover the last to stand. -/
def Closes (c : TrippedContent) (s : State) : Prop :=
  Closable c s ∧ ∀ r ∈ s.register.records, r.own = true → r.status = .standing → InZone c.zone r.span

/-- The zone covered, before the Detector is told. -/
def zoneCovered (c : TrippedContent) (s : State) : State := coverRecords (zoned c) s

section
variable {c : TrippedContent} {s : State}

theorem coverZone_of_failed (failed : c.result = .failed) (s : State) : coverZone c s = s := by
  unfold coverZone
  rw [failed]

theorem zoneCovered_bare (c : TrippedContent) (s : State) :
    bareRecords (zoneCovered c s) = (bareRecords s).map (coverIf (zoned c)) := coverRecords_bare (fun _ => rfl) s

theorem zoneCovered_onlyClaims (c : TrippedContent) (s : State) : OnlyClaims s (zoneCovered c s) := coverRecords_onlyClaims _ s

/-- With the zone covered an own record stands only outside it. -/
theorem ownStanding_zoneCovered : ownStanding (zoneCovered c s) = false ↔
    ∀ r ∈ s.register.records, r.own = true → r.status = .standing → InZone c.zone r.span := by
  have bare : ownStanding (zoneCovered c s) = false ↔ ∀ r ∈ bareRecords (zoneCovered c s), ¬ (r.own = true ∧ r.status = .standing) := by
    rw [← forall_bare (p := fun r => ¬ (r.own = true ∧ r.status = .standing)) (fun _ => Iff.rfl)]
    simp [ownStanding, ClaimRecord.standing]
  rw [bare, zoneCovered_bare, List.forall_mem_map,
    ← forall_bare (p := fun r => ¬ ((coverIf (zoned c) r).own = true ∧ (coverIf (zoned c) r).status = .standing))]
  · refine forall₂_congr fun r _ => ?_
    rw [← zoned_iff]
    by_cases standing : r.status = .standing <;> cases hz : zoned c r <;> simp [coverIf, ClaimRecord.standing, standing, hz]
  · intro r
    rw [← coverIf_bare (p := zoned c) (fun _ => rfl)]
    exact Iff.rfl

theorem closeDue_zoneCovered (c : TrippedContent) (s : State) : closeDue (zoneCovered c s) = true ↔
    s.detector.assessment = .disturbed ∧ s.port.image.settleCount ≤ s.detector.settle ∧
      ∀ r ∈ s.register.records, r.own = true → r.status = .standing → InZone c.zone r.span := by
  have image : (zoneCovered c s).port.image = s.port.image := (keeps_coverRecords _ s).coreKept.image
  rw [← ownStanding_zoneCovered, closeDue, (zoneCovered_onlyClaims c s).detector, image]
  simp [and_assoc]

theorem covers_own_iff : s.register.records.any (fun r => r.own && r.standing && r.span.within c.zone) = true ↔
    ∃ r ∈ s.register.records, r.own = true ∧ r.status = .standing ∧ InZone c.zone r.span := by
  simp [ClaimRecord.standing, and_assoc, within_iff]

theorem coverZone_of_stays (success : c.result = .success) (stays : ¬ Closes c s) : coverZone c s = zoneCovered c s := by
  have told : coverZone c s = if s.register.records.any (fun r => r.own && r.standing && r.span.within c.zone)
      then testCloseOnChange (zoneCovered c s) else zoneCovered c s := by
    unfold coverZone
    rw [success]
    rfl
  rw [told]
  split
  · next own =>
    refine testCloseOnChange_of_not_due (Bool.eq_false_iff.mpr fun due => stays ?_)
    obtain ⟨disturbed, full, last⟩ := (closeDue_zoneCovered c s).mp due
    exact ⟨⟨disturbed, full, covers_own_iff.mp own⟩, last⟩
  · rfl

theorem coverZone_of_closes (success : c.result = .success) (closes : Closes c s) :
    coverZone c s = testCloseOnChange (zoneCovered c s) ∧ closeDue (zoneCovered c s) = true := by
  obtain ⟨⟨disturbed, full, own⟩, last⟩ := closes
  refine ⟨?_, (closeDue_zoneCovered c s).mpr ⟨disturbed, full, last⟩⟩
  unfold coverZone
  rw [success]
  exact if_pos (covers_own_iff.mpr own)

/-- A close: the Detector, the trip list, the records and the events it leaves (R46, R47, R49, R150). -/
theorem testCloseOnChange_closes (due : closeDue s = true) :
    (testCloseOnChange s).linkage.trips = [] ∧
    bareRecords (testCloseOnChange s) = (bareRecords s).filter (fun r => !decide (r.status = .covered)) ∧
    (s.register.pairs = pairsOf s.register.records →
      (testCloseOnChange s).register.pairs = pairsOf (testCloseOnChange s).register.records ∧
      ∀ {n e}, Recent n e s → n < 31 → Recent (n + 1) e (testCloseOnChange s)) := by
  rw [testCloseOnChange_of_due due]
  have removed := removeRecords_onlyClaims (fun r => decide (r.status = .covered)) (calming s)
  refine ⟨(congrArg Linkage.trips removed.linkage :), removeRecords_bare (fun _ => rfl) (calming s), fun listed => ?_⟩
  obtain ⟨still, port⟩ := removed.listed listed
  refine ⟨still, fun recent room => ?_⟩
  have closing : Recent (_ + 1) _ (calming s) := (recent.record room .disturbanceClose .absent none (.named .disturbed)).congr rfl
  exact closing.congr port

/-! What the covering of a zone leaves, whether or not it closes the disturbance. -/

/-- A record that stands after is an old one outside the zone. -/
theorem coverZone_standing (success : c.result = .success) {r : ClaimRecord} (hr : r ∈ bareRecords (coverZone c s))
    (standing : r.status = .standing) : r ∈ bareRecords s ∧ ¬ InZone c.zone r.span := by
  have covered : r ∈ (bareRecords s).map (coverIf (zoned c)) := by
    rw [← zoneCovered_bare]
    by_cases closes : Closes c s
    · obtain ⟨told, due⟩ := coverZone_of_closes success closes
      rw [told, (testCloseOnChange_closes due).2.1] at hr
      exact (List.mem_filter.mp hr).1
    · rwa [coverZone_of_stays success closes] at hr
  obtain ⟨mem, outside⟩ := standing_of_coverIf covered standing
  exact ⟨mem, fun inside => by simp [zoned_iff.mpr inside] at outside⟩

theorem coverZone_detector_of_closes (success : c.result = .success) (closes : Closes c s) :
    (coverZone c s).detector = { calmed s.detector s.detector.reference with closedByChange := true } := by
  obtain ⟨told, due⟩ := coverZone_of_closes success closes
  rw [told, testCloseOnChange_detector due, (zoneCovered_onlyClaims c s).detector]

theorem coverZone_detector_of_stays (stays : ¬ Closes c s) : (coverZone c s).detector = s.detector := by
  cases result : c.result with
  | failed => rw [coverZone_of_failed result]
  | success => rw [coverZone_of_stays result stays, (zoneCovered_onlyClaims c s).detector]

theorem coverZone_trips (c : TrippedContent) (s : State) :
    (coverZone c s).linkage.trips = s.linkage.trips ∨ (coverZone c s).linkage.trips = [] := by
  cases result : c.result with
  | failed => exact .inl (by rw [coverZone_of_failed result])
  | success =>
    by_cases closes : Closes c s
    · obtain ⟨told, due⟩ := coverZone_of_closes result closes
      exact .inr (by rw [told]; exact (testCloseOnChange_closes due).1)
    · exact .inl (by rw [coverZone_of_stays result closes, (zoneCovered_onlyClaims c s).linkage])

/-- Where the pair list is true to the records, the covering brings the close's event at most. -/
theorem coverZone_listed (success : c.result = .success) (listed : s.register.pairs = pairsOf s.register.records) :
    (coverZone c s).register.pairs = pairsOf (coverZone c s).register.records ∧
    ∀ {n e}, Recent n e s → n < 31 → Recent (n + 1) e (coverZone c s) := by
  obtain ⟨still, port⟩ := (zoneCovered_onlyClaims c s).listed listed
  by_cases closes : Closes c s
  · obtain ⟨told, due⟩ := coverZone_of_closes success closes
    obtain ⟨-, -, quiet⟩ := testCloseOnChange_closes due
    obtain ⟨still', stays⟩ := quiet still
    rw [told]
    exact ⟨still', fun recent room => stays (recent.congr port) room⟩
  · rw [coverZone_of_stays success closes]
    exact ⟨still, fun recent _ => (recent.congr port).mono (Nat.le_succ _)⟩

end

/-! ## The Detector: DEENERGIZED (R50, R149) -/

/-- The entry to DEENERGIZED before the register's part (R50). -/
def deenergizing (n p : Nat) (s : State) : State :=
  record (s.setDetector { s.detector with assessment := .deenergized, blindRun := 0, settle := 0, forced := 0, restore := 0 })
    .deenergizedEnter (.station n) none (.value p)

/-- What the entry to DEENERGIZED leaves of a list of records (R149). -/
def deenergizedRecords (rs : List ClaimRecord) : List ClaimRecord :=
  (rs.map (coverIf ClaimRecord.own)).filter (fun r => !(r.own && decide (r.status = .released)))

/-- A covering makes no record RELEASED, and none that is another status. -/
theorem filter_coverIf (p : ClaimRecord → Bool) (rs : List ClaimRecord) :
    (rs.map (coverIf p)).filter (fun r => !(r.own && decide (r.status = .released))) =
      (rs.filter (fun r => !(r.own && decide (r.status = .released)))).map (coverIf p) := by
  rw [List.filter_map]
  refine congrArg _ (List.filter_congr fun r _ => ?_)
  change (!((coverIf p r).own && decide ((coverIf p r).status = .released))) = _
  unfold coverIf
  split
  · next hit =>
    have standing : r.status = .standing := by simpa [ClaimRecord.standing] using (Bool.and_eq_true_iff.mp hit).1
    simp [standing]
  · rfl

section
variable {n p : Nat} {s : State}

theorem enterDeenergized_of_there (there : s.detector.assessment = .deenergized) :
    enterDeenergized n p s = s.setDetector { s.detector with restore := 0 } := if_pos there

theorem enterDeenergized_of_elsewhere (elsewhere : s.detector.assessment ≠ .deenergized) :
    enterDeenergized n p s = registerDeenergized (deenergizing n p s) := if_neg elsewhere

theorem registerDeenergized_onlyClaims (s : State) : OnlyClaims s (registerDeenergized s) :=
  (coverRecords_onlyClaims _ s).trans (removeRecords_onlyClaims _ _)

theorem registerDeenergized_bare (s : State) : bareRecords (registerDeenergized s) = deenergizedRecords (bareRecords s) :=
  (removeRecords_bare (fun _ => rfl) _).trans (congrArg _ (coverRecords_bare (fun _ => rfl) s))

theorem enterDeenergized_detector (n p : Nat) (s : State) :
    (enterDeenergized n p s).detector.assessment = .deenergized ∧ (enterDeenergized n p s).detector.restore = 0 := by
  by_cases there : s.detector.assessment = .deenergized
  · rw [enterDeenergized_of_there there]
    exact ⟨there, rfl⟩
  · rw [enterDeenergized_of_elsewhere there, (registerDeenergized_onlyClaims _).detector]
    exact ⟨rfl, rfl⟩

theorem enterDeenergized_trips (n p : Nat) (s : State) : (enterDeenergized n p s).linkage.trips = s.linkage.trips := by
  by_cases there : s.detector.assessment = .deenergized
  · rw [enterDeenergized_of_there there]
    rfl
  · rw [enterDeenergized_of_elsewhere there, (registerDeenergized_onlyClaims _).linkage]
    rfl

theorem enterDeenergized_unheard (n p : Nat) (s : State) : Unheard s (enterDeenergized n p s) := by
  by_cases there : s.detector.assessment = .deenergized
  · rw [enterDeenergized_of_there there]
    exact .of_port rfl
  · rw [enterDeenergized_of_elsewhere there]
    have entered : Unheard s (deenergizing n p s) := record_unheard (s := s.setDetector { s.detector with
      assessment := .deenergized, blindRun := 0, settle := 0, forced := 0, restore := 0 }) (by decide)
      (.station n) none (.value p)
    exact entered.trans (registerDeenergized_onlyClaims _).unheard

theorem enterDeenergized_bare (n p : Nat) (s : State) : bareRecords (enterDeenergized n p s) =
    if s.detector.assessment = .deenergized then bareRecords s else deenergizedRecords (bareRecords s) := by
  split
  · next there =>
    rw [enterDeenergized_of_there there]
    rfl
  · next elsewhere =>
    rw [enterDeenergized_of_elsewhere elsewhere]
    exact registerDeenergized_bare _

/-- A record that stands in DEENERGIZED is an old one, and with the entry made just now a heard one. -/
theorem enterDeenergized_standing {r : ClaimRecord} (hr : r ∈ bareRecords (enterDeenergized n p s))
    (standing : r.status = .standing) :
    r ∈ bareRecords s ∧ (s.detector.assessment ≠ .deenergized → r.own = false) := by
  rw [enterDeenergized_bare] at hr
  split at hr
  · next there => exact ⟨hr, fun elsewhere => absurd there elsewhere⟩
  · obtain ⟨mem, heard⟩ := standing_of_coverIf (List.mem_filter.mp hr).1 standing
    exact ⟨mem, fun _ => heard⟩

/-- Where the pair list is true to the records, the entry brings one event. -/
theorem enterDeenergized_listed (listed : s.register.pairs = pairsOf s.register.records) :
    (enterDeenergized n p s).register.pairs = pairsOf (enterDeenergized n p s).register.records ∧
    ∀ {m e}, Recent m e s → m < 31 → Recent (m + 1) e (enterDeenergized n p s) := by
  by_cases there : s.detector.assessment = .deenergized
  · rw [enterDeenergized_of_there there]
    exact ⟨listed, fun recent _ => (recent.congr rfl).mono (Nat.le_succ _)⟩
  · rw [enterDeenergized_of_elsewhere there]
    obtain ⟨still, port⟩ := (registerDeenergized_onlyClaims (deenergizing n p s)).listed listed
    refine ⟨still, fun recent room => Recent.congr ?_ port⟩
    have entering : Recent _ _ (s.setDetector { s.detector with
      assessment := .deenergized, blindRun := 0, settle := 0, forced := 0, restore := 0 }) := recent.congr rfl
    exact entering.record room .deenergizedEnter (.station n) none (.value p)

end

end Sys2Proof.Machine

/-! A TRIPPED taken by its three blocks in any of the six orders (R149, R162, log 7): what each order leaves; the statement O56. -/

namespace Sys2Proof.Machine

/-! ## Three blocks, each once, in some order -/

/-- `t` is `s` once each of three blocks has taken its turn. -/
def InTurn (f g k : State → State) (s t : State) : Prop :=
  t = f (g (k s)) ∨ t = f (k (g s)) ∨ t = g (f (k s)) ∨ t = k (f (g s)) ∨ t = g (k (f s)) ∨ t = k (g (f s))

section
variable {f g k : State → State} {w t : State}

theorem InTurn.second (turns : InTurn f g k w t) : InTurn g f k w t := by
  unfold InTurn at turns ⊢
  tauto

theorem InTurn.third (turns : InTurn f g k w t) : InTurn k f g w t := by
  unfold InTurn at turns ⊢
  tauto

/-- Blocks that do nothing leave the third alone. -/
theorem InTurn.alone (turns : InTurn f g k w t) (hf : ∀ x, f x = x) (hg : ∀ x, g x = x) : t = k w := by
  simpa [InTurn, hf, hg] using turns

theorem InTurn.within (turns : InTurn f g k w t) (hf : Keeps f) (hg : Keeps g) (hk : Keeps k) : Within w t := by
  have two : ∀ {a b c : State → State}, Keeps a → Keeps b → Keeps c → Within w (a (b (c w))) :=
    fun ha hb hc => ((hc w).trans (hb _)).trans (ha _)
  rcases turns with rfl | rfl | rfl | rfl | rfl | rfl
  · exact two hf hg hk
  · exact two hf hk hg
  · exact two hg hf hk
  · exact two hk hf hg
  · exact two hg hk hf
  · exact two hk hg hf

/-- What holds at first and is kept by two blocks, the other one's turn makes `J` of, and the two keep that. -/
theorem InTurn.phases (turns : InTurn f g k w t) (hf : Keeps f) (hg : Keeps g) (hk : Keeps k) {I J : State → Prop} (begins : I w)
    (before : ∀ x, Within w x → I x → I (g x) ∧ I (k x)) (turn : ∀ x, Within w x → I x → J (f x))
    (after : ∀ x, Within w x → J x → J (g x) ∧ J (k x)) : J t := by
  have start : Within w w ∧ I w := ⟨.refl w, begins⟩
  have g₁ : ∀ x, Within w x ∧ I x → Within w (g x) ∧ I (g x) := fun x h => ⟨h.1.trans (hg x), (before x h.1 h.2).1⟩
  have k₁ : ∀ x, Within w x ∧ I x → Within w (k x) ∧ I (k x) := fun x h => ⟨h.1.trans (hk x), (before x h.1 h.2).2⟩
  have f₂ : ∀ x, Within w x ∧ I x → Within w (f x) ∧ J (f x) := fun x h => ⟨h.1.trans (hf x), turn x h.1 h.2⟩
  have g₃ : ∀ x, Within w x ∧ J x → Within w (g x) ∧ J (g x) := fun x h => ⟨h.1.trans (hg x), (after x h.1 h.2).1⟩
  have k₃ : ∀ x, Within w x ∧ J x → Within w (k x) ∧ J (k x) := fun x h => ⟨h.1.trans (hk x), (after x h.1 h.2).2⟩
  rcases turns with rfl | rfl | rfl | rfl | rfl | rfl
  · exact (f₂ _ (g₁ _ (k₁ _ start))).2
  · exact (f₂ _ (k₁ _ (g₁ _ start))).2
  · exact (g₃ _ (f₂ _ (k₁ _ start))).2
  · exact (k₃ _ (f₂ _ (g₁ _ start))).2
  · exact (g₃ _ (k₃ _ (f₂ _ start))).2
  · exact (k₃ _ (g₃ _ (f₂ _ start))).2

end

/-! ## The blocks of a TRIPPED with no evaluation to follow -/

/-- The TRIPPED is one that de-energizes (R50). -/
abbrev FromUpstream (h : Header) (c : TrippedContent) (s : State) : Prop :=
  c.result = .success ∧ h.position < s.port.image.position

/-- The Detector's turn (R50). -/
def detectorTurn (h : Header) (c : TrippedContent) (s : State) : State :=
  if FromUpstream h c s then enterDeenergized h.sender h.position s else s

theorem keeps_detectorTurn (h : Header) (c : TrippedContent) : Keeps (detectorTurn h c) := fun s => by
  unfold detectorTurn
  split
  · exact keeps_enterDeenergized _ _ s
  · exact .refl s

theorem detectorTripped_eq {s : State} (tripless : NoTripTable s) (h : Header) (c : TrippedContent) :
    detectorTripped h c s = detectorTurn h c s := by
  unfold detectorTripped detectorTurn
  rw [reporting_of_noTripTable (tripless.within (keeps_enterDeenergized _ _ s))]
  simp [FromUpstream]

/-- `t` is `s` once the Detector, the Claim Register and the Trip Linkage have taken a TRIPPED. -/
def TripTaken (h : Header) (c : TrippedContent) : State → State → Prop :=
  InTurn (detectorTurn h c) (coverZone c) (linkageTripped h.sender c)

theorem trippedBlocks_tripTaken {s : State} (tripless : NoTripTable s) (order : Nat) (h : Header) (c : TrippedContent) :
    TripTaken h c s (trippedBlocks order h c s) := by
  have d : ∀ x, Within s x → detectorTripped h c x = detectorTurn h c x ∧ Within s (detectorTurn h c x) :=
    fun x within => ⟨detectorTripped_eq (tripless.within within) h c, within.trans (keeps_detectorTurn h c x)⟩
  have r : ∀ x, Within s x → reporting (coverZone c) x = coverZone c x ∧ Within s (coverZone c x) := fun x within =>
    have covered := within.trans (keeps_coverZone c x)
    ⟨reporting_of_noTripTable (tripless.within covered), covered⟩
  have l : ∀ x, Within s x → Within s (linkageTripped h.sender c x) := fun x within => within.trans (keeps_linkageTripped _ c x)
  have start := Within.refl s
  unfold trippedBlocks TripTaken InTurn
  dsimp only
  obtain ⟨ds, wd⟩ := d s start
  obtain ⟨rs, wr⟩ := r s start
  have wl := l s start
  split
  · rw [ds, (r _ wd).1]
    tauto
  · rw [ds, (r _ (l _ wd)).1]
    tauto
  · rw [rs, (d _ wr).1]
    tauto
  · rw [rs, (d _ (l _ wr)).1]
    tauto
  · rw [(d _ wl).1, (r _ (d _ wl).2).1]
    tauto
  · rw [(r _ wl).1, (d _ (r _ wl).2).1]
    tauto

section
variable {h : Header} {c : TrippedContent} {s x w t : State}

theorem fromUpstream_within (within : Within s x) : FromUpstream h c x ↔ FromUpstream h c s := by
  unfold FromUpstream
  rw [within.coreKept.image]

theorem detectorTurn_of_upstream (up : FromUpstream h c s) : detectorTurn h c s = enterDeenergized h.sender h.position s :=
  if_pos up

theorem detectorTurn_of_elsewhere (elsewhere : ¬ FromUpstream h c s) : detectorTurn h c s = s := if_neg elsewhere

theorem detectorTurn_of_failed (failed : c.result = .failed) (s : State) : detectorTurn h c s = s :=
  if_neg fun up => by simp [up.1] at failed

/-! ### The trip list and its event (R167) -/

/-- No close can come of the zone's covering: the TRIPPED says FAILED, or the settle counter is not full over an own record in the
zone. -/
def Unclosing (c : TrippedContent) (s : State) : Prop := c.result = .failed ∨ ¬ Closable c s

theorem coverZone_of_unclosing (unclosing : Unclosing c s) : OnlyClaims s (coverZone c s) := by
  rcases unclosing with failed | stays
  · rw [coverZone_of_failed failed]
    exact .refl s
  · cases result : c.result with
    | failed => rw [coverZone_of_failed result]; exact .refl s
    | success =>
      rw [coverZone_of_stays result fun closes => stays closes.1]
      exact zoneCovered_onlyClaims c s

theorem unclosing_coverZone (c : TrippedContent) (s : State) : Unclosing c (coverZone c s) := by
  cases result : c.result with
  | failed => exact .inl result
  | success =>
    refine .inr fun ⟨_, _, r, hr, _, standing, inside⟩ => ?_
    exact (coverZone_standing result (List.mem_map_of_mem (f := ClaimRecord.bare) hr) standing).2 inside

theorem Unclosing.detectorTurn (unclosing : Unclosing c s) : Unclosing c (detectorTurn h c s) := by
  by_cases up : FromUpstream h c s
  · rw [detectorTurn_of_upstream up]
    refine .inr fun ⟨disturbed, _⟩ => ?_
    exact nomatch (enterDeenergized_detector h.sender h.position s).1.symm.trans disturbed
  · rwa [detectorTurn_of_elsewhere up]

theorem Unclosing.linkageTripped (unclosing : Unclosing c s) (tripless : NoTripTable s) (n : Nat) :
    Unclosing c (linkageTripped n c s) := by
  refine unclosing.imp_right fun stays => ?_
  unfold Closable
  rw [linkageTripped_detector tripless, linkageTripped_register tripless, (keeps_linkageTripped n c s).coreKept.image]
  exact stays

theorem detectorTurn_trips (h : Header) (c : TrippedContent) (s : State) :
    (detectorTurn h c s).linkage.trips = s.linkage.trips := by
  unfold detectorTurn
  split
  · exact enterDeenergized_trips _ _ s
  · rfl

theorem detectorTurn_unheard (h : Header) (c : TrippedContent) (s : State) : Unheard s (detectorTurn h c s) := by
  unfold detectorTurn
  split
  · exact enterDeenergized_unheard _ _ s
  · exact .of_port rfl

/-- With no close the trip list takes the TRIPPED, and a known one is not told. -/
theorem TripTaken.trips (taken : TripTaken h c w t) (tripless : NoTripTable w) (unclosing : Unclosing c w) :
    t.linkage.trips = tripListTake h.sender c w.linkage.trips ∧
      (tripKnown w.linkage.trips h.sender c = true → Unheard w t) := by
  have final : Unclosing c t ∧ t.linkage.trips = tripListTake h.sender c w.linkage.trips ∧
      (tripKnown w.linkage.trips h.sender c = true → Unheard w t) := by
    refine InTurn.third taken |>.phases (keeps_linkageTripped _ c) (keeps_detectorTurn h c) (keeps_coverZone c)
      (I := fun x => Unclosing c x ∧ x.linkage.trips = w.linkage.trips ∧ Unheard w x)
      (J := fun x => Unclosing c x ∧ x.linkage.trips = tripListTake h.sender c w.linkage.trips ∧
        (tripKnown w.linkage.trips h.sender c = true → Unheard w x)) ⟨unclosing, rfl, .of_port rfl⟩ ?_ ?_ ?_
    · rintro x - ⟨free, trips, unheard⟩
      have covered := coverZone_of_unclosing free
      exact ⟨⟨free.detectorTurn, (detectorTurn_trips h c x).trans trips, unheard.trans (detectorTurn_unheard h c x)⟩,
        unclosing_coverZone c x, (congrArg Linkage.trips covered.linkage).trans trips, unheard.trans covered.unheard⟩
    · rintro x within ⟨free, trips, unheard⟩
      have quiet := tripless.within within
      refine ⟨free.linkageTripped quiet _, by rw [linkageTripped_trips quiet, trips], fun known => ?_⟩
      exact unheard.trans (linkageTripped_unheard quiet (by rw [trips]; exact known))
    · rintro x - ⟨free, trips, unheard⟩
      have covered := coverZone_of_unclosing free
      exact ⟨⟨free.detectorTurn, (detectorTurn_trips h c x).trans trips,
          fun known => (unheard known).trans (detectorTurn_unheard h c x)⟩,
        unclosing_coverZone c x, (congrArg Linkage.trips covered.linkage).trans trips,
        fun known => (unheard known).trans covered.unheard⟩
  exact final.2

/-- The pair list is true to the records, where the TRIPPED can move them. -/
def Listed (c : TrippedContent) (s : State) : Prop := c.result = .failed ∨ s.register.pairs = pairsOf s.register.records

theorem listed_detectorTurn (h : Header) (listed : Listed c s) : Listed c (detectorTurn h c s) ∧
    ∀ {n e}, Recent n e s → n < 31 → Recent (n + 1) e (detectorTurn h c s) := by
  by_cases up : FromUpstream h c s
  · rw [detectorTurn_of_upstream up]
    have paired := listed.resolve_left fun failed => by simp [up.1] at failed
    obtain ⟨still, stays⟩ := enterDeenergized_listed (n := h.sender) (p := h.position) paired
    exact ⟨.inr still, stays⟩
  · rw [detectorTurn_of_elsewhere up]
    exact ⟨listed, fun recent _ => recent.mono (Nat.le_succ _)⟩

theorem listed_coverZone (listed : Listed c s) : Listed c (coverZone c s) ∧
    ∀ {n e}, Recent n e s → n < 31 → Recent (n + 1) e (coverZone c s) := by
  cases result : c.result with
  | failed =>
    rw [coverZone_of_failed result]
    exact ⟨listed, fun recent _ => recent.mono (Nat.le_succ _)⟩
  | success =>
    obtain ⟨still, stays⟩ := coverZone_listed result (listed.resolve_left fun failed => by simp [result] at failed)
    exact ⟨.inr still, stays⟩

/-- The TRIPPED is not known yet, and not taken. -/
def Untold (h : Header) (c : TrippedContent) (s : State) : Prop :=
  NoTripTable s ∧ Listed c s ∧ tripKnown s.linkage.trips h.sender c = false

/-- The TRIPPED has been told, with at most `n` events since. -/
def Told (n : Nat) (h : Header) (c : TrippedContent) (s : State) : Prop :=
  Listed c s ∧ ∃ e, Recent n e s ∧ TellsTrip h.sender c e

theorem Untold.detectorTurn (untold : Untold h c s) : Untold h c (detectorTurn h c s) := by
  obtain ⟨tripless, listed, unknown⟩ := untold
  exact ⟨tripless.within (keeps_detectorTurn h c s), (listed_detectorTurn h listed).1, by rwa [detectorTurn_trips]⟩

theorem Untold.coverZone (untold : Untold h c s) : Untold h c (coverZone c s) := by
  obtain ⟨tripless, listed, unknown⟩ := untold
  refine ⟨tripless.within (keeps_coverZone c s), (listed_coverZone listed).1, ?_⟩
  rcases coverZone_trips c s with trips | trips <;> rw [trips]
  · exact unknown
  · rfl

theorem Untold.told (untold : Untold h c s) : Told 8 h c (linkageTripped h.sender c s) := by
  obtain ⟨tripless, listed, unknown⟩ := untold
  refine ⟨?_, linkageTripped_tells tripless unknown⟩
  unfold Listed
  rw [linkageTripped_register tripless]
  exact listed

theorem Told.detectorTurn {n : Nat} (told : Told n h c s) (room : n < 31) : Told (n + 1) h c (detectorTurn h c s) := by
  obtain ⟨listed, e, recent, tells⟩ := told
  obtain ⟨still, stays⟩ := listed_detectorTurn h listed
  exact ⟨still, e, stays recent room, tells⟩

theorem Told.coverZone {n : Nat} (told : Told n h c s) (room : n < 31) : Told (n + 1) h c (coverZone c s) := by
  obtain ⟨listed, e, recent, tells⟩ := told
  obtain ⟨still, stays⟩ := listed_coverZone listed
  exact ⟨still, e, stays recent room, tells⟩

/-- A TRIPPED that is not known is told, and its event is still there once all blocks have taken it. -/
theorem TripTaken.tells (taken : TripTaken h c w t) (untold : Untold h c w) : ∃ e ∈ t.port.events, TellsTrip h.sender c e := by
  have told : ∃ n, Told n h c t := by
    rcases taken with rfl | rfl | rfl | rfl | rfl | rfl
    · exact ⟨_, (untold.told.coverZone (by decide)).detectorTurn (by decide)⟩
    · exact ⟨_, untold.coverZone.told.detectorTurn (by decide)⟩
    · exact ⟨_, (untold.told.detectorTurn (by decide)).coverZone (by decide)⟩
    · exact ⟨_, untold.coverZone.detectorTurn.told⟩
    · exact ⟨_, untold.detectorTurn.told.coverZone (by decide)⟩
    · exact ⟨_, untold.detectorTurn.coverZone.told⟩
  obtain ⟨n, -, e, recent, tells⟩ := told
  exact ⟨e, recent.mem, tells⟩

/-! ### FAILED -/

theorem TripTaken.failed (taken : TripTaken h c w t) (tripless : NoTripTable w) (failed : c.result = .failed) :
    t.detector = w.detector ∧ t.register = w.register := by
  rw [InTurn.alone taken (detectorTurn_of_failed failed) (coverZone_of_failed failed)]
  exact ⟨linkageTripped_detector tripless, linkageTripped_register tripless⟩

/-! ### SUCCESS: the records (R148, R149) -/

theorem linkageTripped_bare (tripless : NoTripTable s) (n : Nat) (c : TrippedContent) :
    bareRecords (linkageTripped n c s) = bareRecords s := by
  rw [bareRecords, linkageTripped_register tripless, ← bareRecords]

/-- A record that stands once the Detector has taken the TRIPPED stood before. -/
theorem detectorTurn_standing {r : ClaimRecord} (hr : r ∈ bareRecords (detectorTurn h c s)) (standing : r.status = .standing) :
    r ∈ bareRecords s := by
  unfold detectorTurn at hr
  split at hr
  · exact (enterDeenergized_standing hr standing).1
  · exact hr

/-- No record stands in the zone. -/
theorem TripTaken.zone (taken : TripTaken h c w t) (tripless : NoTripTable w) (success : c.result = .success) :
    ∀ r ∈ bareRecords t, r.status = .standing → ¬ InZone c.zone r.span := by
  refine InTurn.second taken |>.phases (keeps_coverZone c) (keeps_detectorTurn h c) (keeps_linkageTripped _ c)
    (I := fun _ => True) (J := fun x => ∀ r ∈ bareRecords x, r.status = .standing → ¬ InZone c.zone r.span)
    trivial (fun _ _ _ => ⟨trivial, trivial⟩) ?_ ?_
  · exact fun x _ _ r hr standing => (coverZone_standing success hr standing).2
  · refine fun x within clear => ⟨fun r hr standing => clear r (detectorTurn_standing hr standing) standing, ?_⟩
    rw [linkageTripped_bare (tripless.within within)]
    exact clear

/-- The TRIPPED takes the part to DEENERGIZED from another assessment state (R50). -/
abbrev Enters (h : Header) (c : TrippedContent) (s : State) : Prop :=
  FromUpstream h c s ∧ s.detector.assessment ≠ .deenergized

/-- The records of a part that the TRIPPED takes to DEENERGIZED, if it does. -/
def enteredRecords (h : Header) (c : TrippedContent) (s : State) : List ClaimRecord :=
  if Enters h c s then deenergizedRecords (bareRecords s) else bareRecords s

/-- A list of records with those in the zone COVERED. -/
def zoneCover (c : TrippedContent) (rs : List ClaimRecord) : List ClaimRecord := rs.map (coverIf (zoned c))

theorem zoneCover_twice (c : TrippedContent) (rs : List ClaimRecord) : zoneCover c (zoneCover c rs) = zoneCover c rs := by
  simp [zoneCover, Function.comp_def, coverIf_coverIf]

/-- The zone's covering and the entry to DEENERGIZED leave the same records whichever comes first. -/
theorem zoneCover_deenergizedRecords (c : TrippedContent) (rs : List ClaimRecord) :
    zoneCover c (deenergizedRecords rs) = deenergizedRecords (zoneCover c rs) := by
  simp only [zoneCover, deenergizedRecords, filter_coverIf, List.map_map, Function.comp_def, coverIf_coverIf, Bool.or_comm]

/-- With no close: the entry to DEENERGIZED where there is one, and the zone covered. -/
theorem TripTaken.records (taken : TripTaken h c w t) (tripless : NoTripTable w) (success : c.result = .success)
    (stays : ¬ Closable c w) :
    bareRecords t = zoneCover c (enteredRecords h c w) := by
  have covered : ∀ x, Unclosing c x → zoneCover c (bareRecords (coverZone c x)) = zoneCover c (bareRecords x) := fun x free => by
    have stays' : ¬ Closable c x := free.resolve_left fun failed => by simp [success] at failed
    rw [coverZone_of_stays success fun closes => stays' closes.1, zoneCovered_bare]
    exact zoneCover_twice c _
  have upToZone : Unclosing c t ∧ zoneCover c (bareRecords t) = zoneCover c (enteredRecords h c w) := by
    refine InTurn.phases taken (keeps_detectorTurn h c) (keeps_coverZone c) (keeps_linkageTripped _ c)
      (I := fun x => Unclosing c x ∧ x.detector = w.detector ∧ zoneCover c (bareRecords x) = zoneCover c (bareRecords w))
      (J := fun x => Unclosing c x ∧ zoneCover c (bareRecords x) = zoneCover c (enteredRecords h c w)) ⟨.inr stays, rfl, rfl⟩ ?_ ?_ ?_
    · rintro x within ⟨free, detector, same⟩
      have quiet := tripless.within within
      exact ⟨⟨unclosing_coverZone c x, (coverZone_of_unclosing free).detector.trans detector, (covered x free).trans same⟩,
        free.linkageTripped quiet _, (linkageTripped_detector quiet).trans detector, by rw [linkageTripped_bare quiet, same]⟩
    · rintro x within ⟨free, detector, same⟩
      refine ⟨free.detectorTurn, ?_⟩
      unfold enteredRecords
      by_cases up : FromUpstream h c w
      · rw [detectorTurn_of_upstream ((fromUpstream_within within).mpr up), enterDeenergized_bare, detector]
        by_cases there : w.detector.assessment = .deenergized
        · rw [if_pos there, if_neg fun enters => enters.2 there, same]
        · rw [if_neg there, if_pos ⟨up, there⟩, zoneCover_deenergizedRecords, same, zoneCover_deenergizedRecords]
      · rw [detectorTurn_of_elsewhere (mt (fromUpstream_within within).mp up), if_neg fun enters => up enters.1, same]
    · rintro x within ⟨free, same⟩
      have quiet := tripless.within within
      exact ⟨⟨unclosing_coverZone c x, (covered x free).trans same⟩,
        free.linkageTripped quiet _, by rw [linkageTripped_bare quiet, same]⟩
  rw [← upToZone.2]
  refine ((List.map_congr_left fun r hr => ?_).trans (List.map_id _)).symm
  refine if_neg fun hit => ?_
  obtain ⟨standing, inside⟩ := Bool.and_eq_true_iff.mp hit
  exact taken.zone tripless success r hr (by simpa [ClaimRecord.standing] using standing) (zoned_iff.mp inside)

/-! ### SUCCESS: the Detector (R47, R50) -/

/-- From upstream the part is DEENERGIZED with its restore counter at 0, and an entry leaves no own record standing. -/
theorem TripTaken.upstream (taken : TripTaken h c w t) (tripless : NoTripTable w) (up : FromUpstream h c w) :
    (t.detector.assessment = .deenergized ∧ t.detector.restore = 0) ∧
      (w.detector.assessment ≠ .deenergized → ∀ r ∈ bareRecords t, ¬ (r.own = true ∧ r.status = .standing)) := by
  have cover : ∀ x, x.detector.assessment ≠ .disturbed → (coverZone c x).detector = x.detector := fun x other =>
    coverZone_detector_of_stays fun closes => other closes.1.1
  have calmer : ∀ x, (coverZone c x).detector.assessment = x.detector.assessment ∨
      (coverZone c x).detector.assessment = .calm := fun x => by
    by_cases closes : Closes c x
    · exact .inr (by rw [coverZone_detector_of_closes up.1 closes]; rfl)
    · exact .inl (by rw [coverZone_detector_of_stays closes])
  refine InTurn.phases taken (keeps_detectorTurn h c) (keeps_coverZone c) (keeps_linkageTripped _ c)
    (I := fun x => w.detector.assessment ≠ .deenergized → x.detector.assessment ≠ .deenergized)
    (J := fun x => (x.detector.assessment = .deenergized ∧ x.detector.restore = 0) ∧
      (w.detector.assessment ≠ .deenergized → ∀ r ∈ bareRecords x, ¬ (r.own = true ∧ r.status = .standing))) id ?_ ?_ ?_
  · refine fun x within elsewhere => ⟨fun begins => ?_, ?_⟩
    · rcases calmer x with same | calm
      · rw [same]
        exact elsewhere begins
      · rw [calm]
        exact nofun
    · rw [linkageTripped_detector (tripless.within within)]
      exact elsewhere
  · intro x within elsewhere
    rw [detectorTurn_of_upstream ((fromUpstream_within within).mpr up)]
    refine ⟨enterDeenergized_detector _ _ x, fun begins r hr ⟨own, standing⟩ => ?_⟩
    rw [(enterDeenergized_standing hr standing).2 (elsewhere begins)] at own
    cases own
  · rintro x within ⟨⟨there, restore⟩, none⟩
    have quiet := tripless.within within
    rw [cover x (by rw [there]; exact nofun), linkageTripped_detector quiet, linkageTripped_bare quiet]
    refine ⟨⟨⟨there, restore⟩, fun begins r hr ⟨own, standing⟩ => ?_⟩, ⟨there, restore⟩, none⟩
    exact none begins r (coverZone_standing up.1 hr standing).1 ⟨own, standing⟩

/-- From elsewhere the Detector closes where the own records that the zone covers were the last to stand, the settle counter full. -/
theorem TripTaken.elsewhere (taken : TripTaken h c w t) (tripless : NoTripTable w) (success : c.result = .success)
    (elsewhere : ¬ FromUpstream h c w) :
    (Closes c w → t.detector = { calmed w.detector w.detector.reference with closedByChange := true }) ∧
      (¬ Closes c w → t.detector = w.detector) := by
  have idle : ∀ x, Within w x → detectorTurn h c x = x := fun x within =>
    detectorTurn_of_elsewhere (mt (fromUpstream_within within).mp elsewhere)
  refine InTurn.second taken |>.phases (keeps_coverZone c) (keeps_detectorTurn h c) (keeps_linkageTripped _ c)
    (I := fun x => x.detector = w.detector ∧ x.register = w.register)
    (J := fun x => (Closes c w → x.detector = { calmed w.detector w.detector.reference with closedByChange := true }) ∧
      (¬ Closes c w → x.detector = w.detector)) ⟨rfl, rfl⟩ ?_ ?_ ?_
  · rintro x within same
    have quiet := tripless.within within
    rw [idle x within, linkageTripped_detector quiet, linkageTripped_register quiet]
    exact ⟨same, same⟩
  · rintro x within ⟨detector, register⟩
    have alike : Closes c x ↔ Closes c w := by
      unfold Closes Closable
      rw [detector, register, within.coreKept.image]
    refine ⟨fun closes => ?_, fun stays => ?_⟩
    · rw [coverZone_detector_of_closes success (alike.mpr closes), detector]
    · rw [coverZone_detector_of_stays (mt alike.mp stays), detector]
  · intro x within same
    rw [idle x within, linkageTripped_detector (tripless.within within)]
    exact ⟨same, same⟩

end

end Sys2Proof.Machine

/-! The statement O56: the frame's own blocks, then the three of a TRIPPED. -/

namespace Sys2Proof.Machine

/-- The part with the free order of a TRIPPED's blocks drawn (log 7). -/
def orderDrawn (s : State) : State := { s with choices := s.choices + 1 }

section
variable {frame : List Byte} {h : Header} {c : TrippedContent} {s : State}

theorem exec_trippedReceived (hw : s.working = true) (hs : s.fault.silent = false)
    (hf : receiveFilter s.port.image frame = .valid ⟨h, .tripped c⟩) : exec (.trippedReceived frame) s =
      .next (settle (trippedBlocks (Config.trippedOrder (noted h s).choices) h c (orderDrawn (noted h s)))) := by
  have delivered : deliver 5 takeTripped frame s = trippedBlocks
      (Config.trippedOrder (tableOther h (setHold (frameHeard (endReception s)))).choices) h c
      (orderDrawn (tableOther h (setHold (frameHeard (endReception s))))) := by
    unfold deliver
    rw [hf]
    rfl
  rw [frameHeard_endReception hs] at delivered
  rw [noted, ← delivered]
  exact next_whileWorking hw _

/-- The trip list knows a TRIPPED by sender, output and result (R167). -/
theorem tripKnown_iff {trips : List TripItem} {n : Nat} : tripKnown trips n c = true ↔
    ∃ i ∈ trips, i.sender = n ∧ i.content.output = c.output ∧ i.content.result = c.result := by
  simp [tripKnown, tripMatches, and_assoc]

/-- A TRIPPED that joins is the newest item, the oldest of nine leaving (R167). -/
theorem tripListTake_of_unknown {trips : List TripItem} {n : Nat} (unknown : tripKnown trips n c = false)
    (room : trips.length ≤ 8) : tripListTake n c trips = (trips ++ [(⟨n, c⟩ : TripItem)]).drop (trips.length - 7) := by
  have joins : tripListTake n c trips = if 8 < (trips ++ [(⟨n, c⟩ : TripItem)]).length then (trips ++ [(⟨n, c⟩ : TripItem)]).tail
      else trips ++ [(⟨n, c⟩ : TripItem)] := if_neg (by simp [unknown])
  rw [joins, List.length_append, List.length_singleton]
  by_cases full : trips.length = 8
  · rw [if_pos (by omega), full, List.drop_one]
  · rw [if_neg (by omega), Nat.sub_eq_zero_of_le (by omega), List.drop_zero]

/-- The records that an entry to DEENERGIZED and the zone's covering leave, each in its place and by its own status (R148, R149). -/
theorem covered_records (enters : Prop) [Decidable enters] (rs : List ClaimRecord) :
    zoneCover c (if enters then deenergizedRecords (rs.map ClaimRecord.bare) else rs.map ClaimRecord.bare) =
      ((rs.filter (fun r => ¬ (enters ∧ r.own = true ∧ r.status = .released))).map
        (fun r => if r.status = .standing ∧ (InZone c.zone r.span ∨ (enters ∧ r.own = true))
          then { r with status := .covered } else r)).map ClaimRecord.bare := by
  have inPlace : ∀ p : ClaimRecord → Bool, MarkBlind p → (∀ r, p r = true ↔ InZone c.zone r.span ∨ (enters ∧ r.own = true)) →
      ∀ rs : List ClaimRecord, (rs.map ClaimRecord.bare).map (coverIf p) = (rs.map
        (fun r => if r.status = .standing ∧ (InZone c.zone r.span ∨ (enters ∧ r.own = true))
          then { r with status := .covered } else r)).map ClaimRecord.bare := fun p blind meets rs => by
    rw [List.map_map, List.map_map]
    refine List.map_congr_left fun r _ => ?_
    change coverIf p r.bare = ClaimRecord.bare (ite _ _ _)
    rw [← coverIf_bare blind]
    refine congrArg _ (if_congr ?_ rfl rfl)
    rw [← meets r]
    simp [ClaimRecord.standing]
  split
  · next yes =>
    have stay : (rs.map ClaimRecord.bare).filter (fun r => !(r.own && decide (r.status = .released))) =
        (rs.filter (fun r => ¬ (enters ∧ r.own = true ∧ r.status = .released))).map ClaimRecord.bare := by
      rw [List.filter_map]
      refine congrArg _ (List.filter_congr fun r _ => ?_)
      change (!(r.own && decide (r.status = .released))) = _
      simp [yes]
    rw [deenergizedRecords, filter_coverIf, stay, zoneCover, List.map_map]
    simp only [Function.comp_def, coverIf_coverIf]
    exact inPlace _ (fun _ => rfl) (fun r => by simp [zoned_iff, yes]) _
  · next no =>
    have stay : rs.filter (fun r => ¬ (enters ∧ r.own = true ∧ r.status = .released)) = rs :=
      List.filter_eq_self.mpr fun r _ => by simp [no]
    rw [stay]
    exact inPlace _ (fun _ => rfl) (fun r => by simp [zoned_iff, no]) _

end

/-- Settles O56: the frame's own blocks leave what it is judged by, and the three blocks do as `TripTaken` says in each order. -/
theorem trippedFramesAct : Obligations.TrippedFramesAct := by
  intro frame h c s hw tripless hs room hf
  refine ⟨_, exec_trippedReceived hw hs hf, ?_⟩
  have heard : Unheard s (orderDrawn (noted h s)) := noted_unheard hs h
  have stands : FrameNoted s (orderDrawn (noted h s)) := by
    obtain ⟨run, tracker, detector, register, linkage, image, impaired, hold⟩ := noted_frameNoted hs h
    exact ⟨run, tracker, detector, register, linkage, image, impaired, hold⟩
  generalize Config.trippedOrder (noted h s).choices = order
  generalize orderDrawn (noted h s) = w at heard stands
  have quiet := stands.noTripTable tripless
  have taken := trippedBlocks_tripTaken quiet order h c
  generalize trippedBlocks order h c w = t at taken
  have within := InTurn.within taken (keeps_detectorTurn h c) (keeps_coverZone c) (keeps_linkageTripped _ c)
  obtain ⟨hold, tracker, run⟩ := stands.settles within hw
  have linkage : (settle t).linkage = t.linkage := by rw [settle_eq]
  refine ⟨hold, tracker, run, ?_⟩
  rw [settle_register, settle_detector, settle_port, linkage]
  dsimp only
  rw [← stands.detector, ← stands.register, ← stands.linkage, ← stands.image, ← tripKnown_iff]
  refine ⟨fun unclosing => ?_, fun listed unknown => ?_, taken.failed quiet, fun success => ⟨?_, fun stays => ?_, fun up => ?_,
    fun down => ?_⟩⟩
  · obtain ⟨trips, unheard⟩ := taken.trips quiet unclosing
    refine ⟨fun known => ⟨?_, heard.trans (unheard known)⟩, fun unknown => ?_⟩
    · rw [trips]
      exact if_pos known
    · rw [trips]
      exact tripListTake_of_unknown (by simpa using unknown) (by rw [stands.linkage]; exact room)
  · exact taken.tells ⟨quiet, listed, by simpa using unknown⟩
  · exact (forall_bare fun _ => Iff.rfl).mpr (taken.zone quiet success)
  · have records := taken.records quiet success stays
    have enters : Enters h c w ↔ h.position < w.port.image.position ∧ w.detector.assessment ≠ .deenergized :=
      and_congr_left fun _ => and_iff_right success
    simp only [enteredRecords, enters] at records
    exact records.trans (covered_records _ _)
  · obtain ⟨⟨there, restore⟩, none⟩ := taken.upstream quiet ⟨success, up⟩
    exact ⟨there, restore, fun enters => (forall_bare fun _ => Iff.rfl).mpr (none enters.2)⟩
  · obtain ⟨closes, stays⟩ := taken.elsewhere quiet success fun up => down up.2
    exact ⟨fun settled last => closes ⟨settled, last⟩, fun other => stays fun ⟨settled, last⟩ =>
      other.elim (· settled) (· last)⟩

end Sys2Proof.Machine

/-! What an evaluation of the Trip Linkage can do to anything (R159 to R161, R164): a relation that its five acts respect relates every
evaluation to what it leaves. -/

namespace Sys2Proof.Machine

/-- What is asked of a relation between states so that every evaluation respects it: it holds of an event recorded, a runtime state
changed, an IDLE output asserted, and an ASSERTED trip confirmed by its open-confirm input, the evaluation that follows respecting it;
and of one after the other. -/
structure Evaluates (R : State → State → Prop) : Prop where
  refl (s : State) : R s s
  trans {s t u : State} : R s t → R t u → R s u
  event (k : EventKind) (x : EventSubject) (y : Option Span) (d : Detail) (s : State) : R s (record s k x y d)
  runtime (k : Nat) (f : EntryRuntime → EntryRuntime) (s : State) : R s (modifyRuntime k f s)
  assert (k : Nat) (z : Zone) (x : Span) (o : Output) (s : State) : s.run = .run → (s.linkage.trip o).state = .idle →
    R s (setTrip o ⟨.asserted, some k, 0, some z, some x, true⟩ s)
  confirm (ev : State → State) (o : Output) (s : State) : Keeps ev → (∀ t, t.run = .run → R t (ev t)) → s.run = .run →
    (s.linkage.trip o).state = .asserted → s.linkage.opened o = true → R s (confirmTrip ev o s)

namespace Evaluates

variable {R : State → State → Prop} (h : Evaluates R)
include h

theorem assertOutput (k : Nat) (e : LinkageEntry) (x : Span) (o : Output) {s : State} (hr : s.run = .run) :
    R s (assertOutput k e x o s) := by
  unfold Machine.assertOutput
  split
  · next idle =>
    obtain ⟨-, idle⟩ := Bool.and_eq_true_iff.mp idle
    exact h.trans (h.assert k e.zone x o s hr (of_decide_eq_true idle)) (h.event _ _ _ _ _)
  · exact h.refl s

section
variable {ev : State → State} (keeps : Keeps ev) (hev : ∀ t, t.run = .run → R t (ev t))
include keeps hev

theorem confirmAtOnce (k : Nat) (before : TripState) (o : Output) {s : State} (hr : s.run = .run) :
    R s (confirmAtOnce ev k before o s) := by
  unfold Machine.confirmAtOnce
  dsimp only
  split
  · next due =>
    simp only [Bool.and_eq_true, decide_eq_true_eq] at due
    obtain ⟨⟨⟨-, asserted⟩, -⟩, opened⟩ := due
    exact h.confirm ev o s keeps hev hr asserted opened
  · exact h.refl s

theorem actPrimary (k : Nat) (e : LinkageEntry) (x : Span) {s : State} (hr : s.run = .run) : R s (actPrimary ev k e x s) := by
  unfold Machine.actPrimary
  split
  · dsimp only
    have run0 := (keeps_assertOutput k e x .trip0 s).run.trans hr
    have run1 := (keeps_assertOutput k e x .trip1 _).run.trans run0
    have asserted := h.trans (h.assertOutput k e x .trip0 hr) (h.assertOutput k e x .trip1 run0)
    have spent := h.trans asserted (h.runtime k (fun r => { r with spent := true }) _)
    exact h.trans (h.trans spent (h.confirmAtOnce keeps hev k _ .trip0 run1))
      (h.confirmAtOnce keeps hev k _ .trip1 ((keeps_confirmAtOnce keeps k _ .trip0 _).run.trans run1))
  · split
    · exact h.refl s
    · exact h.trans (h.event _ _ _ _ s) (h.runtime _ _ _)

theorem evaluateEntry (k : Nat) (e : LinkageEntry) {s : State} (hr : s.run = .run) : R s (evaluateEntry ev k e s) := by
  unfold Machine.evaluateEntry
  split
  · exact h.refl s
  · split
    · split
      · exact h.actPrimary keeps hev _ _ _ hr
      · exact h.refl s
    · dsimp only
      split
      · exact h.trans (h.runtime _ _ s) (h.actPrimary keeps hev _ _ _ hr)
      · exact h.runtime _ _ s

theorem evaluateEntries (es : List LinkageEntry) (k : Nat) {s : State} (hr : s.run = .run) : R s (evaluateEntries ev k es s) := by
  induction es generalizing k s with
  | nil => exact h.refl s
  | cons e es ih => exact h.trans (h.evaluateEntry keeps hev k e hr) (ih (k + 1) ((keeps_evaluateEntry keeps k e s).run.trans hr))

end

theorem evaluateRounds (n : Nat) {s : State} (hr : s.run = .run) : R s (evaluateRounds n s) := by
  induction n generalizing s with
  | zero => exact h.refl s
  | succ n ih => exact h.evaluateEntries (keeps_evaluateRounds n) (fun _ => ih) _ _ hr

theorem evaluateTrips (s : State) : R s (evaluateTrips s) := by
  unfold Machine.evaluateTrips
  split
  · next hr => exact h.evaluateRounds _ hr
  · exact h.refl s

theorem reporting {f : State → State} {s : State} (hf : R s (f s)) : R s (reporting f s) := by
  unfold Machine.reporting
  dsimp only
  split
  · exact hf
  · exact h.trans hf (h.evaluateTrips _)

theorem expireBackup (k : Nat) (e : LinkageEntry) (s : State) : R s (expireBackup k e s) := by
  unfold Machine.expireBackup
  split
  · next hr =>
    split
    · next c _ =>
      have expired : R s (recordBackupTrip k c (modifyRuntime k (fun r => { r with timer := .expired c }) s)) :=
        h.trans (h.runtime _ _ s) (h.event _ _ _ _ _)
      dsimp only
      split
      · exact expired
      · exact h.trans expired (h.actPrimary (keeps_evaluateRounds _) (fun _ => h.evaluateRounds _) _ _ _ hr)
    · exact h.refl s
  · exact h.refl s

theorem expireBackups (es : List LinkageEntry) (k : Nat) (s : State) : R s (expireBackups k es s) := by
  induction es generalizing k s with
  | nil => exact h.refl s
  | cons e es ih => exact h.trans (h.expireBackup k e s) (ih _ _)

end Evaluates

end Sys2Proof.Machine

/-! The Trip Linkage at an entry into CALM (R168): what each of the ways into CALM leaves of it; the statement O39. -/

namespace Sys2Proof.Machine

/-! ## The Linkage through the ways into CALM (R41, R47 to R51) -/

@[simp] theorem removeRecords_linkage (p : ClaimRecord → Bool) (s : State) : (removeRecords p s).linkage = s.linkage :=
  (removeRecords_onlyClaims p s).linkage

@[simp] theorem coverRecords_linkage (p : ClaimRecord → Bool) (s : State) : (coverRecords p s).linkage = s.linkage :=
  (coverRecords_onlyClaims p s).linkage

theorem leaveBlind_linkage (s : State) : (leaveBlind s).linkage = linkageCalm s.linkage := removeRecords_linkage _ _

theorem returnToCalm_linkage (s : State) : (returnToCalm s).linkage = linkageCalm s.linkage := removeRecords_linkage _ _

theorem restoreLine_linkage (s : State) : (restoreLine s).linkage = linkageCalm s.linkage := removeRecords_linkage _ _

theorem closeDisturbance_linkage (s : State) : (closeDisturbance s).linkage = linkageCalm s.linkage := returnToCalm_linkage _

theorem forceClose_linkage (s : State) : (forceClose s).linkage = linkageCalm s.linkage := returnToCalm_linkage _

/-- A close by a change calms the Linkage where it is due, and leaves it where it is not (R47). -/
theorem testCloseOnChange_linkage (s : State) :
    (testCloseOnChange s).linkage = if closeDue s then linkageCalm s.linkage else s.linkage := by
  unfold testCloseOnChange
  split
  · exact closeDisturbance_linkage s
  · rfl

/-! ## What a calmed Linkage is (R168) -/

theorem linkageCalm_trip (l : Linkage) (o : Output) : (linkageCalm l).trip o = calmTrip (l.trip o) := by
  cases o <;> rfl

theorem calmTrip_of_ended {r : TripRecord} (ended : r.state = .confirmed ∨ r.state = .failed) :
    calmTrip r = ⟨.idle, none, 0, none, none, false⟩ := if_pos (by simpa using ended)

theorem calmTrip_of_open {r : TripRecord} (stays : r.state = .asserted ∨ r.state = .idle) : calmTrip r = r := by
  rcases stays with h | h <;> simp [calmTrip, h]

/-- A Linkage calmed is as R168 says. -/
theorem linkageCalmed_of_eq {s t : State} (h : t.linkage = linkageCalm s.linkage) : LinkageCalmed s t := by
  unfold LinkageCalmed
  simp only [h, linkageCalm_trip]
  refine ⟨fun e he => ?_, ?_, rfl, fun o => ⟨calmTrip_of_ended, calmTrip_of_open⟩⟩
  · obtain ⟨x, -, rfl⟩ := List.mem_map.mp he
    exact ⟨rfl, rfl⟩
  · simp [linkageCalm, Function.comp_def]

/-! ## O39 -/

theorem leaveBlind_assessment (s : State) : (leaveBlind s).detector.assessment = .calm :=
  congrArg Detector.assessment (removeRecords_onlyClaims _ _).detector

theorem returnToCalm_assessment (s : State) : (returnToCalm s).detector.assessment = .calm :=
  congrArg Detector.assessment (removeRecords_onlyClaims _ _).detector

theorem restoreLine_assessment (s : State) : (restoreLine s).detector.assessment = .calm :=
  congrArg Detector.assessment (removeRecords_onlyClaims _ _).detector

/-- A command that is reported to an idle Trip Linkage and calms it leaves it calmed. -/
theorem settled_calmed {f g : State → State} {s : State} (hw : s.working = true) (tripless : NoTripTable s) (keeps : Keeps g) (due : f s = g s)
    (assessment : (g s).detector.assessment = .calm) (linkage : (g s).linkage = linkageCalm s.linkage) :
    ∃ t, (Host.Outcome.next (whileWorking (reporting f) s) : Outcome) = .next t ∧ t.detector.assessment = .calm ∧
      LinkageCalmed s t := by
  have unreported : reporting f s = g s := by
    rw [reporting_of_noTripTable (by rw [due]; exact tripless.within (keeps s)), due]
  refine ⟨_, next_whileWorking hw _, ?_, linkageCalmed_of_eq ?_⟩
  · rw [settle_detector, unreported, assessment]
  · rw [settle_eq, unreported]
    exact linkage

/-- Settles O39: each way into CALM makes the Linkage `linkageCalm` of what it was. -/
theorem calmClearsTheTripLinkage : Obligations.CalmClearsTheTripLinkage := by
  refine ⟨fun s => ⟨linkageCalmed_of_eq (returnToCalm_linkage s), linkageCalmed_of_eq (leaveBlind_linkage s),
    linkageCalmed_of_eq (restoreLine_linkage s)⟩, fun s hw tripless => ⟨?_, ?_, ?_, ?_⟩⟩
  · intro blind full
    exact settled_calmed hw tripless keeps_leaveBlind (if_pos (by simp [blindExitDue, blind, Config.blindExitRun, full]))
      (leaveBlind_assessment s) (leaveBlind_linkage s)
  · intro disturbed full none
    have unclaimed : ownStanding s = false := by simpa [ownStanding, ClaimRecord.standing] using none
    exact settled_calmed hw tripless keeps_closeDisturbance (if_pos (by simp [closeDue, disturbed, full, unclaimed]))
      (returnToCalm_assessment _) (closeDisturbance_linkage s)
  · intro disturbed full
    exact settled_calmed hw tripless keeps_forceClose (if_pos (by simp [forceDue, disturbed, Config.forcedCloseRun, full]))
      (returnToCalm_assessment _) (forceClose_linkage s)
  · intro deenergized full
    exact settled_calmed hw tripless keeps_restoreLine (if_pos (by simp [restoreDue, deenergized, full]))
      (restoreLine_assessment s) (restoreLine_linkage s)

end Sys2Proof.Machine

/-! The frame `OutputsKept`: no operation drives an output but with its record ASSERTED, nor leaves a record ASSERTED outside RUN (R163).
Here the register, the Detector, the Trip Linkage, the claims and the assessment. -/

namespace Sys2Proof.Machine

/-! ## The frame -/

/-- Outputs in order in `s` are in order in `t`. -/
structure OutputsKept (s t : State) : Prop where
  ordered : OutputsOk s → OutputsOk t

/-- A function whose result always keeps its argument's outputs in order. -/
def KeepsOutputs (f : State → State) : Prop := ∀ s, OutputsKept s (f s)

/-- What the outputs are judged by. -/
def State.outputs (s : State) : RunState × TripRecord × TripRecord := (s.run, s.linkage.trip0, s.linkage.trip1)

theorem OutputsKept.refl (s : State) : OutputsKept s s := ⟨id⟩

theorem OutputsKept.trans {s t u : State} (h : OutputsKept s t) (k : OutputsKept t u) : OutputsKept s u := ⟨k.ordered ∘ h.ordered⟩

theorem OutputsKept.same {s t : State} (h : t.outputs = s.outputs) : OutputsKept s t := by
  simp only [State.outputs, Prod.mk.injEq] at h
  obtain ⟨run, trip0, trip1⟩ := h
  refine ⟨fun ok => ?_⟩
  unfold OutputsOk
  rw [run, trip0, trip1]
  exact ok

/-- Run state and outputs as they stand, and then `k`. -/
theorem OutputsKept.after {s t u : State} (k : OutputsKept t u) (h : t.outputs = s.outputs) : OutputsKept s u :=
  (OutputsKept.same h).trans k

theorem OutputsKept.ite {c : Prop} [Decidable c] {s t u : State} (ht : OutputsKept s t) (hu : OutputsKept s u) :
    OutputsKept s (if c then t else u) := by
  split
  · exact ht
  · exact hu

theorem KeepsOutputs.ite {f : State → State} (p : State → Prop) [DecidablePred p] (hf : KeepsOutputs f) :
    KeepsOutputs (fun s => if p s then f s else s) := fun s => .ite (hf s) (.refl s)

theorem keepsOutputs_foldl {α : Type} {f : State → α → State} (h : ∀ a, KeepsOutputs (fun s => f s a)) (l : List α) :
    KeepsOutputs (fun s => l.foldl f s) := by
  induction l with
  | nil => exact .refl
  | cons a l ih => exact fun s => (h a s).trans (ih _)

/-- Both records changed by what keeps a record in order. -/
theorem OutputsKept.of_trips {f : TripRecord → TripRecord} (hf : ∀ now r, TripOk now r → TripOk now (f r)) {s t : State}
    (run : t.run = s.run) (trip0 : t.linkage.trip0 = f s.linkage.trip0) (trip1 : t.linkage.trip1 = f s.linkage.trip1) :
    OutputsKept s t := by
  refine ⟨fun ⟨ok0, ok1⟩ => ?_⟩
  unfold OutputsOk
  rw [run, trip0, trip1]
  exact ⟨hf _ _ ok0, hf _ _ ok1⟩

/-- One record replaced by one in order. -/
theorem setTrip_outputsKept {o : Output} {r : TripRecord} {s : State} (ok : TripOk s.run r) : OutputsKept s (setTrip o r s) := by
  refine ⟨fun ⟨ok0, ok1⟩ => ?_⟩
  cases o
  · exact ⟨ok, ok1⟩
  · exact ⟨ok0, ok⟩

/-! ## Register and Detector (Chapters 3 and 8) -/

theorem keepsOutputs_rejudgePairs : KeepsOutputs rejudgePairs := fun s => .same (by rw [rejudgePairs_eq]; rfl)

theorem keepsOutputs_placeRecord (r : ClaimRecord) : KeepsOutputs (placeRecord r) := fun _ =>
  .after (keepsOutputs_rejudgePairs _) rfl

theorem keepsOutputs_removeRecords (p : ClaimRecord → Bool) : KeepsOutputs (removeRecords p) := fun s =>
  .same (by simp [State.outputs, (keeps_removeRecords p s).run])

theorem keepsOutputs_coverRecords (p : ClaimRecord → Bool) : KeepsOutputs (coverRecords p) := fun s =>
  .same (by simp [State.outputs, (keeps_coverRecords p s).run])

theorem tripOk_calmTrip (now : RunState) (r : TripRecord) (ok : TripOk now r) : TripOk now (calmTrip r) := by
  unfold calmTrip
  split
  · exact ⟨by simp [Init.tripRecord], by simp [Init.tripRecord]⟩
  · exact ok

/-- A Linkage calmed keeps its outputs in order (R168). -/
theorem OutputsKept.calmed {s t : State} (run : t.run = s.run) (linkage : t.linkage = linkageCalm s.linkage) : OutputsKept s t :=
  .of_trips tripOk_calmTrip run (by rw [linkage]; rfl) (by rw [linkage]; rfl)

theorem keepsOutputs_leaveBlind : KeepsOutputs leaveBlind := fun s => .calmed (keeps_leaveBlind s).run (leaveBlind_linkage s)

theorem keepsOutputs_closeDisturbance : KeepsOutputs closeDisturbance := fun s =>
  .calmed (keeps_closeDisturbance s).run (closeDisturbance_linkage s)

theorem keepsOutputs_forceClose : KeepsOutputs forceClose := fun s => .calmed (keeps_forceClose s).run (forceClose_linkage s)

theorem keepsOutputs_restoreLine : KeepsOutputs restoreLine := fun s => .calmed (keeps_restoreLine s).run (restoreLine_linkage s)

theorem keepsOutputs_testClose : KeepsOutputs testClose := .ite (fun s => closeDue s = true) keepsOutputs_closeDisturbance

theorem keepsOutputs_testCloseOnChange : KeepsOutputs testCloseOnChange :=
  .ite (fun s => closeDue s = true) fun s => (keepsOutputs_closeDisturbance s).trans (.same rfl)

theorem keepsOutputs_requestDisturbance (c : OpenCause) (x : EventSubject) : KeepsOutputs (requestDisturbance c x) := fun s => by
  unfold requestDisturbance
  split <;> exact .same rfl

/-- An own record handed to the Detector (R38 to R51). -/
theorem keepsOutputs_handRecord (e : EpochRecord) : KeepsOutputs (handRecord e) := fun s => by
  have blind : KeepsOutputs (handBlind e) := fun _ => .ite (.after (keepsOutputs_leaveBlind _) rfl) (.same rfl)
  have calm : KeepsOutputs (handCalm e) := fun s => by
    unfold handCalm
    split
    · exact .ite (.ite (.same rfl) (.same rfl)) (.refl s)
    · exact .refl s
  have forced : KeepsOutputs moveForced := fun _ => .ite (.after (keepsOutputs_forceClose _) rfl) (.same rfl)
  have disturbed : KeepsOutputs (handDisturbed e) := fun s =>
    have tested : OutputsKept s (testClose (s.setDetector { s.detector with
        settle := if quiet s.port.image s.engine.ring e then raise s.port.image.settleCount s.detector.settle else 0 })) :=
      .after (keepsOutputs_testClose _) rfl
    .ite (tested.trans (forced _)) tested
  have deenergized : KeepsOutputs (handDeenergized e) := fun _ => .ite (.after (keepsOutputs_restoreLine _) rfl) (.same rfl)
  have taken : OutputsKept s (takeReference e s) := .same rfl
  unfold handRecord
  dsimp only
  split
  · exact taken.trans (blind _)
  · exact .ite taken (taken.trans (calm _))
  · exact taken.trans (disturbed _)
  · exact taken.trans (deenergized _)

theorem keepsOutputs_enterDeenergized (n p : Nat) : KeepsOutputs (enterDeenergized n p) := fun _ =>
  .ite (.same rfl) (.after (.trans (keepsOutputs_coverRecords _ _) (keepsOutputs_removeRecords _ _)) rfl)

theorem keepsOutputs_returnToBlind : KeepsOutputs returnToBlind := fun s => by
  unfold returnToBlind
  dsimp only
  split <;> exact .same rfl

/-! ## The Trip Linkage (Chapter 9) -/

theorem keepsOutputs_timersByTripped (c : TrippedContent) : KeepsOutputs (timersByTripped c) := by
  refine keepsOutputs_foldl (fun k s => ?_) _
  change OutputsKept s (timerByTripped c k s)
  unfold timerByTripped
  split
  · exact .refl s
  · split
    · split <;> exact .same rfl
    · exact .refl s
  · exact .ite (.same rfl) (.refl s)

theorem keepsOutputs_coverZone (c : TrippedContent) : KeepsOutputs (coverZone c) := fun s => by
  unfold coverZone
  split
  · exact .refl s
  · have covered := keepsOutputs_coverRecords (fun r => r.span.within c.zone) s
    exact .ite (covered.trans (keepsOutputs_testCloseOnChange _)) covered

/-- An output let go, and its TRIPPED offered (R164 to R166). -/
theorem OutputsKept.offered {ev : State → State} {o : Output} {r : TripRecord} {s : State} (hr : s.run = .run)
    (hev : ∀ t, t.run = .run → OutputsKept t (ev t)) (released : TripOk s.run r) (k : EventKind) (x : Option Span) (d : Detail)
    (c : TrippedContent) : OutputsKept s (offerTripped ev c (record (setTrip o r s) k (.output o) x d)) := by
  let t := record (setTrip o r s) k (.output o) x d
  have listed : OutputsKept s (takeIntoTripList t.port.image.stationId c (offerSeries (.tripped c) t)) :=
    (setTrip_outputsKept released).trans (.same rfl)
  have covered := (listed.trans (keepsOutputs_timersByTripped c _)).trans (keepsOutputs_coverZone c _)
  refine covered.trans (hev _ ?_)
  rw [(keeps_coverZone c _).run, (keeps_timersByTripped c _).run]
  exact (setTrip_run s o r).trans hr

/-- Every evaluation of the Trip Linkage keeps the outputs in order (R159 to R164). -/
theorem outputsKept_evaluates : Evaluates OutputsKept where
  refl := .refl
  trans := .trans
  event _ _ _ _ _ := .same rfl
  runtime _ _ _ := .same rfl
  assert _ _ _ _ _ hr _ := setTrip_outputsKept ⟨by simp, fun _ => hr⟩
  confirm _ _ _ _ hev hr _ _ := .offered hr hev ⟨by simp, by simp⟩ _ _ _ _

theorem keepsOutputs_evaluateTrips : KeepsOutputs evaluateTrips := outputsKept_evaluates.evaluateTrips

theorem KeepsOutputs.reporting {f : State → State} (hf : KeepsOutputs f) : KeepsOutputs (reporting f) := fun s =>
  outputsKept_evaluates.reporting (hf s)

/-- A trip fails in RUN, where its record is ASSERTED (R165). -/
theorem keepsOutputs_failIfDue (o : Output) : KeepsOutputs (failIfDue o) := fun s => by
  unfold failIfDue
  split
  · next due =>
    refine ⟨fun ok => ?_⟩
    have asserted : (s.linkage.trip o).state = .asserted := by
      simp only [failDue, Bool.and_eq_true, decide_eq_true_eq] at due
      exact due.1
    have hr : s.run = .run := by
      cases o
      · exact ok.1.2 asserted
      · exact ok.2.2 asserted
    exact (OutputsKept.offered hr (fun _ _ => keepsOutputs_evaluateTrips _) ⟨by simp, by simp⟩ _ _ _ _).ordered ok
  · exact .refl s

/-- The Linkage's timers at a boundary (R161, R163, R165). -/
theorem keepsOutputs_linkageTimers (kind : BoundaryKind) : KeepsOutputs (linkageTimers kind) := fun s =>
  have ticked : ∀ now r, TripOk now r → TripOk now (raiseConfirm r) := fun _ _ ok => by
    unfold raiseConfirm
    split <;> exact ok
  have raised : OutputsKept s (raiseConfirms s) := .of_trips ticked rfl rfl rfl
  have started : OutputsKept (raiseConfirms s) (raiseTimers (raiseConfirms s)) := .ite (.same rfl) (.refl _)
  have timers : OutputsKept s (if kind.begins then
      expireBackups 0 (raiseConfirms s).port.image.entries (raiseTimers (raiseConfirms s)) else raiseConfirms s) :=
    .ite ((raised.trans started).trans (outputsKept_evaluates.expireBackups _ _ _)) raised
  (timers.trans (keepsOutputs_failIfDue .trip0 _)).trans (keepsOutputs_failIfDue .trip1 _)

theorem keepsOutputs_linkageTripped (n : Nat) (c : TrippedContent) : KeepsOutputs (linkageTripped n c) := fun s => by
  have heard : OutputsKept s (if tripKnown s.linkage.trips n c then takeIntoTripList n c s
      else record (takeIntoTripList n c s) .trippedHeard (.station n) (some c.span) (.trip c.result c.output)) :=
    .ite (.same rfl) (.same rfl)
  exact .ite ((heard.trans (keepsOutputs_timersByTripped c _)).trans (keepsOutputs_evaluateTrips _)) heard

/-! ## Claims and the assessment (Chapters 7 and 8) -/

theorem keepsOutputs_refreshAll (rs : List ClaimRecord) : KeepsOutputs (refreshAll rs) := by
  induction rs with
  | nil => exact .refl
  | cons r rs ih => exact fun s => .trans (.ite (.same (by rfl)) (.refl s)) (ih _)

theorem keepsOutputs_expireClaim (key : ClaimKey) : KeepsOutputs (expireClaim key) := fun s => by
  unfold expireClaim
  split
  · exact .ite (.trans (.ite (.same (by rfl)) (.refl s)) (keepsOutputs_removeRecords _ _)) (.refl s)
  · exact .refl s

/-- The register's ageing (R140, R147). -/
theorem keepsOutputs_ageRegister : KeepsOutputs ageRegister := fun s => by
  have aged : KeepsOutputs (fun s => s.setRecords (s.register.records.map ageRecord)) := fun _ => .same rfl
  have refreshed : KeepsOutputs refreshDueRecords := fun s => keepsOutputs_refreshAll _ s
  have expired : ∀ keys, KeepsOutputs (expireEach keys) := fun keys => by
    induction keys with
    | nil => exact .refl
    | cons key keys ih => exact fun s => ((keepsOutputs_expireClaim key).reporting s).trans (ih _)
  exact ((aged.reporting s).trans (refreshed.reporting _)).trans (expired _ _)

/-- A CLAIM taken by the register (R144, R145). -/
theorem keepsOutputs_takeClaim (h : Header) (c : ClaimContent) (b : Bool) : KeepsOutputs (takeClaim h c b) := fun s => by
  have entered : KeepsOutputs (enterHeard h c) := fun _ =>
    .after (.trans (keepsOutputs_placeRecord _ _) (keepsOutputs_requestDisturbance _ _ _)) rfl
  have evicted : ∀ r, OutputsKept s (evictClaim r s) := fun r =>
    have removed := keepsOutputs_removeRecords (fun x => x.key = r.key) s
    .ite (removed.trans (.same rfl)) removed
  have admitted : OutputsKept s (admitClaim h c s) := by
    unfold admitClaim
    split
    · split
      · exact (evicted _).trans (entered _)
      · exact .same rfl
    · exact entered s
  unfold takeClaim
  split
  · split
    · exact admitted
    · split
      · exact .ite (.same rfl) (.ite (.after (keepsOutputs_rejudgePairs _) rfl) (keepsOutputs_placeRecord _ s))
      · exact .after (keepsOutputs_placeRecord _ _) rfl
      · exact .refl s
  · exact .refl s

theorem keepsOutputs_takeRelease (h : Header) (c : ClaimContent) : KeepsOutputs (takeRelease h c) := fun s => by
  unfold takeRelease
  split
  · split
    · exact .ite (.after (keepsOutputs_rejudgePairs _) rfl) (.refl s)
    · exact .refl s
  · exact .refl s

/-- The at most one hand-off for an own record (R129 to R131, R139 to R142). -/
theorem keepsOutputs_handOff (e : EpochNum) (k : ClaimKind) (f : SpanEnd) : KeepsOutputs (handOff e k f) := fun s => by
  have entered : ∀ c, KeepsOutputs (raiseOwn e c) := fun c s =>
    have offered : ∀ r, OutputsKept s (offerSeries (.claim c false) (recordClaim .claimRaised r (.mask c.mask) (placeRecord r s))) :=
      fun r => (keepsOutputs_placeRecord r s).trans (.same rfl)
    .ite ((offered _).trans (keepsOutputs_requestDisturbance _ _ _)) (offered _)
  have raised : ∀ m, OutputsKept s (raiseClaim e k f m s) := fun m => by
    unfold raiseClaim
    split
    · exact .after ((entered _).reporting _) rfl
    · exact .refl s
  have changed : ∀ key m, KeepsOutputs (changeMask e key m) := fun key m s => by
    unfold changeMask
    split
    · exact .after (keepsOutputs_rejudgePairs _) rfl
    · exact .refl s
  have released : ∀ key, KeepsOutputs (releaseOwn key) := fun key s => by
    unfold releaseOwn
    split
    · next r _ =>
      have judged := keepsOutputs_rejudgePairs (recordClaim .claimReleased r (.named .own) (offerSeries (.release r.content)
        (s.setRecords (modifyRecord key (fun x => { x with status := .released }) s.register.records))))
      exact .after (judged.trans (.after (keepsOutputs_testCloseOnChange (unpin _ _)) rfl)) rfl
    · exact .refl s
  dsimp only [handOff]
  split
  · exact raised _
  · split
    · exact raised _
    · exact .ite (.refl s) ((changed _ _).reporting s)
    · exact .refl s
  · exact .ite ((released _).reporting s) (.refl s)
  · exact .refl s

/-- An assessment (R116). -/
theorem keepsOutputs_assess (x : EpochNum) : KeepsOutputs (assess x) := fun s => by
  have located : ∀ n a b, KeepsOutputs (recordLocated n a b) := fun _ _ _ s => .ite (.same rfl) (.refl s)
  have agreed : KeepsOutputs judgeAgreement := fun _ => .same rfl
  have mapped : ∀ r, KeepsOutputs (takeMap r) := fun r _ =>
    .after (.trans (.trans (.trans (.trans (located _ _ _ _) (located _ _ _ _)) (located _ _ _ _)) (located _ _ _ _))
      (agreed.reporting _)) rfl
  have mirrored : KeepsOutputs (mirrorClaims x) := fun s =>
    (((keepsOutputs_handOff x _ _ s).trans (keepsOutputs_handOff x _ _ _)).trans (keepsOutputs_handOff x _ _ _)).trans
      (keepsOutputs_handOff x _ _ _)
  unfold assess
  split
  · next o _ =>
    have moved : KeepsOutputs (moveCells o) := fun _ => .same rfl
    exact (((mapped o s).trans (moved _)).trans (mirrored _)).trans (keepsOutputs_evaluateTrips _)
  · exact keepsOutputs_evaluateTrips s

end Sys2Proof.Machine

/-! The frame `OutputsKept` for the Peer Table, the fault unit, the completions, the delivered frames and the boundary, and with them
for every command: the statement O5. -/

namespace Sys2Proof.Machine

/-! ## Fault unit and Peer Table (Chapters 6 and 10) -/

/-- A change of the link alone. -/
theorem OutputsKept.of_link {s t : State} (h : t = { s with link := t.link }) : OutputsKept s t := by
  rw [h]
  exact .same rfl

theorem TableOnly.outputsKept {s t : State} (h : TableOnly s t) : OutputsKept s t := by
  rw [h.rest]
  exact .same rfl

theorem keepsOutputs_settle : KeepsOutputs settle := fun s => .of_link (settle_eq s)

theorem keepsOutputs_judgeImpaired : KeepsOutputs judgeImpaired := fun s =>
  .ite (.refl s) (.after (keepsOutputs_evaluateTrips _) rfl)

theorem keepsOutputs_judgeSilent : KeepsOutputs judgeSilent := fun s =>
  .ite (.refl s) (.ite (.after (keepsOutputs_judgeImpaired _) rfl) (.after (keepsOutputs_judgeImpaired _) rfl))

theorem keepsOutputs_frameHeard : KeepsOutputs frameHeard := fun _ => .after (keepsOutputs_judgeSilent _) rfl

theorem keepsOutputs_setJammed : KeepsOutputs setJammed := fun s =>
  have missed : OutputsKept s (missReport (fun _ => true) (s.setFault { s.fault with jammed := true })) :=
    .after (.of_link (missReport_eq _ _)) rfl
  missed.trans (.after (keepsOutputs_judgeImpaired (record _ _ _ _ _)) rfl)

theorem keepsOutputs_epochBusy : KeepsOutputs epochBusy := fun s =>
  have cleared : OutputsKept s (clearJammed s) := .after (keepsOutputs_judgeImpaired _) rfl
  .ite (.ite (.refl s) cleared) (.ite (.after (keepsOutputs_setJammed _) rfl) (.same rfl))

theorem keepsOutputs_tableChanged : KeepsOutputs tableChanged := fun s =>
  have judged : OutputsKept s (judgeSource s) := .ite (.refl s) (.same rfl)
  judged.trans (.after (keepsOutputs_judgeSilent (State.setFault _ _)) rfl)

/-- The table changed, and what every change of it brings. -/
theorem TableOnly.changed {s t : State} (h : TableOnly s t) : OutputsKept s (tableChanged t) :=
  h.outputsKept.trans (keepsOutputs_tableChanged t)

theorem keepsOutputs_evaluateAdjacency : KeepsOutputs evaluateAdjacency := fun s => .same (by rw [evaluateAdjacency_eq]; rfl)

theorem admitPeer_outputsKept (n p : Nat) (s : State) : OutputsKept s (admitPeer n p s).1 := by
  unfold admitPeer
  split
  · split
    · exact .refl s
    · exact .same rfl
  · split
    · exact .same rfl
    · exact ((evict_tableOnly _ s).trans ((modifyPeer_tableOnly _ _ _).trans (setConflicts_tableOnly _ _))).changed

theorem moved_outputsKept (k n p : Nat) (s : State) : OutputsKept s (moved k n p s).1 := by
  dsimp only [moved]
  split
  · exact .same rfl
  · split
    · exact ((freeSlot_tableOnly k s).trans ((record_tableOnly _ _ _ _ _).trans (setConflicts_tableOnly _ _))).changed
    · exact ((modifyPeer_tableOnly k _ s).trans (dropAdjacent_tableOnly k _)).changed

theorem findEntry_outputsKept (h : Header) (s : State) : OutputsKept s (findEntry h s).1 := by
  have judged : ∀ r : State × Option Nat, OutputsKept s r.1 → OutputsKept s (flagged h r).1 := by
    rintro ⟨t, _ | k⟩ found
    · exact found
    · exact found.trans (judgeMismatch_tableOnly k h t).outputsKept
  cases hk : slotOf s.peers.entries h.sender with
  | none => exact findEntry_of_newcomer hk ▸ judged _ (admitPeer_outputsKept _ _ s)
  | some k =>
    by_cases hp : (peerAt s k).position = h.position
    · exact findEntry_known hk hp ▸ judged (s, some k) (.refl s)
    · exact findEntry_of_moved hk hp ▸ judged _ (moved_outputsKept k _ _ s)

/-- A frame taken by the Peer Table: its entry found, what acts on that entry, and what every change of the table brings. -/
theorem keepsOutputs_tableReport (h : Header) (p : ReportPayload) : KeepsOutputs (tableReport h p) := fun s => by
  have found := findEntry_outputsKept h s
  unfold tableReport
  split
  · next heq => rw [heq] at found; exact found.trans (reportActs_tableOnly _ h p _).changed
  · next heq => rw [heq] at found; exact found.trans (keepsOutputs_tableChanged _)

theorem keepsOutputs_tableOther (h : Header) : KeepsOutputs (tableOther h) := fun s => by
  have found := findEntry_outputsKept h s
  unfold tableOther
  split
  · next heq => rw [heq] at found; exact found.trans (modifyPeer_tableOnly _ _ _).changed
  · next heq => rw [heq] at found; exact found.trans (keepsOutputs_tableChanged _)

theorem keepsOutputs_tableAlert (h : Header) (c : AlertContent) : KeepsOutputs (tableAlert h c) := fun s => by
  have found := findEntry_outputsKept h s
  unfold tableAlert
  split
  · next t k heq =>
    rw [heq] at found
    have acted := found.trans ((modifyPeer_tableOnly k _ t).trans
      (modifyPeer_tableOnly k (fun e => { e with snapshot := some c }) (otherActs k h t))).changed
    exact .ite (acted.trans (keepsOutputs_requestDisturbance _ _ _)) acted
  · next heq => rw [heq] at found; exact found.trans (keepsOutputs_tableChanged _)

/-- The ages of the peers and of the claims (R102, R104, R140, R147). -/
theorem keepsOutputs_ageTables : KeepsOutputs ageTables := fun s => by
  have aged : OutputsKept s (s.setEntries (s.peers.entries.map (fun e => closeProbation (raiseAge (raiseSilences e))))) := .same rfl
  have moved : ∀ k, KeepsOutputs (moveSlot k) := fun k s =>
    .ite (.same rfl) (.ite (.same rfl) (.ite (freeSlot_tableOnly k s).outputsKept (.refl s)))
  have moves : KeepsOutputs (fun s => (List.range 16).foldl (fun s k => moveSlot k s) s) := keepsOutputs_foldl moved _
  exact ((aged.trans (moves _)).trans (keepsOutputs_tableChanged _)).trans (keepsOutputs_ageRegister _)

/-! ## Completions and the counts of a strobe (R56, R72, R173) -/

theorem keepsOutputs_completeFrame : KeepsOutputs completeFrame := fun s => by
  have closed : ∀ kind fin, KeepsOutputs (releaseClosed kind fin) := fun _ _ s =>
    (keepsOutputs_removeRecords _ s).trans (keepsOutputs_testCloseOnChange _)
  have told : ∀ x, KeepsOutputs (tellOwner x) := fun x s => by
    unfold tellOwner
    split
    · exact (closed _ _).reporting s
    · exact .refl s
  have completed : ∀ x, KeepsOutputs (completeSeries x) := fun x s => by
    unfold completeSeries
    split
    · exact .ite (.refl s) (.ite (.after (told x _) rfl) (.same rfl))
    · exact .refl s
  unfold completeFrame
  split
  · exact .after (completed _ _) rfl
  · exact .same rfl

theorem keepsOutputs_clearTimeouts : KeepsOutputs clearTimeouts := fun _ =>
  .ite (.after (keepsOutputs_judgeImpaired _) rfl) (.same rfl)

theorem keepsOutputs_completeIfDue : KeepsOutputs completeIfDue :=
  have counted : KeepsOutputs countTimeout := fun _ => .ite (.after (keepsOutputs_judgeImpaired _) rfl) (.same rfl)
  .ite (fun s => completionDue s = true) fun s => (keepsOutputs_completeFrame s).trans (counted _)

theorem keepsOutputs_endReceptionIfDue : KeepsOutputs endReceptionIfDue := .ite (fun s => receptionDue s = true) fun _ => .same rfl

/-- The counts of a strobe (R56, R59, R78). -/
theorem keepsOutputs_strobeTimers : KeepsOutputs strobeTimers := fun _ =>
  .after (.trans (.trans (keepsOutputs_completeIfDue _) (keepsOutputs_endReceptionIfDue _)) (.of_link (endBackoffIfDue_eq _))) rfl

/-! ## Delivered frames (Chapters 4 and 5) -/

theorem keepsOutputs_timelineReport (h : Header) (l : Stamp) : KeepsOutputs (timelineReport h l) := fun s => by
  have source : KeepsOutputs (sourceReport h l) := fun s => by
    unfold sourceReport
    dsimp only
    split
    · exact .ite (.same rfl) (.ite (.same rfl) (.same rfl))
    · exact .ite (.same rfl) (.same rfl)
    · exact .same rfl
  have marked := (setMark_tableOnly h.sender (alignedBy s.port.image.n h l) s).outputsKept
  unfold timelineReport
  dsimp only
  split
  · exact marked
  · exact marked.trans (.ite (.same rfl) (.refl _))
  · exact .ite (marked.trans (source _)) marked

theorem keepsOutputs_takeReport (h : Header) (p : Payload) (l : Stamp) : KeepsOutputs (takeReport h p l) := fun s => by
  unfold takeReport
  split
  · exact ((keepsOutputs_frameHeard s).trans (keepsOutputs_tableReport h _ _)).trans (keepsOutputs_timelineReport h l _)
  · exact .refl s

theorem frameHeard_setHold_outputsKept (s : State) : OutputsKept s (setHold (frameHeard s)) :=
  (keepsOutputs_frameHeard s).trans (.same rfl)

theorem tableOther_outputsKept (h : Header) (s : State) : OutputsKept s (tableOther h (setHold (frameHeard s))) :=
  (frameHeard_setHold_outputsKept s).trans (keepsOutputs_tableOther h _)

theorem keepsOutputs_takeAlert (h : Header) (p : Payload) (l : Stamp) : KeepsOutputs (takeAlert h p l) := fun s => by
  unfold takeAlert
  split
  · exact (frameHeard_setHold_outputsKept s).trans (keepsOutputs_tableAlert h _ _)
  · exact .refl s

theorem keepsOutputs_takeClaimFrame (h : Header) (p : Payload) (l : Stamp) : KeepsOutputs (takeClaimFrame h p l) := fun s => by
  unfold takeClaimFrame
  split
  · exact (tableOther_outputsKept h s).trans ((keepsOutputs_takeClaim _ _ _).reporting _)
  · exact .refl s

theorem keepsOutputs_takeReleaseFrame (h : Header) (p : Payload) (l : Stamp) : KeepsOutputs (takeReleaseFrame h p l) :=
  fun s => by
  unfold takeReleaseFrame
  split
  · exact (tableOther_outputsKept h s).trans ((keepsOutputs_takeRelease _ _).reporting _)
  · exact .refl s

theorem keepsOutputs_trippedBlocks (n : Nat) (h : Header) (c : TrippedContent) : KeepsOutputs (trippedBlocks n h c) := fun s => by
  have d : KeepsOutputs (detectorTripped h c) := fun s => .ite ((keepsOutputs_enterDeenergized _ _).reporting s) (.refl s)
  have r := (keepsOutputs_coverZone c).reporting
  have l := keepsOutputs_linkageTripped h.sender c
  dsimp only [trippedBlocks]
  split
  · exact ((d s).trans (r _)).trans (l _)
  · exact ((d s).trans (l _)).trans (r _)
  · exact ((r s).trans (d _)).trans (l _)
  · exact ((r s).trans (l _)).trans (d _)
  · exact ((l s).trans (d _)).trans (r _)
  · exact ((l s).trans (r _)).trans (d _)

theorem keepsOutputs_takeTripped (h : Header) (p : Payload) (l : Stamp) : KeepsOutputs (takeTripped h p l) := fun s => by
  unfold takeTripped
  split
  · exact (tableOther_outputsKept h s).trans (.after (keepsOutputs_trippedBlocks _ _ _ (nextChoice _).2) rfl)
  · exact .refl s

theorem keepsOutputs_deliver (kind : Nat) {act : Header → Payload → Stamp → State → State}
    (h : ∀ x p l, KeepsOutputs (act x p l)) (frame : List Byte) : KeepsOutputs (deliver kind act frame) := fun s => by
  unfold deliver
  split
  · exact .same rfl
  · exact .ite (.after (h _ _ _ _) rfl) (.refl s)

/-! ## The boundary (Chapters 1 to 5) -/

theorem KeepsOutputs.eitherOrder {f g : State → State} (hf : KeepsOutputs f) (hg : KeepsOutputs g) (race : State → Bool)
    (order : Nat → Bool) : KeepsOutputs (fun s => eitherOrder (race s) order f g s) := fun s =>
  have chosen : OutputsKept s (nextChoice s).2 := .same rfl
  .ite (.ite ((chosen.trans (hf _)).trans (hg _)) ((chosen.trans (hg _)).trans (hf _))) ((hg s).trans (hf _))

theorem keepsOutputs_silenceAnd {f : State → State} (h : KeepsOutputs f) : KeepsOutputs (silenceAnd f) :=
  have silence : KeepsOutputs epochSilence := fun _ => .after (keepsOutputs_judgeSilent _) rfl
  silence.eitherOrder h (fun s => jamChanging s && silentChanging s) _

theorem keepsOutputs_expireAlert : KeepsOutputs expireAlert := .ite (fun s => alertOverdue s = true) fun _ => .same rfl

/-- A record in order is so in RUN, whatever the run state was. -/
theorem keepsOutputs_enterRun : KeepsOutputs enterRun := fun s =>
  have entered : OutputsKept s { s with run := .run, timeline := { s.timeline with join := .done } } :=
    ⟨fun ⟨⟨driven0, _⟩, driven1, _⟩ => ⟨⟨driven0, fun _ => rfl⟩, driven1, fun _ => rfl⟩⟩
  entered.trans (keepsOutputs_evaluateTrips _)

theorem keepsOutputs_closeWindow (x : EpochNum) : KeepsOutputs (closeWindow x) := fun s =>
  ((OutputsKept.of_link (shutWindow_eq x s)).trans (keepsOutputs_evaluateAdjacency _)).trans (keepsOutputs_assess x _)

theorem keepsOutputs_endAccumulation (e : EpochNum) (b : Bool) (φ : Phase) (m : TrackerMode) :
    KeepsOutputs (endAccumulation e b φ m) := fun s => by
  have taken : ∀ r, KeepsOutputs (takeRecord r) := fun r s =>
    have handed : OutputsKept s (reporting (handRecord r) (s.setEngine { s.engine with ring := ringInsert r s.engine.ring })) :=
      .after ((keepsOutputs_handRecord r).reporting _) rfl
    .ite (handed.trans (.same rfl)) handed
  exact .ite (.same rfl) (.after (taken _ _) rfl)

theorem keepsOutputs_boundaryEnds (e : EpochNum) (b : Bool) (φ : Phase) (m : TrackerMode) :
    KeepsOutputs (boundaryEnds e b φ m) := fun s => by
  have begun : OutputsKept s (if b then s.setTimeline { s.timeline with slewGuard := false } else s) :=
    .ite (.same rfl) (.refl s)
  have listened : KeepsOutputs countListen := fun s =>
    .ite (.ite (.after (keepsOutputs_enterRun _) rfl) (.same rfl)) (.refl s)
  have fallen : KeepsOutputs fallHold := fun _ => .same rfl
  have aged := (((begun.trans (listened _)).trans (fallen _)).trans (keepsOutputs_expireAlert _)).trans (keepsOutputs_ageTables _)
  have recorded : KeepsOutputs (recordAndClose e (endAccumulation e b φ m)) := fun s =>
    .ite ((keepsOutputs_closeWindow e).eitherOrder (keepsOutputs_endAccumulation e b φ m) (fun _ => true) _ s)
      (keepsOutputs_endAccumulation e b φ m s)
  have judged := keepsOutputs_silenceAnd (keepsOutputs_epochBusy.eitherOrder recorded jamComing Config.jamBeforeReport)
  have opened : KeepsOutputs openWindow := fun _ => .same rfl
  exact (aged.trans (judged _)).trans (opened _)

theorem keepsOutputs_boundaryJumps (x : JumpTarget) : KeepsOutputs (boundaryJumps x) := fun s => by
  have left : KeepsOutputs leaveWindow := .ite (fun s => s.link.windowOpen = true) fun _ => .after (keepsOutputs_evaluateAdjacency _) rfl
  have window : KeepsOutputs (jumpWindow x) := fun s => .ite ((left s).trans (.same rfl)) (left s)
  have queue : KeepsOutputs (jumpQueue x) := fun s => (OutputsKept.of_link (missReport_eq _ s)).trans (.same rfl)
  have assessed : KeepsOutputs (fun t => t.setAssessor (assessorJump t.assessor)) := fun _ => .same rfl
  have agreed : KeepsOutputs judgeAgreement := fun _ => .same rfl
  have fallen : KeepsOutputs fallHold := fun _ => .same rfl
  have joined : KeepsOutputs completeJoin := fun s => .ite (keepsOutputs_enterRun s) (.refl s)
  have jumped : OutputsKept s (jumpWindow x (jumpQueue x (s.setEngine (engineJump x.cycle s.engine)))) :=
    .after ((queue _).trans (window _)) rfl
  have blind := jumped.trans (.after (keepsOutputs_returnToBlind (timelineJump x _)) rfl)
  have entered := ((blind.trans (assessed _)).trans (agreed.reporting _)).trans (joined _)
  exact ((entered.trans (fallen _)).trans (keepsOutputs_ageTables _)).trans (keepsOutputs_silenceAnd keepsOutputs_epochBusy _)

theorem keepsOutputs_patchStrobe : KeepsOutputs patchStrobe := fun s => .same (by rw [patchStrobe_eq]; rfl)

theorem keepsOutputs_recordTracker (es : List TrackerEvent) : KeepsOutputs (recordTracker es) := by
  induction es with
  | nil => exact .refl
  | cons e es ih => exact fun s => .after (ih _) rfl

theorem keepsOutputs_advanceToSome (s : State) (x : Option Tick) : OutputsKept s (advanceToSome s x) :=
  .same (by rw [advanceToSome_eq]; rfl)

/-- A cycle boundary (R5). -/
theorem keepsOutputs_boundaryBody : KeepsOutputs boundaryBody := fun s => by
  have tail : KeepsOutputs (fun t => strobeTimers (abandonBackoff (judgePosture (beginCycle t)))) := fun _ =>
    .after ((OutputsKept.of_link (abandonBackoff_eq _)).trans (keepsOutputs_strobeTimers _)) rfl
  have ended : KeepsOutputs endCycle := fun s => (keepsOutputs_patchStrobe s).trans (.same rfl)
  have evaluated : KeepsOutputs evaluateTracker := fun _ => .after (keepsOutputs_recordTracker _ _) rfl
  have continues : KeepsOutputs boundaryContinues := fun s => .ite (keepsOutputs_closeWindow _ s) (.refl s)
  have judged : ∀ kind k, OutputsKept s (evaluateTracker (linkageTimers kind
      (endCycle ((advanceToSome s s.tracker.next).setTracker k)))) := fun kind k =>
    (keepsOutputs_advanceToSome s _).trans
      (.after ((ended _).trans ((keepsOutputs_linkageTimers kind _).trans (evaluated _))) rfl)
  unfold boundaryBody
  dsimp only
  refine .trans ?_ (tail _)
  split
  · exact (judged _ _).trans (continues _)
  · exact (judged _ _).trans (keepsOutputs_boundaryEnds _ _ _ _ _)
  · exact (judged _ _).trans (keepsOutputs_boundaryJumps _ _)

/-! ## The other commands' own operations -/

theorem keepsOutputs_transact {act : State → Reply × State} (h : ∀ s, (act s).2.outputs = s.outputs) :
    KeepsOutputs (transact act) := fun s => by
  unfold transact
  dsimp only
  split
  · exact .refl s
  · split
    · exact .same rfl
    · exact .same (h (s.setPort { s.port with shifted := some (shiftedNow s.port) }))

/-- START leaves CONFIG, where no record is ASSERTED (R163, R182). -/
theorem keepsOutputs_endValidation : KeepsOutputs endValidation := fun s => by
  unfold endValidation
  split
  · next starts =>
    have config : s.run = .config := of_decide_eq_true (Bool.and_eq_true_iff.mp starts).2
    have listens : ∀ r, TripOk s.run r → TripOk .listen r := fun r ⟨driven, running⟩ =>
      ⟨driven, fun asserted => absurd ((running asserted).symm.trans config) (by decide)⟩
    have started : OutputsKept s (startInstant s) := ⟨fun ⟨ok0, ok1⟩ => ⟨listens _ ok0, listens _ ok1⟩⟩
    split
    · exact .same rfl
    · exact started.trans (keepsOutputs_settle _)
  · exact .refl s

theorem keepsOutputs_takeEdge (φ : Phase) (x : Tick) : KeepsOutputs (takeEdge φ x) := fun s => by
  unfold takeEdge
  dsimp only
  rw [advanceTo_eq]
  exact .after (keepsOutputs_recordTracker _ _) rfl

theorem keepsOutputs_nextStrobe : KeepsOutputs nextStrobe := fun s => by
  unfold nextStrobe
  split
  · next k _ =>
    have issued : KeepsOutputs (fun t => { t with sampling := issueStrobe (k + 1) t.sampling }) := fun _ => .same rfl
    exact .ite ((((keepsOutputs_advanceToSome s _).trans (keepsOutputs_patchStrobe _)).trans (issued _)).trans
      (keepsOutputs_strobeTimers _)) (.refl s)
  · exact .refl s

theorem keepsOutputs_takePen (level : Bool) : KeepsOutputs (takePen level) := fun _ =>
  .ite (.same rfl) (.after (keepsOutputs_evaluateTrips _) rfl)

/-- An open-confirm level lets its output go, or is only held (R155, R164). -/
theorem keepsOutputs_takeOpen (o : Output) (level : Bool) : KeepsOutputs (takeOpen o level) := fun s => by
  have held : OutputsKept s (holdOpen o level s) := by cases o <;> exact .same rfl
  unfold takeOpen
  dsimp only
  split
  · next due =>
    simp only [Bool.and_eq_true, decide_eq_true_eq] at due
    obtain ⟨⟨-, hr⟩, -⟩ := due
    exact held.trans (.offered hr (fun _ _ => keepsOutputs_evaluateTrips _) ⟨by simp, by simp⟩ _ _ _ _)
  · exact held

/-- A reset leaves both outputs IDLE and no line driven (R155, R184). -/
theorem resetBlocks_outputsOk (image : Image) (s : State) : OutputsOk (resetBlocks image s) :=
  ⟨⟨by simp [resetBlocks, Init.linkage, Init.tripRecord], by simp [resetBlocks, Init.linkage, Init.tripRecord]⟩,
    by simp [resetBlocks, Init.linkage, Init.tripRecord], by simp [resetBlocks, Init.linkage, Init.tripRecord]⟩

theorem KeepsOutputs.whileWorking {f : State → State} (h : KeepsOutputs f) : KeepsOutputs (whileWorking f) := fun s =>
  .ite ((h s).trans (keepsOutputs_settle _)) (.refl s)

/-! ## Every command -/

/-- Every command keeps the outputs in order. -/
theorem exec_outputsKept (c : Instr) {s t : State} (ht : exec c s = .next t) : OutputsKept s t := by
  have reads : ∀ reply : State → Reply, KeepsOutputs (transact (readOnly reply)) := fun _ => keepsOutputs_transact fun _ => rfl
  have working : ∀ {f : State → State}, KeepsOutputs f → t = whileWorking f s → OutputsKept s t := fun hf e => e ▸ hf.whileWorking s
  cases c with
  | powerOnReset => cases ht; exact ⟨fun _ => resetBlocks_outputsOk _ _⟩
  | resetPin => cases ht; exact ⟨fun _ => resetBlocks_outputsOk _ _⟩
  | resetPinAsserted => cases ht; exact ⟨fun _ => resetBlocks_outputsOk _ _⟩
  | reset => cases ht; exact .ite (.refl s) ⟨fun _ => resetBlocks_outputsOk s.port.image s⟩
  | getStatus => cases ht; exact reads _ s
  | getRecord k => cases ht; exact reads _ s
  | getPeer k => cases ht; exact reads _ s
  | getClaims => cases ht; exact reads _ s
  | getMap => cases ht; exact reads _ s
  | badCommand => cases ht; exact reads _ s
  | popEvent =>
    cases ht
    refine keepsOutputs_transact (fun s => ?_) s
    unfold popEvent
    split <;> rfl
  | loadConfig image =>
    cases ht
    refine keepsOutputs_transact (fun s => ?_) s
    unfold loadConfig
    split <;> rfl
  | start =>
    cases ht
    refine keepsOutputs_transact (fun s => ?_) s
    unfold startValidation
    split <;> rfl
  | startValidationEnd => cases ht; exact .ite (.refl s) (keepsOutputs_endValidation s)
  | crossingEdge φ x => cases ht; exact working (keepsOutputs_takeEdge φ x) rfl
  | referenceMiss =>
    cases ht
    refine working (fun s => ?_) rfl
    unfold missReference
    split
    · dsimp only
      rw [advanceTo_eq]
      exact .same rfl
    · exact .refl s
  | cycleBoundary => cases ht; exact working keepsOutputs_boundaryBody rfl
  | sampleStrobe => cases ht; exact working keepsOutputs_nextStrobe rfl
  | sampleStall => cases ht; exact working (.ite (fun s => stallDue s.sampling = true) fun _ => .same (by rfl)) rfl
  | sampleSetArrival set =>
    cases ht
    refine working (fun s => ?_) rfl
    rw [takeSampleSet_eq]
    exact .same rfl
  | listenTimeout => cases ht; exact working (.ite (fun s => listenDue s = true) keepsOutputs_enterRun) rfl
  | disturbanceClose => cases ht; exact working keepsOutputs_testClose.reporting rfl
  | disturbanceTimeout =>
    cases ht
    exact working (KeepsOutputs.ite (fun s => forceDue s = true) keepsOutputs_forceClose).reporting rfl
  | blindExit =>
    cases ht
    exact working (KeepsOutputs.ite (fun s => blindExitDue s = true) keepsOutputs_leaveBlind).reporting rfl
  | deenergizedRestored =>
    cases ht
    exact working (KeepsOutputs.ite (fun s => restoreDue s = true) keepsOutputs_restoreLine).reporting rfl
  | alertExpired => cases ht; exact working keepsOutputs_expireAlert rfl
  | vigilanceHoldExpired => cases ht; exact working (.ite (fun s => s.link.hold = 0) fun _ => .same (by rfl)) rfl
  | probationWindowPassed k => cases ht; exact working (fun _ => .same (by rfl)) rfl
  | peerStale k =>
    cases ht
    exact working (.ite (fun s => staleDue (peerAt s k) = true) fun s => (modifyPeer_tableOnly k _ s).changed) rfl
  | peerLost k =>
    cases ht
    exact working (.ite (fun s => lostDue (peerAt s k) = true) fun s =>
      ((modifyPeer_tableOnly k (fun e => { e with state := .lost }) s).trans (record_tableOnly _ _ _ _ _)).changed) rfl
  | peerFreed k =>
    cases ht
    exact working (.ite (fun s => freeDue (peerAt s k) = true) fun s => (freeSlot_tableOnly k s).changed) rfl
  | claimRefresh k f =>
    cases ht
    have refreshed : KeepsOutputs (refreshIfDue (ownKey s k f)) := fun s => by
      unfold refreshIfDue
      split
      · exact .ite (.same rfl) (.refl s)
      · exact .refl s
    exact working refreshed.reporting rfl
  | claimExpired key => cases ht; exact working (keepsOutputs_expireClaim key).reporting rfl
  | delayEnd k => cases ht; exact working (.ite (fun s => delayEnded s k = true) keepsOutputs_evaluateTrips) rfl
  | backupTrip k =>
    cases ht
    refine working (fun s => ?_) rfl
    split
    · exact outputsKept_evaluates.expireBackup _ _ s
    · exact .refl s
  | jammedSet => cases ht; exact working (.ite (fun s => jamDue s = true) keepsOutputs_setJammed) rfl
  | silentSet => cases ht; exact working keepsOutputs_judgeSilent rfl
  | txDone =>
    cases ht
    have completed : KeepsOutputs (fun s => if s.link.sending then completeFrame s else s) :=
      .ite (fun s => s.link.sending = true) keepsOutputs_completeFrame
    exact working (fun s => (completed s).trans (keepsOutputs_clearTimeouts _)) rfl
  | txCompletionTimeout => cases ht; exact working keepsOutputs_completeIfDue rfl
  | backoffEnd => cases ht; exact working (fun s => .of_link (endBackoffIfDue_eq s)) rfl
  | channelBusyChange level =>
    cases ht
    have watched : KeepsOutputs (watchBusy level) := fun s => .ite (.refl s) (.same (by rfl))
    exact .after (watched.whileWorking { s with busyPin := level }) rfl
  | rxStart => cases ht; exact working (.ite (fun s => s.link.receiverEnable = true) fun _ => .same (by rfl)) rfl
  | receptionTimeout => cases ht; exact working keepsOutputs_endReceptionIfDue rfl
  | reportReceived frame => cases ht; exact working (keepsOutputs_deliver 1 keepsOutputs_takeReport frame) rfl
  | alertReceived frame => cases ht; exact working (keepsOutputs_deliver 2 keepsOutputs_takeAlert frame) rfl
  | claimReceived frame => cases ht; exact working (keepsOutputs_deliver 3 keepsOutputs_takeClaimFrame frame) rfl
  | releaseReceived frame => cases ht; exact working (keepsOutputs_deliver 4 keepsOutputs_takeReleaseFrame frame) rfl
  | trippedReceived frame => cases ht; exact working (keepsOutputs_deliver 5 keepsOutputs_takeTripped frame) rfl
  | receivedFrameDropped frame => cases ht; exact working (keepsOutputs_deliver 0 (fun _ _ _ s => .refl s) frame) rfl
  | penChange level => cases ht; exact .ite (.same (by rfl)) ((keepsOutputs_takePen level s).trans (keepsOutputs_settle _))
  | openConfirmChange o level =>
    cases ht
    have set : OutputsKept s (setOpenPin o level s) := by cases o <;> exact .same rfl
    exact .ite set ((set.trans (keepsOutputs_takeOpen o level _)).trans (keepsOutputs_settle _))
  | tripFailed o => cases ht; exact working (keepsOutputs_failIfDue o) rfl

/-- Settles O5: a step with a command waiting by `exec_outputsKept`; one with none moves the timebase or the queue of commands alone. -/
theorem tripOutputInvariant : Obligations.TripOutputInvariant := by
  intro s t ok hstep
  unfold step at hstep
  split at hstep
  · cases hstep
    unfold idle
    split <;> exact ok
  · next c rest _ => exact (exec_outputsKept c (s := { s with pending := rest }) hstep).ordered ok

end Sys2Proof.Machine

/-! The candidate that an entry chooses (R156 to R158), and the order in which the pair list holds the candidates of pairs (R152). -/

namespace Sys2Proof.Machine

/-! ## What satisfies an entry (R156 to R158) -/

section
variable {s : State} {e : LinkageEntry}

theorem inForce_iff {q : Requirement} : InForce s e q ↔ requirementInForce e s.fault.impaired = some q := by
  unfold InForce requirementInForce
  cases s.fault.impaired <;> cases e.degraded <;> simp [eq_comm]

/-- What an entry asks of a candidate, as the statements say it. -/
theorem inScope_iff_of_agrees {c : Candidate} {agrees : Prop} (h : agrees ↔ c.agrees = true) :
    inScope e s.linkage.trips c = true ↔ InScope s e c.key.kind c.span agrees := by
  rw [inScope_iff]
  unfold InScope
  simp only [h, and_assoc, not_exists, not_and]

theorem keyAgrees_iff {rs : List ClaimRecord} {key : ClaimKey} : keyAgrees rs key = true ↔ ∃ r ∈ rs, r.key = key ∧ r.agrees = true := by
  simp [keyAgrees]

theorem pairSatisfies_iff {p : ClaimPair} :
    satisfies s e (pairCandidate s.register.records p) = true ↔ PairSatisfies s e p := by
  have agrees : (∃ r ∈ s.register.records, (r.key = p.upKey ∨ r.key = p.downKey) ∧ r.agrees = true) ↔
      (pairCandidate s.register.records p).agrees = true := by
    simp only [pairCandidate, Bool.or_eq_true, keyAgrees_iff, or_and_right, and_or_left, exists_or]
  have meets : meetsRequirement e (requirementInForce e s.fault.impaired) (pairCandidate s.register.records p) = true ↔
      InForce s e .both ∨ InForce s e .either ∨ InForce s e .delayed := by
    simp only [inForce_iff]
    generalize requirementInForce e s.fault.impaired = q
    rcases q with _ | (_ | _ | _) <;> simp [meetsRequirement, pairCandidate]
  unfold satisfies PairSatisfies
  rw [Bool.and_eq_true, inScope_iff_of_agrees agrees, meets]
  rfl

theorem singleSatisfies_iff {r : ClaimRecord} :
    (r.standing && satisfies s e (singleCandidate r)) = true ↔ SingleSatisfies s e r := by
  have meets : meetsRequirement e (requirementInForce e s.fault.impaired) (singleCandidate r) = true ↔
      InForce s e .either ∨ (InForce s e .delayed ∧ e.delay ≤ r.standingAge) := by
    simp only [inForce_iff]
    generalize requirementInForce e s.fault.impaired = q
    rcases q with _ | (_ | _ | _) <;> simp [meetsRequirement, singleCandidate]
    exact decide_eq_true_iff
  unfold satisfies SingleSatisfies ClaimRecord.standing
  rw [Bool.and_eq_true, Bool.and_eq_true, inScope_iff_of_agrees (c := singleCandidate r) Iff.rfl, meets, decide_eq_true_eq]
  rfl

/-! ## The chosen candidate (R156) -/

/-- The chosen candidate is the first pair's, or with none the first single record's. -/
theorem chosenCandidate_eq : chosenCandidate s e =
    ((s.register.pairs.find? (fun p => satisfies s e (pairCandidate s.register.records p))).map
      (pairCandidate s.register.records)).or
    ((s.register.records.find? (fun r => r.standing && satisfies s e (singleCandidate r))).map singleCandidate) := by
  simp only [chosenCandidate, candidates, List.find?_append, List.find?_map, List.find?_filter, Function.comp_def, Bool.decide_and,
    Bool.decide_eq_true]

theorem find?_pair_eq_none : s.register.pairs.find? (fun p => satisfies s e (pairCandidate s.register.records p)) = none ↔
    ∀ p ∈ s.register.pairs, ¬ PairSatisfies s e p :=
  List.find?_eq_none.trans (forall₂_congr fun _ _ => not_congr pairSatisfies_iff)

theorem find?_single_eq_none : s.register.records.find? (fun r => r.standing && satisfies s e (singleCandidate r)) = none ↔
    ∀ r ∈ s.register.records, ¬ SingleSatisfies s e r :=
  List.find?_eq_none.trans (forall₂_congr fun _ _ => not_congr singleSatisfies_iff)

theorem chosenCandidate_eq_some {c : Candidate} (chosen : chosenCandidate s e = some c) :
    (∃ p, IsFirst (PairSatisfies s e) s.register.pairs p ∧ c = pairCandidate s.register.records p) ∨
    ((∀ p ∈ s.register.pairs, ¬ PairSatisfies s e p) ∧
      ∃ r, IsFirst (SingleSatisfies s e) s.register.records r ∧ c = singleCandidate r) := by
  rw [chosenCandidate_eq, Option.or_eq_some_iff, Option.map_eq_none_iff, find?_pair_eq_none] at chosen
  refine chosen.imp (fun pair => ?_) (And.imp_right fun single => ?_)
  · obtain ⟨p, found, rfl⟩ := Option.map_eq_some_iff.mp pair
    exact ⟨p, (find?_eq_some_iff_isFirst fun _ => pairSatisfies_iff).mp found, rfl⟩
  · obtain ⟨r, found, rfl⟩ := Option.map_eq_some_iff.mp single
    exact ⟨r, (find?_eq_some_iff_isFirst fun _ => singleSatisfies_iff).mp found, rfl⟩

theorem chosenCandidate_eq_none : chosenCandidate s e = none ↔
    (∀ p ∈ s.register.pairs, ¬ PairSatisfies s e p) ∧ ∀ r ∈ s.register.records, ¬ SingleSatisfies s e r := by
  rw [chosenCandidate_eq, Option.or_eq_none_iff, Option.map_eq_none_iff, Option.map_eq_none_iff, find?_pair_eq_none,
    find?_single_eq_none]

end

/-! ## The order of the pair list (R152) -/

/-- Two records of a list in their order, by their keys. -/
theorem sublist_keys_of_pairwise {rs : List ClaimRecord} : rs.Pairwise (fun a b => [a.key, b.key].Sublist (rs.map ClaimRecord.key)) :=
  List.pairwise_iff_forall_sublist.mpr fun sub => sub.map ClaimRecord.key

/-- The pairs stand in register order of their U-end records, and under one of these in that of their D-end ones. -/
theorem pairsOf_ordered (rs : List ClaimRecord) : (pairsOf rs).Pairwise (fun p q =>
    [p.upKey, q.upKey].Sublist (rs.map ClaimRecord.key) ∨
      (p.upKey = q.upKey ∧ [p.downKey, q.downKey].Sublist (rs.map ClaimRecord.key))) := by
  refine List.pairwise_flatMap.mpr ⟨fun u _ => List.pairwise_map.mpr ?_, sublist_keys_of_pairwise.imp fun ordered p hp q hq => ?_⟩
  · exact (sublist_keys_of_pairwise.sublist List.filter_sublist).imp fun ordered => .inr ⟨rfl, ordered⟩
  · obtain ⟨_, -, rfl⟩ := List.mem_map.mp hp
    obtain ⟨_, -, rfl⟩ := List.mem_map.mp hq
    exact .inl ordered

end Sys2Proof.Machine

/-! What a satisfied entry does (R160, R161), said exactly for an entry alone in its table that drives TRIP0, and the commands that bring
it about: a change of PEN, the end of a delay, and a backup timer at its count (R155, R157, R159, R161). -/

namespace Sys2Proof.Machine

/-! ## The runtime state of one entry -/

section
variable {s : State} {k : Nat} {r : EntryRuntime}

theorem runtime_of_get {l : Linkage} (h : l.entries[k]? = some r) : runtime l k = r := by
  simp [runtime, List.getD_eq_getElem?_getD, h]

theorem modifyRuntime_of_get (h : s.linkage.entries[k]? = some r) (f : EntryRuntime → EntryRuntime) :
    modifyRuntime k f s = { s with linkage := { s.linkage with entries := s.linkage.entries.set k (f r) } } := by
  unfold modifyRuntime
  rw [modifyAt_eq_set h]

/-- The runtime state that a change leaves at its index. -/
theorem entries_set_get {l : List EntryRuntime} (h : l[k]? = some r) (x : EntryRuntime) : (l.set k x)[k]? = some x := by
  obtain ⟨inside, -⟩ := List.getElem?_eq_some_iff.mp h
  exact List.getElem?_set_self inside

theorem entries_set_self {l : List EntryRuntime} (h : l[k]? = some r) : l.set k r = l := by
  obtain ⟨inside, rfl⟩ := List.getElem?_eq_some_iff.mp h
  exact List.set_getElem_self inside

end

/-! ## Acting by PEN (R160) -/

section
variable {s : State} {k : Nat} {e : LinkageEntry} {r : EntryRuntime} {x : Span} {ev : State → State}

theorem assertOutput_of_drives {o : Output} (drives : e.drives o = true) (idle : (s.linkage.trip o).state = .idle) :
    assertOutput k e x o s =
      record (setTrip o ⟨.asserted, some k, 0, some e.zone, some x, true⟩ s) .tripIssued (.output o) (some x) (.value k) := by
  unfold assertOutput
  rw [if_pos (by simp [drives, idle])]

theorem assertOutput_of_not_drives {o : Output} (not_drives : e.drives o = false) : assertOutput k e x o s = s := by
  unfold assertOutput
  rw [if_neg (by simp [not_drives])]

theorem confirmAtOnce_of_not_opened {before : TripState} {o : Output} (h : s.linkage.opened o = false) :
    confirmAtOnce ev k before o s = s := by
  unfold confirmAtOnce
  rw [if_neg (by simp [h])]

/-- An output that the entry has not asserted just now is not confirmed with it. -/
theorem confirmAtOnce_of_unmoved {before : TripState} {o : Output} (h : before = (s.linkage.trip o).state) :
    confirmAtOnce ev k before o s = s := by
  unfold confirmAtOnce
  refine if_neg fun due => ?_
  simp only [Bool.and_eq_true, decide_eq_true_eq] at due
  obtain ⟨⟨⟨idle, asserted⟩, -⟩, -⟩ := due
  rw [h, asserted] at idle
  contradiction

theorem confirmAtOnce_neither {b0 b1 : TripState} (closed : s.linkage.opened .trip0 = false)
    (unmoved : b1 = (s.linkage.trip .trip1).state) : confirmAtOnce ev k b1 .trip1 (confirmAtOnce ev k b0 .trip0 s) = s := by
  rw [confirmAtOnce_of_not_opened closed, confirmAtOnce_of_unmoved unmoved]

/-- Without PEN a satisfied entry notes what it would have done, once. -/
theorem actPrimary_of_noted (get : s.linkage.entries[k]? = some r) (pen : s.linkage.pen = false) (noted : r.wouldTrip = true) :
    actPrimary ev k e x s = s := by
  unfold actPrimary
  rw [if_neg (by simp [pen]), runtime_of_get get, if_pos noted]

theorem actPrimary_of_unnoted (get : s.linkage.entries[k]? = some r) (pen : s.linkage.pen = false) (unnoted : r.wouldTrip = false) :
    actPrimary ev k e x s = { s with
      linkage := { s.linkage with entries := s.linkage.entries.set k { r with wouldTrip := true } }
      port := (record s .wouldTrip .absent (some x) (.value k)).port } := by
  unfold actPrimary
  rw [if_neg (by simp [pen]), runtime_of_get get, if_neg (by simp [unnoted]), modifyRuntime_of_get (by exact get)]
  rfl

/-- With PEN, an entry of TRIP0 alone asserts it and is spent. -/
theorem actPrimary_of_pen (get : s.linkage.entries[k]? = some r) (pen : s.linkage.pen = true) (drives : e.trip0 = true)
    (alone : e.trip1 = false) (idle : s.linkage.trip0.state = .idle) (closed : s.linkage.open0 = false) :
    actPrimary ev k e x s = { s with
      linkage := { s.linkage with
        trip0 := ⟨.asserted, some k, 0, some e.zone, some x, true⟩
        entries := s.linkage.entries.set k { r with spent := true } }
      port := (record s .tripIssued (.output .trip0) (some x) (.value k)).port } := by
  unfold actPrimary
  rw [if_pos pen, assertOutput_of_drives (o := .trip0) drives idle, assertOutput_of_not_drives (o := .trip1) alone]
  dsimp only
  rw [modifyRuntime_of_get (by exact get)]
  exact confirmAtOnce_neither (by exact closed) rfl

end

/-! ## An evaluation of a table of one entry (R159) -/

section
variable {s : State} {e : LinkageEntry} {r : EntryRuntime} {ev : State → State}

/-- The nested rounds that an entry's own acts may bring (log 22). -/
def laterRounds : State → State := evaluateRounds 7

theorem evaluateTrips_of_single (run : s.run = .run) (table : s.port.image.entries = [e]) :
    evaluateTrips s = evaluateEntry laterRounds 0 e s := by
  have rounds : evaluateRounds Config.evaluationRounds s = evaluateEntries laterRounds 0 s.port.image.entries s := rfl
  unfold evaluateTrips
  rw [if_pos run, rounds, table]
  rfl

theorem evaluateEntry_of_spent {k : Nat} (get : s.linkage.entries[k]? = some r) (spent : r.spent = true) : evaluateEntry ev k e s = s := by
  unfold evaluateEntry
  rw [runtime_of_get get, if_pos spent]

theorem evaluateEntry_of_primary {k : Nat} {c : Candidate} (get : s.linkage.entries[k]? = some r) (unspent : r.spent = false)
    (role : e.role = .primary) (chosen : chosenCandidate s e = some c) :
    evaluateEntry ev k e s = actPrimary ev k e c.span s := by
  simp only [evaluateEntry, runtime_of_get get, unspent, role, chosen, Bool.false_eq_true, if_false]

end

/-! ## The commands -/

section
variable {s : State} {e : LinkageEntry} {r : EntryRuntime}

/-- A change of PEN, with the evaluation that follows it (R155, R159). -/
theorem exec_penChange (hw : s.working = true) {level : Bool} (change : s.linkage.pen ≠ level) :
    exec (.penChange level) s = .next (settle (evaluateTrips (holdPen level s))) := by
  obtain ⟨awake, -⟩ := Bool.and_eq_true_iff.mp hw
  have awake : s.resetHeld = false := by simpa using awake
  change Host.Outcome.next _ = _
  rw [awake]
  simp only [takePen, change, if_false, Bool.false_eq_true]

/-- The end of a delay, with the evaluation that follows it (R157, R159). -/
theorem exec_delayEnd {k : Fin 8} (hw : s.working = true) (ended : delayEnded s k = true) :
    exec (.delayEnd k) s = .next (settle (evaluateTrips s)) := by
  change Host.Outcome.next _ = _
  rw [whileWorking_of_working hw, if_pos ended]

theorem exec_backupTrip {k : Fin 8} (hw : s.working = true) (entry : s.port.image.entries[k.val]? = some e) :
    exec (.backupTrip k) s = .next (settle (expireBackup k e s)) := by
  change Host.Outcome.next _ = _
  rw [whileWorking_of_working hw]
  simp only [entry]

/-- A command that ends in the re-judging leaves all but the link as its own part did, and the link does only what it does of itself. -/
theorem exists_settled {i : Instr} {u : State} (taken : exec i s = .next (settle u)) (run : u.run ≠ .config) (link : u.link = s.link) :
    ∃ t, exec i s = .next t ∧ t = { u with link := t.link } ∧ LinkSettled s.link t :=
  ⟨settle u, taken, settle_eq u, link ▸ settle_linkSettled run⟩

end

end Sys2Proof.Machine

/-! The statement that a satisfied entry acts by PEN (R156 to R160). -/

namespace Sys2Proof.Machine

section
variable {s : State} {e : LinkageEntry} {c : Candidate} {r : EntryRuntime}

/-- A single record of the asked age ends the delay of an entry that has not spent itself (R157). -/
theorem delayEnded_of_record (table : s.port.image.entries = [e]) (get : s.linkage.entries[0]? = some r) (unspent : r.spent = false)
    (delayed : e.requirement = .delayed) (unimpaired : s.fault.impaired = false)
    (aged : ∃ x ∈ s.register.records, x.status = .standing ∧ inScope e s.linkage.trips (singleCandidate x) = true ∧
      e.delay ≤ x.standingAge) : delayEnded s 0 = true := by
  have inForce : requirementInForce e s.fault.impaired = some .delayed := by rw [unimpaired, ← delayed]; rfl
  simp only [delayEnded, table, List.getElem?_cons_zero, runtime_of_get get, unspent, inForce, Bool.not_false, decide_true,
    Bool.true_and, List.any_eq_true, Bool.and_eq_true, decide_eq_true_eq, ClaimRecord.standing]
  obtain ⟨x, mem, standing, scope, age⟩ := aged
  exact ⟨x, mem, ⟨standing, scope⟩, age⟩

/-- The evaluation of a PRIMARY entry alone in its table, on its chosen candidate. -/
theorem evaluateTrips_of_primary (run : s.run = .run) (table : s.port.image.entries = [e]) (role : e.role = .primary)
    (get : s.linkage.entries[0]? = some r) (unspent : r.spent = false) (chosen : chosenCandidate s e = some c) :
    evaluateTrips s = actPrimary laterRounds 0 e c.span s :=
  (evaluateTrips_of_single run table).trans (evaluateEntry_of_primary get unspent role chosen)

end

/-- Settles O57: the acts by PEN on the chosen candidate, what the chosen candidate is, and the order of the pair list. -/
theorem satisfiedEntryActsByPen : Obligations.SatisfiedEntryActsByPen := by
  unfold Obligations.SatisfiedEntryActsByPen
  refine ⟨fun e c r s hw run table role drives alone get unspent idle closed chosen => ?_, fun s e => ?_, fun rs _ => pairsOf_ordered rs⟩
  · have acts : ∀ level, evaluateTrips (holdPen level s) = actPrimary laterRounds 0 e c.span (holdPen level s) := fun level =>
      evaluateTrips_of_primary run table role get unspent chosen
    refine ⟨fun pen => ?_, fun pen delayed unimpaired aged => ?_, fun pen => ?_⟩
    · have taken := exec_penChange hw (level := true) (by simp [pen])
      rw [acts, actPrimary_of_pen (s := holdPen true s) get rfl drives alone idle closed] at taken
      exact exists_settled taken (State.working_run hw) rfl
    · have taken := exec_delayEnd (k := 0) hw (delayEnded_of_record table get unspent delayed unimpaired aged)
      rw [evaluateTrips_of_primary run table role get unspent chosen, actPrimary_of_pen get pen drives alone idle closed] at taken
      obtain ⟨t, next, left, settled⟩ := exists_settled taken (State.working_run hw) rfl
      exact ⟨t, next, by simpa only [pen] using left, settled⟩
    · have taken := exec_penChange hw (level := false) (by simp [pen])
      rw [acts] at taken
      cases noted : r.wouldTrip
      · rw [actPrimary_of_unnoted (s := holdPen false s) get rfl noted] at taken
        obtain ⟨t, next, left, settled⟩ := exists_settled taken (State.working_run hw) rfl
        exact ⟨t, next, by rw [left]; rfl, settled, by rw [left]; rfl, nofun, fun _ => by rw [left]; rfl⟩
      · rw [actPrimary_of_noted (s := holdPen false s) get rfl noted] at taken
        obtain ⟨t, next, left, settled⟩ := exists_settled taken (State.working_run hw) rfl
        refine ⟨t, next, by rw [left]; rfl, settled, ?_, fun _ => by rw [left]; rfl, nofun⟩
        rw [left, ← noted, entries_set_self get]
        rfl
  · refine ⟨fun c chosen => (chosenCandidate_eq_some chosen).imp ?_ (And.imp_right ?_), chosenCandidate_eq_none.mp⟩
    · rintro ⟨p, first, rfl⟩
      exact ⟨p, first, rfl, rfl, rfl⟩
    · rintro ⟨r, first, rfl⟩
      exact ⟨r, first, rfl, rfl, rfl⟩

end Sys2Proof.Machine

/-! What a TRIPPED does to the backup timers, exactly (R162). -/

namespace Sys2Proof.Machine

/-! ## One entry's runtime state under a TRIPPED -/

/-- The runtime state of an entry that a TRIPPED leaves: a timer within its zone is cancelled by SUCCESS and expired by FAILED. -/
def timerTaken (c : TrippedContent) (r : EntryRuntime) : EntryRuntime :=
  match r.timer.candidate with
  | none => r
  | some x =>
    if x.span.within c.zone then
      match c.result with
      | .success => { r with timer := .off }
      | .failed => { r with timer := .expired x }
    else r

section
variable {c : TrippedContent} {r : EntryRuntime}

theorem timerTaken_of_outside (outside : ∀ x, r.timer.candidate = some x → ¬ InZone c.zone x.span) : timerTaken c r = r := by
  unfold timerTaken
  split
  · rfl
  · next x found => rw [if_neg (mt within_iff.mp (outside x found))]

theorem timerTaken_of_success {x : TimerCandidate} (found : r.timer.candidate = some x) (inside : InZone c.zone x.span)
    (success : c.result = .success) : timerTaken c r = { r with timer := .off } := by
  simp [timerTaken, found, within_iff.mpr inside, success]

theorem timerTaken_of_failed {x : TimerCandidate} (found : r.timer.candidate = some x) (inside : InZone c.zone x.span)
    (failed : c.result = .failed) : timerTaken c r = { r with timer := .expired x } := by
  simp [timerTaken, found, within_iff.mpr inside, failed]

end

theorem modifyAt_getElem?_self {α : Type} (f : α → α) (k : Nat) (l : List α) : (modifyAt f k l)[k]? = l[k]?.map f := by
  cases found : l[k]? with
  | none => rw [modifyAt_eq_self found, found]; rfl
  | some a =>
    rw [modifyAt_eq_set found]
    exact List.getElem?_set_self (List.getElem?_eq_some_iff.mp found).1

/-! ## A timer's turn -/

section
variable {c : TrippedContent} {k : Nat} {s : State}

/-- A timer's turn changes its own runtime state, and brings at most one event. -/
theorem timerByTripped_eq (c : TrippedContent) (k : Nat) (s : State) : timerByTripped c k s = { s with
    linkage := { s.linkage with entries := modifyAt (timerTaken c) k s.linkage.entries }, port := (timerByTripped c k s).port } := by
  cases found : s.linkage.entries[k]? with
  | none =>
    have off : runtime s.linkage k = Init.entryRuntime := by simp [runtime, found]
    rw [modifyAt_eq_self found, timerByTripped, off]
    rfl
  | some r =>
    have change : ∀ f, modifyRuntime k f s = { s with linkage := { s.linkage with entries := s.linkage.entries.set k (f r) } } :=
      modifyRuntime_of_get found
    rw [modifyAt_eq_set found, timerByTripped, runtime_of_get found]
    rcases r with ⟨spent, noted, _ | ⟨n, x⟩ | x⟩
    · simp [timerTaken, BackupTimer.candidate, entries_set_self found]
    · cases inside : x.span.within c.zone <;> cases result : c.result <;>
        simp [timerTaken, BackupTimer.candidate, inside, result, change, recordBackupTrip, entries_set_self found]
      rfl
    · cases inside : x.span.within c.zone <;> cases result : c.result <;>
        simp [timerTaken, BackupTimer.candidate, inside, result, change, entries_set_self found]

/-- A RUNNING timer within the zone of a FAILED expires with BACKUP_TRIP. -/
theorem timerByTripped_tells {r : EntryRuntime} {n : Nat} {x : TimerCandidate} (found : s.linkage.entries[k]? = some r)
    (running : r.timer = .running n x) (inside : InZone c.zone x.span) (failed : c.result = .failed) :
    ∃ e, Recent 0 e (timerByTripped c k s) ∧ e.kind = .backupTrip ∧ e.subject = .absent ∧ e.span = some x.span ∧ e.detail = .value k := by
  have expired : timerByTripped c k s = recordBackupTrip k x (modifyRuntime k (fun r => { r with timer := .expired x }) s) := by
    simp only [timerByTripped, runtime_of_get found, running, within_iff.mpr inside, failed, if_true]
  rw [expired]
  exact record_recent _ _ _ _ _

end

/-! ## The timers in their order -/

/-- The timers of some entries, one after the other. -/
def timersInTurn (c : TrippedContent) (ks : List Nat) (s : State) : State := ks.foldl (fun s k => timerByTripped c k s) s

/-- The runtime states once some entries' timers have had their turn. -/
def timersTaken (c : TrippedContent) (ks : List Nat) (l : List EntryRuntime) : List EntryRuntime :=
  ks.foldl (fun l k => modifyAt (timerTaken c) k l) l

theorem timersByTripped_inTurn (c : TrippedContent) (s : State) : timersByTripped c s = timersInTurn c (List.range 8) s := rfl

section
variable {c : TrippedContent} {ks : List Nat} {l : List EntryRuntime} {k : Nat}

theorem timersTaken_length (c : TrippedContent) (ks : List Nat) (l : List EntryRuntime) : (timersTaken c ks l).length = l.length := by
  induction ks generalizing l with
  | nil => rfl
  | cons j ks ih => exact (ih _).trans (modifyAt_length _ j l)

theorem timersTaken_of_not_mem (other : k ∉ ks) : (timersTaken c ks l)[k]? = l[k]? := by
  induction ks generalizing l with
  | nil => rfl
  | cons j ks ih =>
    obtain ⟨ne, later⟩ := not_or.mp (mt List.mem_cons.mpr other)
    exact (ih later).trans (modifyAt_getElem?_ne l ne)

theorem timersTaken_of_mem (once : ks.Nodup) (mem : k ∈ ks) : (timersTaken c ks l)[k]? = l[k]?.map (timerTaken c) := by
  induction ks generalizing l with
  | nil => cases mem
  | cons j ks ih =>
    obtain ⟨fresh, once⟩ := List.nodup_cons.mp once
    rcases List.mem_cons.mp mem with rfl | later
    · exact (timersTaken_of_not_mem fresh).trans (modifyAt_getElem?_self _ _ _)
    · refine (ih once later).trans (congrArg _ (modifyAt_getElem?_ne l ?_))
      rintro rfl
      exact fresh later

theorem timersInTurn_eq (c : TrippedContent) (ks : List Nat) (s : State) : timersInTurn c ks s = { s with
    linkage := { s.linkage with entries := timersTaken c ks s.linkage.entries }, port := (timersInTurn c ks s).port } := by
  induction ks generalizing s with
  | nil => rfl
  | cons k ks ih =>
    have rest := ih (timerByTripped c k s)
    have unfolded : timersInTurn c (k :: ks) s = timersInTurn c ks (timerByTripped c k s) := rfl
    rw [unfolded]
    generalize timersInTurn c ks (timerByTripped c k s) = t at rest ⊢
    rw [timerByTripped_eq] at rest
    exact rest

/-- An event outlasts the turns of few timers. -/
theorem Recent.timersInTurn {n : Nat} {e : Event} {s : State} (h : Recent n e s) (c : TrippedContent) (ks : List Nat)
    (room : n + ks.length ≤ 31) : Recent (n + ks.length) e (timersInTurn c ks s) := by
  induction ks generalizing n s with
  | nil => exact h
  | cons k ks ih =>
    rw [List.length_cons] at room ⊢
    exact (ih ((timerByTripped_onlyTimers c k s).2 h (by omega)) (by omega)).mono (by omega)

end

section
variable {c : TrippedContent} {s : State} {k : Nat} {r : EntryRuntime}

theorem timersByTripped_eq (c : TrippedContent) (s : State) : timersByTripped c s = { s with
    linkage := { s.linkage with entries := timersTaken c (List.range 8) s.linkage.entries }, port := (timersByTripped c s).port } :=
  timersInTurn_eq c _ s

theorem timersByTripped_entries (c : TrippedContent) (s : State) :
    (timersByTripped c s).linkage.entries = timersTaken c (List.range 8) s.linkage.entries :=
  congrArg (fun t => t.linkage.entries) (timersByTripped_eq c s)

/-- Each of the eight entries' timers is taken once. -/
theorem timersByTripped_get (few : k < 8) (found : s.linkage.entries[k]? = some r) :
    (timersByTripped c s).linkage.entries[k]? = some (timerTaken c r) := by
  rw [timersByTripped_entries, timersTaken_of_mem List.nodup_range (List.mem_range.mpr few), found]
  rfl

/-- BACKUP_TRIP outlasts the other timers' turns. -/
theorem timersByTripped_tells {n : Nat} {x : TimerCandidate} (few : k < 8) (found : s.linkage.entries[k]? = some r)
    (running : r.timer = .running n x) (inside : InZone c.zone x.span) (failed : c.result = .failed) :
    ∃ e, Recent 7 e (timersByTripped c s) ∧ e.kind = .backupTrip ∧ e.span = some x.span ∧ e.detail = .value k := by
  obtain ⟨before, after, split⟩ := List.append_of_mem (List.mem_range.mpr few)
  have once : k ∉ before := by
    have nodup := split ▸ List.nodup_range (n := 8)
    exact fun mem => (List.nodup_append.mp nodup).2.2 k mem k List.mem_cons_self rfl
  have length : after.length ≤ 7 := by
    have total := congrArg List.length split
    simp only [List.length_range, List.length_append, List.length_cons] at total
    omega
  have turns : timersByTripped c s = timersInTurn c after (timerByTripped c k (timersInTurn c before s)) := by
    rw [timersByTripped_inTurn, split, timersInTurn, List.foldl_append]
    rfl
  have still : (timersInTurn c before s).linkage.entries[k]? = some r := by
    rw [timersInTurn_eq]
    exact (timersTaken_of_not_mem once).trans found
  obtain ⟨e, recent, kind, -, span, detail⟩ := timerByTripped_tells still running inside failed
  refine ⟨e, ?_, kind, span, detail⟩
  rw [turns]
  exact (recent.timersInTurn c after (by omega)).mono (by omega)

end

end Sys2Proof.Machine

/-! A trip that ends, CONFIRMED or FAILED, and its TRIPPED offered (R164 to R166): what stands before the evaluation that follows, and what that
evaluation leaves of it. -/

namespace Sys2Proof.Machine

/-! ## The other output, the inputs taken -/

def otherOutput : Output → Output
  | .trip0 => .trip1
  | .trip1 => .trip0

theorem eq_or_otherOutput (o o' : Output) : o' = o ∨ o' = otherOutput o := by
  cases o <;> cases o' <;> simp [otherOutput]

theorem otherOutput_ne (o : Output) : otherOutput o ≠ o := by
  cases o <;> simp [otherOutput]

theorem setTrip_other (o : Output) (r : TripRecord) (s : State) : (setTrip o r s).linkage.trip (otherOutput o) = s.linkage.trip (otherOutput o) := by
  cases o <;> rfl

theorem setTrip_opened (o o' : Output) (r : TripRecord) (s : State) : (setTrip o r s).linkage.opened o' = s.linkage.opened o' := by
  cases o <;> cases o' <;> rfl

/-! ## A TRIPPED offered (R166) -/

/-- A TRIPPED series queued, listed, and acting on the timers: the offer before the register's part. -/
def offering (c : TrippedContent) (s : State) : State :=
  timersByTripped c (takeIntoTripList s.port.image.stationId c (offerSeries (.tripped c) s))

theorem offering_eq (c : TrippedContent) (s : State) : offering c s = { s with
    link := (offerSeries (.tripped c) s).link
    linkage := { s.linkage with
      entries := timersTaken c (List.range 8) s.linkage.entries
      trips := tripListTake s.port.image.stationId c s.linkage.trips }
    port := (offering c s).port } :=
  timersByTripped_eq c _

theorem keeps_offering (c : TrippedContent) : Keeps (offering c) := fun s =>
  ((keeps_offerSeries (.tripped c) s).trans (keeps_takeIntoTripList _ _ _)).trans (keeps_timersByTripped _ _)

/-- An event just recorded outlasts the timers' own. -/
theorem Recent.offering {e : Event} {s : State} (h : Recent 0 e s) (c : TrippedContent) : Recent 8 e (offering c s) := by
  have listed : Recent 0 e (takeIntoTripList s.port.image.stationId c (offerSeries (.tripped c) s)) := h.congr rfl
  exact (timersByTripped_onlyTimers c _).2 listed

/-- A trip ended by its result, with the event that says so (R164, R165). -/
def tripEnded (result : TripResult) (o : Output) (s : State) : State :=
  let r := s.linkage.trip o
  match result with
  | .success => record (setTrip o { r with state := .confirmed, driven := false } s) .tripConfirmed (.output o) r.span (.value r.timer)
  | .failed => record (setTrip o { r with state := .failed, driven := false } s) .tripFailed (.output o) r.span
      (match r.entry with | some k => .value k | none => .absent)

/-- The state that a result ends a trip in. -/
def endState : TripResult → TripState
  | .success => .confirmed
  | .failed => .failed

/-- A trip ended and its TRIPPED offered, before the register's part. -/
def tripOffered (result : TripResult) (o : Output) (s : State) : State :=
  offering (trippedOf result o (s.linkage.trip o)) (tripEnded result o s)

/-- And the zone covered: the state that the evaluation meets. -/
def tripCovered (result : TripResult) (o : Output) (s : State) : State :=
  coverZone (trippedOf result o (s.linkage.trip o)) (tripOffered result o s)

theorem confirmTrip_eq (ev : State → State) (o : Output) (s : State) : confirmTrip ev o s = ev (tripCovered .success o s) := rfl

theorem failTrip_eq (ev : State → State) (o : Output) (s : State) : failTrip ev o s = ev (tripCovered .failed o s) := rfl

section
variable (result : TripResult) (o : Output) (s : State)

/-- An ended trip touches its record and the port alone. -/
theorem tripEnded_eq : tripEnded result o s = { setTrip o { s.linkage.trip o with state := endState result, driven := false } s with
    port := (tripEnded result o s).port } := by
  cases result <;> rfl

theorem keeps_tripEnded : Within s (tripEnded result o s) := by
  have taken := keeps_setTrip o (fun s => { s.linkage.trip o with state := endState result, driven := false }) s
  cases result with
  | success => exact taken.trans (keeps_record .tripConfirmed _ _ _ _)
  | failed => exact taken.trans (keeps_record .tripFailed _ _ _ _)

theorem keeps_tripOffered : Within s (tripOffered result o s) :=
  (keeps_tripEnded result o s).trans (keeps_offering _ _)

theorem keeps_tripCovered : Within s (tripCovered result o s) := (keeps_tripOffered result o s).trans (keeps_coverZone _ _)

theorem tripOffered_detector : (tripOffered result o s).detector = s.detector := by
  rw [tripOffered, offering_eq, tripEnded_eq]
  simp

theorem tripOffered_register : (tripOffered result o s).register = s.register := by
  rw [tripOffered, offering_eq, tripEnded_eq]
  simp

theorem tripOffered_trip : (tripOffered result o s).linkage.trip o =
    { s.linkage.trip o with state := endState result, driven := false } := by
  rw [tripOffered, offering_eq, tripEnded_eq]
  exact setTrip_trip s o _

theorem tripOffered_other : (tripOffered result o s).linkage.trip (otherOutput o) = s.linkage.trip (otherOutput o) := by
  rw [tripOffered, offering_eq, tripEnded_eq]
  exact setTrip_other o _ s

theorem tripOffered_opened (o' : Output) : (tripOffered result o s).linkage.opened o' = s.linkage.opened o' := by
  rw [tripOffered, offering_eq, tripEnded_eq]
  exact setTrip_opened o o' _ s

theorem tripOffered_queue : (tripOffered result o s).link.queue =
    (offerSeries (.tripped (trippedOf result o (s.linkage.trip o))) (tripEnded result o s)).link.queue := by
  rw [tripOffered, offering_eq]

/-- The whole series is queued (R166). -/
theorem tripOffered_offers : ∃ q ∈ (tripOffered result o s).link.queue,
    q.item = .tripped (trippedOf result o (s.linkage.trip o)) ∧ q.remaining = s.port.image.repeats + 1 := by
  obtain ⟨q, mem, item, remaining, -⟩ := offerSeries_offers (.tripped (trippedOf result o (s.linkage.trip o))) (tripEnded result o s)
  exact ⟨q, by rwa [tripOffered_queue], item, by rw [remaining, (keeps_tripEnded result o s).coreKept.image]⟩

/-- The other output's series stands as it stood. -/
theorem tripOffered_mem_queue {q : QueueEntry} (mem : q ∈ s.link.queue) (other : q.subject = .tripped (otherOutput o)) :
    q ∈ (tripOffered result o s).link.queue := by
  have ne : q.subject ≠ (QueueItem.tripped (trippedOf result o (s.linkage.trip o))).subject := by
    rw [other]
    simpa [QueueItem.subject, trippedOf] using otherOutput_ne o
  have old : (tripEnded result o s).link = s.link := by
    rw [tripEnded_eq]
    exact setTrip_link s o _
  have stays : q ∈ (tripEnded result o s).link.queue.filter
      (fun e => e.subject ≠ (QueueItem.tripped (trippedOf result o (s.linkage.trip o))).subject) :=
    List.mem_filter.mpr ⟨old ▸ mem, decide_eq_true ne⟩
  rw [← offerSeries_others] at stays
  rw [tripOffered_queue]
  exact (List.mem_filter.mp stays).1

/-- The event of the trip's end outlasts the timers' own. -/
theorem tripOffered_tells : ∃ e, Recent 8 e (tripOffered result o s) ∧ e.subject = .output o ∧ e.span = (s.linkage.trip o).span ∧
    (result = .success → e.kind = .tripConfirmed ∧ e.detail = .value (s.linkage.trip o).timer) ∧
    (result = .failed → e.kind = .tripFailed ∧ e.detail = match (s.linkage.trip o).entry with | some k => .value k | none => .absent) := by
  have told : ∃ e, Recent 0 e (tripEnded result o s) ∧ e.subject = .output o ∧ e.span = (s.linkage.trip o).span ∧
      (result = .success → e.kind = .tripConfirmed ∧ e.detail = .value (s.linkage.trip o).timer) ∧
      (result = .failed → e.kind = .tripFailed ∧
        e.detail = match (s.linkage.trip o).entry with | some k => .value k | none => .absent) := by
    cases result with
    | success =>
      obtain ⟨e, recent, kind, subject, span, detail⟩ := record_recent (setTrip o { s.linkage.trip o with
        state := .confirmed, driven := false } s) .tripConfirmed (.output o) (s.linkage.trip o).span (.value (s.linkage.trip o).timer)
      exact ⟨e, recent, subject, span, fun _ => ⟨kind, detail⟩, nofun⟩
    | failed =>
      obtain ⟨e, recent, kind, subject, span, detail⟩ := record_recent (setTrip o { s.linkage.trip o with
        state := .failed, driven := false } s) .tripFailed (.output o) (s.linkage.trip o).span
        (match (s.linkage.trip o).entry with | some k => .value k | none => .absent)
      exact ⟨e, recent, subject, span, nofun, fun _ => ⟨kind, detail⟩⟩
  obtain ⟨e, recent, tells⟩ := told
  exact ⟨e, recent.offering _, tells⟩

end

/-! ## The TRIPPED series and the records -/

section
variable {s : State} {q : QueueEntry} {o : Output}

/-- No record holds a TRIPPED series. -/
theorem withdrawAll_mem_queue {rs : List ClaimRecord} (mem : q ∈ s.link.queue) (tripped : q.subject = .tripped o) :
    q ∈ (withdrawAll rs s).link.queue := by
  induction rs generalizing s with
  | nil => exact mem
  | cons r rs ih =>
    refine ih ?_
    split
    · exact List.mem_filter.mpr ⟨mem, by simp [tripped]⟩
    · exact mem

theorem coverRecords_mem_queue {p : ClaimRecord → Bool} (mem : q ∈ s.link.queue) (tripped : q.subject = .tripped o) :
    q ∈ (coverRecords p s).link.queue := by
  unfold coverRecords
  dsimp only
  split
  · rw [rejudgePairs_eq]
    exact withdrawAll_mem_queue mem tripped
  · exact mem

theorem coverZone_mem_queue {c : TrippedContent} (mem : q ∈ s.link.queue) (tripped : q.subject = .tripped o) :
    q ∈ (coverZone c s).link.queue := by
  have covered : q ∈ (coverRecords (fun r => r.span.within c.zone) s).link.queue := coverRecords_mem_queue mem tripped
  unfold coverZone
  split
  · exact mem
  · dsimp only
    split
    · exact testCloseOnChange_mem_queue covered fun _ _ _ _ => by simp [tripped]
    · exact covered

theorem tripCovered_mem_queue {result : TripResult} {o' : Output} (mem : q ∈ (tripOffered result o' s).link.queue)
    (tripped : q.subject = .tripped o) : q ∈ (tripCovered result o' s).link.queue := by
  unfold tripCovered
  exact coverZone_mem_queue mem tripped

end

/-! ## What an evaluation can bring to stand, and to close (R47, R148) -/

/-- Every record that stands in `t` stood in `s`. -/
def StandingKept (s t : State) : Prop := ∀ r ∈ bareRecords t, r.status = .standing → r ∈ bareRecords s

theorem StandingKept.trans {s t u : State} (h : StandingKept s t) (k : StandingKept t u) : StandingKept s u :=
  fun r hr standing => h r (k r hr standing) standing

theorem StandingKept.of_register {s t : State} (h : t.register = s.register) : StandingKept s t := by
  unfold StandingKept bareRecords
  rw [h]
  exact fun r hr _ => hr

theorem coverZone_standingKept (c : TrippedContent) (s : State) : StandingKept s (coverZone c s) := by
  cases result : c.result with
  | success => exact fun r hr standing => (coverZone_standing result hr standing).1
  | failed => rw [coverZone_of_failed result]; exact .of_register rfl

theorem tripCovered_standingKept (result : TripResult) (o : Output) (s : State) : StandingKept s (tripCovered result o s) :=
  (StandingKept.of_register (tripOffered_register result o s)).trans (coverZone_standingKept _ _)

theorem standingKept_evaluates : Evaluates StandingKept where
  refl _ := .of_register rfl
  trans := .trans
  event _ _ _ _ _ := .of_register rfl
  runtime _ _ _ := .of_register rfl
  assert _ _ _ o _ _ _ := by cases o <;> exact .of_register rfl
  confirm ev o s keeps hev run _ _ :=
    (tripCovered_standingKept .success o s).trans (hev _ ((keeps_tripCovered .success o s).run.trans run))

/-- The settle counter stands full in DISTURBED with own records standing: covering the last of them would close the disturbance. -/
def CanClose (s : State) : Prop :=
  s.detector.assessment = .disturbed ∧ s.port.image.settleCount ≤ s.detector.settle ∧ ∃ r ∈ s.register.records, r.own = true ∧ r.status = .standing

theorem Closable.canClose {c : TrippedContent} {s : State} (h : Closable c s) : CanClose s := by
  obtain ⟨disturbed, full, r, hr, own, standing, -⟩ := h
  exact ⟨disturbed, full, r, hr, own, standing⟩

theorem CanClose.of_kept {s t : State} (h : CanClose t) (detector : t.detector = s.detector) (image : t.port.image = s.port.image)
    (kept : StandingKept s t) : CanClose s := by
  obtain ⟨disturbed, full, r, hr, own, standing⟩ := h
  obtain ⟨x, hx, same⟩ := List.mem_map.mp (kept r.bare (List.mem_map_of_mem hr) standing)
  refine ⟨detector ▸ disturbed, by rwa [← detector, ← image], x, hx, ?_, ?_⟩
  · exact (congrArg ClaimRecord.own same).trans own
  · exact (congrArg ClaimRecord.status same).trans standing

/-- Where no close is possible a trip's end brings none. -/
theorem tripCovered_of_cannot {result : TripResult} {o : Output} {s : State} (cannot : ¬ CanClose s) :
    OnlyClaims (tripOffered result o s) (tripCovered result o s) ∧ ¬ CanClose (tripCovered result o s) := by
  have offered : ¬ CanClose (tripOffered result o s) := fun can => cannot (can.of_kept (tripOffered_detector result o s)
    (keeps_tripOffered result o s).coreKept.image (.of_register (tripOffered_register result o s)))
  have claims := coverZone_of_unclosing (c := trippedOf result o (s.linkage.trip o)) (.inr fun closable => offered closable.canClose)
  exact ⟨claims, fun can => offered (can.of_kept claims.detector (keeps_coverZone _ _).coreKept.image (coverZone_standingKept _ _))⟩

/-! ## What an evaluation leaves of an ended trip -/

/-- Out of DISTURBED an evaluation leaves the Detector. -/
def CalmKept (s t : State) : Prop := s.detector.assessment ≠ .disturbed → t.detector = s.detector

theorem CalmKept.trans {s t u : State} (h : CalmKept s t) (k : CalmKept t u) : CalmKept s u := fun calm =>
  (k ((congrArg Detector.assessment (h calm)).trans_ne calm)).trans (h calm)

theorem calmKept_evaluates : Evaluates CalmKept where
  refl _ := fun _ => rfl
  trans := .trans
  event _ _ _ _ _ := fun _ => rfl
  runtime _ _ _ := fun _ => rfl
  assert _ _ _ o _ _ _ := fun _ => setTrip_detector _ o _
  confirm ev o s keeps hev run _ _ := by
    have covered : CalmKept s (tripCovered .success o s) := fun calm => by
      rw [(tripCovered_of_cannot fun can => calm can.1).1.detector, tripOffered_detector]
    exact covered.trans (hev _ ((keeps_tripCovered .success o s).run.trans run))

/-- A trip has ended, and nothing that an evaluation does can end the disturbance: it cannot close, or the other output's
open-confirm input is not asserted. -/
def Ended (o : Output) (s : State) : Prop :=
  ((s.linkage.trip o).state = .confirmed ∨ (s.linkage.trip o).state = .failed) ∧ (¬ CanClose s ∨ s.linkage.opened (otherOutput o) = false)

/-- An ended trip stays as it is, with its series. -/
def EndedKept (o : Output) (s t : State) : Prop :=
  Ended o s → Ended o t ∧ t.linkage.trip o = s.linkage.trip o ∧ ∀ q ∈ s.link.queue, q.subject = .tripped o → q ∈ t.link.queue

theorem EndedKept.trans {o : Output} {s t u : State} (h : EndedKept o s t) (k : EndedKept o t u) : EndedKept o s u := fun ended => by
  obtain ⟨ended', trip, queue⟩ := h ended
  obtain ⟨ended'', trip', queue'⟩ := k ended'
  exact ⟨ended'', trip'.trans trip, fun q hq tripped => queue' q (queue q hq tripped) tripped⟩

/-- A change of the Linkage and the port that leaves the trip and the inputs. -/
theorem EndedKept.of_linkage {o : Output} {s t : State} (trip : t.linkage.trip o = s.linkage.trip o)
    (opened : t.linkage.opened (otherOutput o) = s.linkage.opened (otherOutput o)) (detector : t.detector = s.detector)
    (image : t.port.image = s.port.image) (register : t.register = s.register) (link : t.link = s.link) : EndedKept o s t := by
  rintro ⟨state, alone⟩
  refine ⟨⟨trip ▸ state, alone.imp (fun cannot can => ?_) fun closed => opened.trans closed⟩, trip, fun q hq _ => link ▸ hq⟩
  exact cannot (can.of_kept detector image (.of_register register))

/-- The other trip's end leaves an ended trip, with its series. -/
theorem EndedKept.of_tripCovered {o : Output} {s : State} (result : TripResult) (opened : s.linkage.opened (otherOutput o) = true) :
    EndedKept o s (tripCovered result (otherOutput o) s) := by
  rintro ⟨state, alone⟩
  have cannot : ¬ CanClose s := alone.resolve_right (by simp [opened])
  obtain ⟨claims, still⟩ := tripCovered_of_cannot (result := result) (o := otherOutput o) cannot
  have back : otherOutput (otherOutput o) = o := by cases o <;> rfl
  have other := tripOffered_other result (otherOutput o) s
  rw [back] at other
  have trip : (tripCovered result (otherOutput o) s).linkage.trip o = s.linkage.trip o := by
    rw [claims.linkage, other]
  refine ⟨⟨by rwa [trip], .inl still⟩, trip, fun q hq tripped => tripCovered_mem_queue ?_ tripped⟩
  exact tripOffered_mem_queue result (otherOutput o) s hq (by rw [back, tripped])

theorem endedKept_evaluates (o : Output) : Evaluates (EndedKept o) where
  refl _ := fun ended => ⟨ended, rfl, fun _ hq _ => hq⟩
  trans := .trans
  event _ _ _ _ _ := .of_linkage rfl rfl rfl rfl rfl rfl
  runtime _ _ _ := .of_linkage (by cases o <;> rfl) (by cases o <;> rfl) rfl rfl rfl rfl
  assert k z x o' s _ idle := by
    rcases eq_or_otherOutput o o' with rfl | rfl
    · exact fun ended => by simp [Ended, idle] at ended
    · exact .of_linkage (by cases o <;> rfl) (by cases o <;> rfl) (by simp) (by simp) (by simp) (by simp)
  confirm ev o' s keeps hev run asserted opened := by
    rcases eq_or_otherOutput o o' with rfl | rfl
    · exact fun ended => by simp [Ended, asserted] at ended
    · exact (EndedKept.of_tripCovered .success opened).trans (hev _ ((keeps_tripCovered .success (otherOutput o) s).run.trans run))

end Sys2Proof.Machine

/-! The statement that an ASSERTED trip ends CONFIRMED or FAILED (R164 to R166, R47, R168). -/

namespace Sys2Proof.Machine

/-! ## The commands -/

/-- An open-confirm level taken by the input and held by the Linkage (R155). -/
def openTaken (o : Output) (level : Bool) (s : State) : State := holdOpen o level (setOpenPin o level s)

section
variable {o : Output} {s : State}

theorem exec_openConfirm (hw : s.working = true) (run : s.run = .run) (asserted : (s.linkage.trip o).state = .asserted) :
    exec (.openConfirmChange o true) s = .next (settle (evaluateTrips (tripCovered .success o (openTaken o true s)))) := by
  obtain ⟨awake, -⟩ := Bool.and_eq_true_iff.mp hw
  have awake : s.resetHeld = false := by simpa using awake
  have due : (openTaken o true s).run = .run ∧ ((openTaken o true s).linkage.trip o).state = .asserted := by
    cases o <;> exact ⟨run, asserted⟩
  have confirmed : takeOpen o true (setOpenPin o true s) = confirmTrip evaluateTrips o (openTaken o true s) :=
    if_pos (by simpa [openTaken] using due)
  change Host.Outcome.next _ = _
  rw [awake, if_neg (by simp), confirmed, confirmTrip_eq]

theorem exec_openReleased (hw : s.working = true) : exec (.openConfirmChange o false) s = .next (settle (openTaken o false s)) := by
  obtain ⟨awake, -⟩ := Bool.and_eq_true_iff.mp hw
  have awake : s.resetHeld = false := by simpa using awake
  change Host.Outcome.next _ = _
  rw [awake]
  rfl

theorem exec_tripFailed (hw : s.working = true) : exec (.tripFailed o) s = .next (settle (failIfDue o s)) := next_whileWorking hw _

theorem failIfDue_of_due (asserted : (s.linkage.trip o).state = .asserted)
    (due : s.port.image.confirmTimeout ≤ (s.linkage.trip o).timer) : failIfDue o s = evaluateTrips (tripCovered .failed o s) := by
  unfold failIfDue
  rw [if_pos (by simp [failDue, asserted, due]), failTrip_eq]

theorem failIfDue_of_young (young : (s.linkage.trip o).timer < s.port.image.confirmTimeout) : failIfDue o s = s :=
  if_neg (by simp [failDue, young])

end

/-! ## A trip's end through the evaluation that follows -/

section
variable {result : TripResult} {o : Output} {s : State} {z : Zone} {x : Span}

/-- The TRIPPED of a trip with its zone and span. -/
theorem trippedOf_eq (zone : (s.linkage.trip o).zone = some z) (span : (s.linkage.trip o).span = some x) :
    trippedOf result o (s.linkage.trip o) = ⟨result, o, z, x⟩ := by
  simp [trippedOf, zone, span]

theorem trippedOf_zone (zone : (s.linkage.trip o).zone = some z) : (trippedOf result o (s.linkage.trip o)).zone = z := by
  simp [trippedOf, zone]

/-- SUCCESS leaves nothing standing in the zone, whatever the evaluation does (R148). -/
theorem evaluated_outside (zone : (s.linkage.trip o).zone = some z) :
    ∀ r ∈ (evaluateTrips (tripCovered .success o s)).register.records, r.status = .standing → ¬ InZone z r.span := by
  intro r hr standing
  have old := standingKept_evaluates.evaluateTrips _ r.bare (List.mem_map_of_mem hr) standing
  have outside := (coverZone_standing rfl old standing).2
  rw [trippedOf_zone zone] at outside
  exact outside

/-- An ended trip's TRIPPED is queued before the evaluation. -/
theorem tripCovered_offers : ∃ q ∈ (tripCovered result o s).link.queue,
    q.item = .tripped (trippedOf result o (s.linkage.trip o)) ∧ q.remaining = s.port.image.repeats + 1 := by
  obtain ⟨q, mem, item, remaining⟩ := tripOffered_offers result o s
  exact ⟨q, tripCovered_mem_queue (o := o) mem (by rw [QueueEntry.subject, item]; rfl), item, remaining⟩

/-- Where no close can come, the ended record and its series stand through the evaluation and the re-judging. -/
theorem evaluated_ended (stays : result = .failed ∨ ¬ Closes (trippedOf result o (s.linkage.trip o)) (tripOffered result o s))
    (alone : ¬ CanClose s ∨ s.linkage.opened (otherOutput o) = false) :
    (evaluateTrips (tripCovered result o s)).linkage.trip o = { s.linkage.trip o with state := endState result, driven := false } ∧
    ∃ q ∈ (evaluateTrips (tripCovered result o s)).link.queue,
      q.item = .tripped (trippedOf result o (s.linkage.trip o)) ∧ q.remaining = s.port.image.repeats + 1 := by
  have linkage : (tripCovered result o s).linkage = (tripOffered result o s).linkage := by
    unfold tripCovered
    rcases stays with failed | stays
    · rw [coverZone_of_failed failed]
    · cases success : (trippedOf result o (s.linkage.trip o)).result with
      | failed => rw [coverZone_of_failed success]
      | success => rw [coverZone_of_stays success stays, (zoneCovered_onlyClaims _ _).linkage]
  have trip := tripOffered_trip result o s
  rw [← linkage] at trip
  have ended : Ended o (tripCovered result o s) := by
    refine ⟨by rw [trip]; cases result <;> simp [endState], alone.imp (fun cannot => (tripCovered_of_cannot cannot).2) fun closed => ?_⟩
    rw [linkage, tripOffered_opened, closed]
  obtain ⟨-, kept, queue⟩ := (endedKept_evaluates o).evaluateTrips _ ended
  obtain ⟨q, mem, item, remaining⟩ := tripCovered_offers (result := result) (o := o) (s := s)
  exact ⟨kept.trans trip, q, queue q mem (by rw [QueueEntry.subject, item]; rfl), item, remaining⟩

/-- A series in the queue is there, with its count, once the link has done what it does of itself. -/
theorem settled_offers {u : State} {item : QueueItem} {n : Nat} (run : u.run ≠ .config)
    (offered : ∃ q ∈ u.link.queue, q.item = item ∧ q.remaining = n) :
    ∃ q ∈ (settle u).link.queue, q.item = item ∧ q.remaining = n := by
  obtain ⟨q, mem, same, count⟩ := offered
  obtain ⟨x, hx, item, remaining⟩ := (settle_linkSettled run).item mem
  exact ⟨x, hx, item.trans same, remaining.trans count⟩

/-- With no entry in the table, the event of a trip's end stands once all is done. -/
theorem evaluated_tells (table : s.port.image.entries = []) (listed : s.register.pairs = pairsOf s.register.records) :
    ∃ e ∈ (evaluateTrips (tripCovered result o s)).port.events, e.subject = .output o ∧ e.span = (s.linkage.trip o).span ∧
      (result = .success → e.kind = .tripConfirmed ∧ e.detail = .value (s.linkage.trip o).timer) ∧
      (result = .failed → e.kind = .tripFailed ∧
        e.detail = match (s.linkage.trip o).entry with | some k => .value k | none => .absent) := by
  obtain ⟨e, recent, tells⟩ := tripOffered_tells result o s
  rw [evaluateTrips_of_noTripTable (.inr (by rw [(keeps_tripCovered result o s).coreKept.image, table]))]
  refine ⟨e, ?_, tells⟩
  unfold tripCovered
  cases success : (trippedOf result o (s.linkage.trip o)).result with
  | failed => rw [coverZone_of_failed success]; exact recent.mem
  | success =>
    have offered : (tripOffered result o s).register.pairs = pairsOf (tripOffered result o s).register.records := by
      rw [tripOffered_register]
      exact listed
    exact ((coverZone_listed success offered).2 recent (by decide)).mem

/-- A trip whose SUCCESS closes the disturbance: the Detector is CALM through the evaluation (R47). -/
theorem evaluated_detector_of_closes (closes : Closes (trippedOf .success o (s.linkage.trip o)) (tripOffered .success o s)) :
    (evaluateTrips (tripCovered .success o s)).detector =
      { calmed s.detector s.detector.reference with closedByChange := true } := by
  have covered : (tripCovered .success o s).detector = { calmed s.detector s.detector.reference with closedByChange := true } := by
    unfold tripCovered
    rw [coverZone_detector_of_closes rfl closes, tripOffered_detector]
  rw [calmKept_evaluates.evaluateTrips _ (by rw [covered]; simp [calmed]), covered]

/-- And the Linkage is calmed with it (R168). -/
theorem tripCovered_linkage_of_closes (closes : Closes (trippedOf .success o (s.linkage.trip o)) (tripOffered .success o s)) :
    (tripCovered .success o s).linkage = linkageCalm (tripOffered .success o s).linkage := by
  obtain ⟨told, due⟩ := coverZone_of_closes rfl closes
  unfold tripCovered
  rw [told, testCloseOnChange_linkage, if_pos due, (zoneCovered_onlyClaims _ _).linkage]

end

/-! ## O58 -/

section
variable {o : Output} {s : State} {z : Zone} {x : Span}

/-- The Detector and the records, as the statement asks of them a close. -/
theorem closes_tripOffered_iff {result : TripResult} (zone : (s.linkage.trip o).zone = some z) :
    Closes (trippedOf result o (s.linkage.trip o)) (tripOffered result o s) ↔
      CanClose s ∧ ∀ r ∈ s.register.records, (r.own = true ∧ r.status = .standing) → InZone z r.span := by
  unfold Closes Closable CanClose
  rw [trippedOf_zone zone, tripOffered_detector, tripOffered_register, (keeps_tripOffered result o s).coreKept.image]
  constructor
  · rintro ⟨⟨disturbed, full, r, hr, own, standing, -⟩, last⟩
    exact ⟨⟨disturbed, full, r, hr, own, standing⟩, fun r hr stands => last r hr stands.1 stands.2⟩
  · rintro ⟨⟨disturbed, full, r, hr, own, standing⟩, last⟩
    exact ⟨⟨disturbed, full, r, hr, own, standing, last r hr ⟨own, standing⟩⟩, fun r hr own standing => last r hr ⟨own, standing⟩⟩

/-- An open-confirm level taken leaves all but the levels. -/
theorem openTaken_fields (o : Output) (level : Bool) (s : State) : (openTaken o level s).run = s.run ∧
    (openTaken o level s).detector = s.detector ∧ (openTaken o level s).register = s.register ∧ (openTaken o level s).port = s.port := by
  cases o <;> exact ⟨rfl, rfl, rfl, rfl⟩

theorem openTaken_trip (o o' : Output) (level : Bool) (s : State) : (openTaken o level s).linkage.trip o' = s.linkage.trip o' := by
  cases o <;> cases o' <;> rfl

theorem openTaken_other (o : Output) (level : Bool) (s : State) :
    (openTaken o level s).linkage.opened (otherOutput o) = s.linkage.opened (otherOutput o) := by
  cases o <;> rfl

theorem canClose_openTaken (o : Output) (level : Bool) (s : State) : CanClose (openTaken o level s) ↔ CanClose s := by
  obtain ⟨-, detector, register, port⟩ := openTaken_fields o level s
  unfold CanClose
  rw [detector, register, port]

theorem settle_linkage (s : State) : (settle s).linkage = s.linkage := by rw [settle_eq]

/-- A trip CONFIRMED by its open-confirm input (R164). -/
theorem confirmed_says (awake : s.run ≠ .config) (zone : (s.linkage.trip o).zone = some z) (span : (s.linkage.trip o).span = some x) :
    let trip := s.linkage.trip o
    let closes := CanClose s ∧ ∀ r ∈ s.register.records, (r.own = true ∧ r.status = .standing) → InZone z r.span
    let t := settle (evaluateTrips (tripCovered .success o (openTaken o true s)))
    let offered := ∃ q ∈ t.link.queue, q.item = .tripped ⟨.success, o, z, x⟩ ∧ q.remaining = s.port.image.repeats + 1
    (∀ r ∈ t.register.records, r.status = .standing → ¬ InZone z r.span) ∧
    (s.port.image.entries = [] → s.register.pairs = pairsOf s.register.records → ∃ e ∈ t.port.events,
      e.kind = .tripConfirmed ∧ e.subject = .output o ∧ e.span = some x ∧ e.detail = .value trip.timer) ∧
    (¬ closes → (¬ CanClose s ∨ s.linkage.opened (otherOutput o) = false) →
      t.linkage.trip o = { trip with state := .confirmed, driven := false } ∧ offered) ∧
    (closes → t.detector = { calmed s.detector s.detector.reference with closedByChange := true } ∧
      (s.port.image.entries = [] →
        t.linkage.trip o = ⟨.idle, none, 0, none, none, false⟩ ∧ t.linkage.trips = [] ∧ offered)) := by
  obtain ⟨run, detector, register, port⟩ := openTaken_fields o true s
  have trip := openTaken_trip o o true s
  have other := openTaken_other o true s
  have can := canClose_openTaken o true s
  rw [← trip] at zone span
  rw [← trip, ← detector, ← register, ← port, ← can, ← other]
  rw [← run] at awake
  clear trip detector register port can other run
  generalize openTaken o true s = s at zone span awake ⊢
  have item : trippedOf .success o (s.linkage.trip o) = ⟨.success, o, z, x⟩ := trippedOf_eq zone span
  have closing := closes_tripOffered_iff (result := .success) zone
  have covered := (keeps_tripCovered .success o s).run.trans_ne awake
  have evaluated := (keeps_evaluateTrips _).run.trans_ne covered
  dsimp only
  rw [settle_register, settle_port, settle_linkage, settle_detector]
  refine ⟨evaluated_outside zone, fun table listed => ?_, fun stays alone => ?_, fun closes => ⟨?_, fun table => ?_⟩⟩
  · obtain ⟨e, mem, subject, tells, confirmed, -⟩ := evaluated_tells (result := .success) (o := o) table listed
    exact ⟨e, mem, (confirmed rfl).1, subject, tells.trans span, (confirmed rfl).2⟩
  · obtain ⟨kept, offered⟩ := evaluated_ended (.inr (mt closing.mp stays)) alone
    rw [item] at offered
    exact ⟨kept, settled_offers evaluated offered⟩
  · exact evaluated_detector_of_closes (closing.mpr closes)
  · have calm := tripCovered_linkage_of_closes (closing.mpr closes)
    have alone : evaluateTrips (tripCovered .success o s) = tripCovered .success o s :=
      evaluateTrips_of_noTripTable (.inr (by rw [(keeps_tripCovered .success o s).coreKept.image, table]))
    have offered := tripCovered_offers (result := .success) (o := o) (s := s)
    rw [item, ← alone] at offered
    rw [alone, calm]
    refine ⟨?_, rfl, by rw [← alone]; exact settled_offers evaluated offered⟩
    rw [linkageCalm_trip, calmTrip_of_ended (.inl (by rw [tripOffered_trip]; rfl))]

/-- A trip FAILED by its confirm timer (R165). -/
theorem failed_says (awake : s.run ≠ .config) (zone : (s.linkage.trip o).zone = some z) (span : (s.linkage.trip o).span = some x) :
    let trip := s.linkage.trip o
    let t := settle (evaluateTrips (tripCovered .failed o s))
    (s.port.image.entries = [] → s.register.pairs = pairsOf s.register.records → ∃ e ∈ t.port.events,
      e.kind = .tripFailed ∧ e.subject = .output o ∧ e.span = some x ∧
        e.detail = match trip.entry with | some k => .value k | none => .absent) ∧
    ((¬ CanClose s ∨ s.linkage.opened (otherOutput o) = false) →
      t.linkage.trip o = { trip with state := .failed, driven := false } ∧
      ∃ q ∈ t.link.queue, q.item = .tripped ⟨.failed, o, z, x⟩ ∧ q.remaining = s.port.image.repeats + 1) := by
  have covered := (keeps_tripCovered .failed o s).run.trans_ne awake
  have evaluated := (keeps_evaluateTrips _).run.trans_ne covered
  dsimp only
  rw [settle_port, settle_linkage]
  refine ⟨fun table listed => ?_, fun alone => ?_⟩
  · obtain ⟨e, mem, subject, tells, -, failed⟩ := evaluated_tells (result := .failed) (o := o) table listed
    exact ⟨e, mem, (failed rfl).1, subject, tells.trans span, (failed rfl).2⟩
  · obtain ⟨kept, offered⟩ := evaluated_ended (.inl rfl) alone
    rw [trippedOf_eq zone span] at offered
    exact ⟨kept, settled_offers evaluated offered⟩

end

/-- Settles O58: a trip's end through the covering and the evaluation that follows, by whether a close comes of it. -/
theorem assertedTripEndsConfirmedOrFailed : Obligations.AssertedTripEndsConfirmedOrFailed := by
  unfold Obligations.AssertedTripEndsConfirmedOrFailed
  intro o z x s hw run asserted zone span
  have awake := State.working_run hw
  obtain ⟨-, -, register, port⟩ := openTaken_fields o false s
  refine ⟨⟨_, exec_openConfirm hw run asserted, confirmed_says awake zone span⟩, ⟨_, exec_openReleased hw, ?_, ?_, ?_⟩,
    fun due => ⟨_, ?_, failed_says awake zone span⟩, fun young => ⟨settle s, ?_, settle_eq s, settle_linkSettled awake⟩⟩
  · rw [settle_linkage, openTaken_trip]
  · rw [settle_register, register]
  · rw [settle_port, port]
  · rw [exec_tripFailed hw, failIfDue_of_due asserted due]
  · rw [exec_tripFailed hw, failIfDue_of_young young]

end Sys2Proof.Machine

/-! A BACKUP entry's timer: its expiry, what an evaluation makes of it, and the act that follows (R160, R161). -/

namespace Sys2Proof.Machine

/-! ## The act of an entry whose open-confirm inputs are not asserted (R160) -/

section
variable {s : State} {k : Nat} {e : LinkageEntry} {r : EntryRuntime} {x : Span} {ev : State → State}

/-- An output asserted touches its record and the port alone. -/
theorem assertOutput_fields (k : Nat) (e : LinkageEntry) (x : Span) (o : Output) (s : State) :
    (assertOutput k e x o s).linkage.entries = s.linkage.entries ∧
    (assertOutput k e x o s).linkage.trip (otherOutput o) = s.linkage.trip (otherOutput o) ∧
    (∀ o', (assertOutput k e x o s).linkage.opened o' = s.linkage.opened o') ∧
    ∀ {n d}, Recent n d s → n < 31 → Recent (n + 1) d (assertOutput k e x o s) := by
  unfold assertOutput
  split
  · refine ⟨setTrip_linkage_entries _ o _, setTrip_other o _ s, fun o' => setTrip_opened o o' _ s, fun recent room => ?_⟩
    exact Recent.record (recent.congr (setTrip_port _ o _)) room ..
  · exact ⟨rfl, rfl, fun _ => rfl, fun recent _ => recent.mono (Nat.le_succ _)⟩

theorem closed_withEntries {l : Linkage} (closed : ∀ o, l.opened o = false) (rs : List EntryRuntime) (o : Output) :
    ({ l with entries := rs } : Linkage).opened o = false := by
  cases o
  · exact closed .trip0
  · exact closed .trip1

/-- Every output of the entry that is idle asserted, TRIP0 first. -/
def outputsAsserted (k : Nat) (e : LinkageEntry) (x : Span) (s : State) : State :=
  assertOutput k e x .trip1 (assertOutput k e x .trip0 s)

/-- With PEN and no input asserted, the entry's outputs are asserted and the entry spent. -/
theorem actPrimary_of_closed (pen : s.linkage.pen = true) (closed : ∀ o, s.linkage.opened o = false) :
    actPrimary ev k e x s = modifyRuntime k (fun r => { r with spent := true }) (outputsAsserted k e x s) := by
  have still : ∀ o, (modifyRuntime k (fun r => { r with spent := true }) (outputsAsserted k e x s)).linkage.opened o = false := fun o => by
    have asserted := (assertOutput_fields k e x .trip1 (assertOutput k e x .trip0 s)).2.2.1 o
    rw [(assertOutput_fields k e x .trip0 s).2.2.1 o, closed o] at asserted
    cases o <;> exact asserted
  unfold actPrimary
  rw [if_pos pen]
  have first := confirmAtOnce_of_not_opened (ev := ev) (k := k) (before := s.linkage.trip0.state) (still .trip0)
  exact (congrArg (confirmAtOnce ev k s.linkage.trip1.state .trip1) first).trans (confirmAtOnce_of_not_opened (still .trip1))

theorem outputsAsserted_trip0 (drives : e.trip0 = true) (idle : s.linkage.trip0.state = .idle) :
    (outputsAsserted k e x s).linkage.trip0 = ⟨.asserted, some k, 0, some e.zone, some x, true⟩ := by
  have first := assertOutput_of_drives (k := k) (x := x) (o := .trip0) drives idle
  have kept := (assertOutput_fields k e x .trip1 (assertOutput k e x .trip0 s)).2.1
  rw [first] at kept
  exact (congrArg (fun t => (assertOutput k e x .trip1 t).linkage.trip0) first).trans kept

/-- What the act leaves: the entry's runtime state and TRIP0 by PEN, and an event outlasts it. -/
theorem actPrimary_acts (get : s.linkage.entries[k]? = some r) (closed : ∀ o, s.linkage.opened o = false) :
    ∃ r', (actPrimary ev k e x s).linkage.entries[k]? = some r' ∧ r'.timer = r.timer ∧
      (s.linkage.pen = true → r'.spent = true ∧ (e.trip0 = true → s.linkage.trip0.state = .idle →
        (actPrimary ev k e x s).linkage.trip0 = ⟨.asserted, some k, 0, some e.zone, some x, true⟩)) ∧
      (s.linkage.pen = false → r'.spent = r.spent ∧ r'.wouldTrip = true ∧ (actPrimary ev k e x s).linkage.trip0 = s.linkage.trip0) ∧
      ∀ {n d}, Recent n d s → n < 30 → Recent (n + 2) d (actPrimary ev k e x s) := by
  cases pen : s.linkage.pen with
  | true =>
    obtain ⟨entries0, -, -, recent0⟩ := assertOutput_fields k e x .trip0 s
    obtain ⟨entries1, -, -, recent1⟩ := assertOutput_fields k e x .trip1 (assertOutput k e x .trip0 s)
    have entries : (outputsAsserted k e x s).linkage.entries = s.linkage.entries := entries1.trans entries0
    rw [actPrimary_of_closed pen closed, modifyRuntime_of_get (r := r) (by rw [entries]; exact get)]
    refine ⟨{ r with spent := true }, by rw [entries]; exact entries_set_get get _, rfl, fun _ => ⟨rfl, outputsAsserted_trip0⟩, nofun, fun recent room => ?_⟩
    exact (recent1 (recent0 recent (by omega)) (by omega)).congr rfl
  | false =>
    cases noted : r.wouldTrip with
    | true =>
      rw [actPrimary_of_noted get pen noted]
      exact ⟨r, get, rfl, nofun, fun _ => ⟨rfl, noted, rfl⟩, fun recent _ => recent.mono (by omega)⟩
    | false =>
      rw [actPrimary_of_unnoted get pen noted]
      refine ⟨_, entries_set_get get _, rfl, nofun, fun _ => ⟨rfl, rfl, rfl⟩, fun recent room => ?_⟩
      exact ((recent.record (by omega) ..).congr rfl).mono (Nat.le_succ _)

end

/-! ## The expiry of a timer (R161) -/

section
variable {s : State} {k : Nat} {e : LinkageEntry} {r : EntryRuntime} {n : Nat} {c : TimerCandidate}

theorem backupDue_eq (role : e.role = .backup) (get : s.linkage.entries[k]? = some r) (running : r.timer = .running n c) :
    backupDue s k e = if e.backupEpochs ≤ n then some c else none := by
  simp only [backupDue, role, runtime_of_get get, running]

/-- An entry's timer EXPIRED, with its BACKUP_TRIP. -/
def timerExpired (k : Nat) (r : EntryRuntime) (c : TimerCandidate) (s : State) : State :=
  { s with
    linkage := { s.linkage with entries := s.linkage.entries.set k { r with timer := .expired c } }
    port := (record s .backupTrip .absent (some c.span) (.value k)).port }

/-- A timer at its count expires with BACKUP_TRIP, and its entry acts on the timer's candidate. -/
theorem expireBackup_of_due (run : s.run = .run) (role : e.role = .backup) (get : s.linkage.entries[k]? = some r)
    (unspent : r.spent = false) (running : r.timer = .running n c) (due : e.backupEpochs ≤ n) :
    expireBackup k e s = actPrimary (evaluateRounds Config.evaluationRounds) k e c.span (timerExpired k r c s) := by
  unfold expireBackup
  rw [if_pos run, backupDue_eq role get running, if_pos due]
  dsimp only
  rw [modifyRuntime_of_get get]
  have still : (runtime (recordBackupTrip k c { s with linkage := { s.linkage with
      entries := s.linkage.entries.set k { r with timer := .expired c } } }).linkage k).spent = false := by
    rw [runtime_of_get (entries_set_get get _)]
    exact unspent
  rw [if_neg (by rw [still]; simp)]
  rfl

theorem expireBackup_of_young (role : e.role = .backup) (get : s.linkage.entries[k]? = some r) (running : r.timer = .running n c)
    (young : n < e.backupEpochs) : expireBackup k e s = s := by
  unfold expireBackup
  rw [backupDue_eq role get running, if_neg (Nat.not_le.mpr young)]
  exact ite_self s

end

/-! ## The timer through an evaluation (R161) -/

section
variable {s : State} {k : Nat} {e : LinkageEntry} {r : EntryRuntime} {ev : State → State}

/-- The timer's candidate after an evaluation satisfies the entry. -/
theorem nextTimer_candidate {timer : BackupTimer} {x : TimerCandidate} (found : (nextTimer s e timer).candidate = some x) :
    ∃ y, satisfies s e y = true ∧ x = y.forTimer := by
  have chosen : ∀ {y}, chosenCandidate s e = some y → satisfies s e y = true := List.find?_some
  have held : ∀ {t y}, timerCandidate s e t = some y → ∃ z, satisfies s e z = true ∧ y = z.forTimer := fun {t y} kept => by
    obtain ⟨z, either, rfl⟩ := Option.map_eq_some_iff.mp kept
    refine ⟨z, ?_, rfl⟩
    rcases Option.or_eq_some_iff.mp either with same | ⟨-, other⟩
    · have meets := List.find?_some same
      simp only [Bool.and_eq_true] at meets
      exact meets.2
    · exact chosen other
  unfold nextTimer at found
  split at found <;> split at found
  · next y pick =>
    obtain rfl := Option.some.inj found
    exact ⟨y, chosen pick, rfl⟩
  · cases found
  · next kept =>
    obtain rfl := Option.some.inj found
    exact held kept
  · cases found
  · next kept =>
    obtain rfl := Option.some.inj found
    exact held kept
  · cases found

theorem evaluateEntry_of_waiting (role : e.role = .backup) (get : s.linkage.entries[k]? = some r) (unspent : r.spent = false)
    {timer : BackupTimer} (next : nextTimer s e r.timer = timer) (waits : ∀ c, timer ≠ .expired c) :
    evaluateEntry ev k e s = { s with linkage := { s.linkage with entries := s.linkage.entries.set k { r with timer := timer } } } := by
  unfold evaluateEntry
  rw [runtime_of_get get, if_neg (by simp [unspent]), role]
  dsimp only
  rw [next, modifyRuntime_of_get get]
  split
  · exact absurd rfl (waits _)
  · rfl

theorem evaluateEntry_of_expired (role : e.role = .backup) (get : s.linkage.entries[k]? = some r) (unspent : r.spent = false)
    {c : TimerCandidate} (next : nextTimer s e r.timer = .expired c) :
    evaluateEntry ev k e s = actPrimary ev k e c.span { s with linkage := { s.linkage with
      entries := s.linkage.entries.set k { r with timer := .expired c } } } := by
  unfold evaluateEntry
  rw [runtime_of_get get, if_neg (by simp [unspent]), role]
  dsimp only
  rw [next, modifyRuntime_of_get get]

/-- With no input asserted, the entry's timer is as the evaluation makes it. -/
theorem evaluateEntry_timer (role : e.role = .backup) (get : s.linkage.entries[k]? = some r) (unspent : r.spent = false)
    (closed : ∀ o, s.linkage.opened o = false) :
    ∃ r', (evaluateEntry ev k e s).linkage.entries[k]? = some r' ∧ r'.timer = nextTimer s e r.timer := by
  by_cases expired : ∃ c, nextTimer s e r.timer = .expired c
  · obtain ⟨c, next⟩ := expired
    rw [evaluateEntry_of_expired role get unspent next]
    obtain ⟨r', get', timer, -⟩ := actPrimary_acts (ev := ev) (k := k) (e := e) (x := c.span) (s := { s with linkage := { s.linkage with
      entries := s.linkage.entries.set k { r with timer := .expired c } } }) (entries_set_get get _) (closed_withEntries closed _)
    exact ⟨r', get', timer.trans next.symm⟩
  · rw [evaluateEntry_of_waiting role get unspent rfl (not_exists.mp expired)]
    exact ⟨_, entries_set_get get _, rfl⟩

end

end Sys2Proof.Machine

/-! The backup timer under its own command, under a change of PEN, and under a TRIPPED taken by the timers alone: the first three parts of
the statement O59 (R161, R162). -/

namespace Sys2Proof.Machine

section
variable {s : State} {e : LinkageEntry} {r : EntryRuntime}

/-- The timer's command acts on an entry alone in its table. -/
theorem exec_backupTrip_single (hw : s.working = true) (table : s.port.image.entries = [e]) :
    exec (.backupTrip 0) s = .next (settle (expireBackup 0 e s)) :=
  exec_backupTrip (k := 0) hw (by rw [table]; rfl)

/-- A change of PEN evaluates an entry alone in its table. -/
theorem exec_penChange_single (hw : s.working = true) (run : s.run = .run) (table : s.port.image.entries = [e]) {level : Bool}
    (change : level ≠ s.linkage.pen) :
    exec (.penChange level) s = .next (settle (evaluateEntry laterRounds 0 e (holdPen level s))) := by
  rw [exec_penChange hw change.symm, evaluateTrips_of_single (s := holdPen level s) run table]

/-- Where the evaluation leaves the timer off or running, a change of PEN moves nothing but that timer. -/
theorem penChange_timer (hw : s.working = true) (run : s.run = .run) (table : s.port.image.entries = [e]) (role : e.role = .backup)
    (get : s.linkage.entries[0]? = some r) (unspent : r.spent = false) {level : Bool} (change : level ≠ s.linkage.pen)
    {timer : BackupTimer} (next : nextTimer s e r.timer = timer) (waits : ∀ c, timer ≠ .expired c) :
    ∃ t, exec (.penChange level) s = .next t ∧
      t = { s with
        penPin := level, link := t.link
        linkage := { s.linkage with pen := level, entries := s.linkage.entries.set 0 { r with timer := timer } } } ∧
      LinkSettled s.link t := by
  have taken := exec_penChange_single hw run table change
  rw [evaluateEntry_of_waiting (s := holdPen level s) role get unspent next waits] at taken
  exact exists_settled taken (State.working_run hw) rfl

/-! ### The timer's next state, from what still satisfies the entry -/

theorem timerCandidate_eq {x : TimerCandidate} : timerCandidate s e x =
    ((sameCandidate s e x).or (chosenCandidate s e)).map Candidate.forTimer := rfl

theorem nextTimer_off : nextTimer s e .off = match chosenCandidate s e with
    | some y => .running 0 y.forTimer
    | none => .off := rfl

theorem nextTimer_running {n : Nat} {x : TimerCandidate} : nextTimer s e (.running n x) =
    match (sameCandidate s e x).or (chosenCandidate s e) with
    | some y => .running n y.forTimer
    | none => .off := by
  rw [nextTimer, timerCandidate_eq]
  cases (sameCandidate s e x).or (chosenCandidate s e) <;> rfl

theorem nextTimer_expired {x : TimerCandidate} : nextTimer s e (.expired x) =
    match (sameCandidate s e x).or (chosenCandidate s e) with
    | some y => .expired y.forTimer
    | none => .off := by
  rw [nextTimer, timerCandidate_eq]
  cases (sameCandidate s e x).or (chosenCandidate s e) <;> rfl

/-! ### O59, part by part -/

/-- The timer's command by its count and PEN (R161, R160). -/
theorem backupTrip_acts {n : Nat} {c : TimerCandidate} (hw : s.working = true) (run : s.run = .run)
    (table : s.port.image.entries = [e]) (role : e.role = .backup) (drives : e.trip0 = true) (alone : e.trip1 = false)
    (get : s.linkage.entries[0]? = some r) (unspent : r.spent = false) (running : r.timer = .running n c)
    (idle : s.linkage.trip0.state = .idle) (closed : s.linkage.open0 = false) :
    let expired := record s .backupTrip .absent (some c.span) (.value 0)
    (e.backupEpochs ≤ n → s.linkage.pen = true → ∃ t, exec (.backupTrip 0) s = .next t ∧
      t = { s with
        linkage := { s.linkage with
          trip0 := ⟨.asserted, some 0, 0, some e.zone, some c.span, true⟩
          entries := s.linkage.entries.set 0 { r with timer := .expired c, spent := true } }
        port := (record expired .tripIssued (.output .trip0) (some c.span) (.value 0)).port
        link := t.link } ∧ LinkSettled s.link t) ∧
    (e.backupEpochs ≤ n → s.linkage.pen = false → r.wouldTrip = true → ∃ t, exec (.backupTrip 0) s = .next t ∧
      t = { s with
        linkage := { s.linkage with entries := s.linkage.entries.set 0 { r with timer := .expired c } }
        port := expired.port, link := t.link } ∧ LinkSettled s.link t) ∧
    (e.backupEpochs ≤ n → s.linkage.pen = false → r.wouldTrip = false → ∃ t, exec (.backupTrip 0) s = .next t ∧
      t = { s with
        linkage := { s.linkage with
          entries := s.linkage.entries.set 0 { r with timer := .expired c, wouldTrip := true } }
        port := (record expired .wouldTrip .absent (some c.span) (.value 0)).port, link := t.link } ∧
      LinkSettled s.link t) ∧
    (n < e.backupEpochs → ∃ t, exec (.backupTrip 0) s = .next t ∧ t = { s with link := t.link } ∧ LinkSettled s.link t) := by
  have taken := exec_backupTrip_single hw table
  have awake := State.working_run hw
  have got := entries_set_get get { r with timer := .expired c }
  refine ⟨fun due pen => ?_, fun due pen noted => ?_, fun due pen unnoted => ?_, fun young => ?_⟩
  · rw [expireBackup_of_due run role get unspent running due, actPrimary_of_pen (s := timerExpired 0 r c s) got pen drives alone idle closed] at taken
    obtain ⟨t, next, left, settled⟩ := exists_settled taken awake rfl
    exact ⟨t, next, left.trans (by simp only [timerExpired, List.set_set]; rfl), settled⟩
  · rw [expireBackup_of_due run role get unspent running due, actPrimary_of_noted (s := timerExpired 0 r c s) got pen noted] at taken
    exact exists_settled taken awake rfl
  · rw [expireBackup_of_due run role get unspent running due, actPrimary_of_unnoted (s := timerExpired 0 r c s) got pen unnoted] at taken
    obtain ⟨t, next, left, settled⟩ := exists_settled taken awake rfl
    exact ⟨t, next, left.trans (by simp only [timerExpired, List.set_set]; rfl), settled⟩
  · rw [expireBackup_of_young role get running young] at taken
    exact exists_settled taken awake rfl

/-- The timer through a change of PEN (R159, R161). -/
theorem penChange_timers {level : Bool} (hw : s.working = true) (run : s.run = .run)
    (table : s.port.image.entries = [e]) (role : e.role = .backup) (get : s.linkage.entries[0]? = some r) (unspent : r.spent = false)
    (closed : ∀ o, s.linkage.opened o = false) (change : level ≠ s.linkage.pen) :
    let chosen := chosenCandidate s e
    let still := sameCandidate s e
    let becomes := fun timer : BackupTimer => ∃ t, exec (.penChange level) s = .next t ∧
      t = { s with
        penPin := level, link := t.link
        linkage := { s.linkage with pen := level, entries := s.linkage.entries.set 0 { r with timer := timer } } } ∧
      LinkSettled s.link t
    (r.timer = .off → chosen = none → becomes .off) ∧
    (∀ y, r.timer = .off → chosen = some y → becomes (.running 0 ⟨y.key, y.partner, y.span⟩)) ∧
    (∀ n x, r.timer = .running n x →
      (∀ y, still x = some y → becomes (.running n ⟨y.key, y.partner, y.span⟩)) ∧
      (still x = none → ∀ y, chosen = some y → becomes (.running n ⟨y.key, y.partner, y.span⟩)) ∧
      (still x = none → chosen = none → becomes .off)) ∧
    (∀ x, r.timer = .expired x →
      (∀ y, (still x).or chosen = some y → ∃ t r', exec (.penChange level) s = .next t ∧
        t.linkage.entries[0]? = some r' ∧ r'.timer = .expired ⟨y.key, y.partner, y.span⟩ ∧
        (level = true → r'.spent = true) ∧ (level = false → r'.wouldTrip = true ∧ r'.spent = false)) ∧
      ((still x).or chosen = none → becomes .off)) := by
  dsimp only
  have becomes := fun timer => penChange_timer hw run table role get unspent change (timer := timer)
  refine ⟨fun off none => ?_, fun y off some => ?_, fun n x running => ⟨fun y same => ?_, fun gone y other => ?_, fun gone none => ?_⟩,
    fun x expired => ⟨fun y either => ?_, fun neither => ?_⟩⟩
  · exact becomes _ (by rw [off, nextTimer_off, none]) nofun
  · exact becomes _ (by rw [off, nextTimer_off, some]; rfl) nofun
  · exact becomes _ (by rw [running, nextTimer_running, same]; rfl) nofun
  · exact becomes _ (by rw [running, nextTimer_running, gone, other]; rfl) nofun
  · exact becomes _ (by rw [running, nextTimer_running, gone, none]; rfl) nofun
  · have next : nextTimer (holdPen level s) e r.timer = .expired y.forTimer := by
      rw [expired]
      exact nextTimer_expired.trans (congrArg (fun o : Option Candidate => match o with
        | Option.some y => BackupTimer.expired y.forTimer
        | Option.none => .off) either)
    have taken := exec_penChange_single hw run table change
    rw [evaluateEntry_of_expired (s := holdPen level s) role get unspent next] at taken
    obtain ⟨r', get', timer, pen, unpen, -⟩ := actPrimary_acts (ev := laterRounds) (e := e) (x := y.span)
      (s := { holdPen level s with linkage := { (holdPen level s).linkage with
        entries := s.linkage.entries.set 0 { r with timer := .expired y.forTimer } } })
      (entries_set_get get _) (fun o => by cases o; exacts [closed .trip0, closed .trip1])
    refine ⟨_, r', taken, by rw [settle_linkage]; exact get', timer, fun on => (pen on).1, fun off => ?_⟩
    obtain ⟨spent, noted, -⟩ := unpen off
    exact ⟨noted, spent.trans unspent⟩
  · exact becomes _ (by rw [expired, nextTimer_expired, neither]) nofun

/-- The timers under a TRIPPED (R162). -/
theorem timersByTripped_acts {c : TrippedContent} {k : Nat} (few : k < 8) (get : s.linkage.entries[k]? = some r) :
    let t := timersByTripped c s
    t = { s with linkage := { s.linkage with entries := t.linkage.entries }, port := t.port } ∧
    t.linkage.entries.length = s.linkage.entries.length ∧
    ((∀ x, r.timer.candidate = some x → ¬ InZone c.zone x.span) → t.linkage.entries[k]? = some r) ∧
    (∀ x, r.timer.candidate = some x → InZone c.zone x.span →
      (c.result = .success → t.linkage.entries[k]? = some { r with timer := .off }) ∧
      (c.result = .failed → t.linkage.entries[k]? = some { r with timer := .expired x } ∧
        (∀ n, r.timer = .running n x → ∃ e ∈ t.port.events,
          e.kind = .backupTrip ∧ e.span = some x.span ∧ e.detail = .value k))) := by
  have taken := timersByTripped_get (c := c) few get
  refine ⟨by rw [timersByTripped_entries]; exact timersByTripped_eq c s, ?_, fun outside => ?_, fun x found inside =>
    ⟨fun success => ?_, fun failed => ⟨?_, fun n running => ?_⟩⟩⟩
  · rw [timersByTripped_entries, timersTaken_length]
  · rw [taken, timerTaken_of_outside outside]
  · rw [taken, timerTaken_of_success found inside success]
  · rw [taken, timerTaken_of_failed found inside failed]
  · obtain ⟨e, recent, tells⟩ := timersByTripped_tells few get running inside failed
    exact ⟨e, recent.mem, tells⟩

end

end Sys2Proof.Machine

/-! A TRIPPED taken by a part with one BACKUP entry: what its blocks, in each order, leave of the entry's timer (R161, R162, R167); the
statement O59. -/

namespace Sys2Proof.Machine

/-! ## What the blocks leave of the runtime states -/

/-- The number of runtime states is kept. -/
def RuntimesKept (s t : State) : Prop := t.linkage.entries.length = s.linkage.entries.length

theorem RuntimesKept.trans {s t u : State} (h : RuntimesKept s t) (k : RuntimesKept t u) : RuntimesKept s u := Eq.trans k h

theorem coverZone_linkage (c : TrippedContent) (s : State) :
    (coverZone c s).linkage = s.linkage ∨ (coverZone c s).linkage = linkageCalm s.linkage := by
  cases result : c.result with
  | failed => exact .inl (by rw [coverZone_of_failed result])
  | success =>
    by_cases closes : Closes c s
    · obtain ⟨told, due⟩ := coverZone_of_closes result closes
      exact .inr (by rw [told, testCloseOnChange_linkage, if_pos due, (zoneCovered_onlyClaims c s).linkage])
    · exact .inl (by rw [coverZone_of_stays result closes, (zoneCovered_onlyClaims c s).linkage])

theorem coverZone_runtimesKept (c : TrippedContent) (s : State) : RuntimesKept s (coverZone c s) := by
  unfold RuntimesKept
  rcases coverZone_linkage c s with h | h <;> simp [h, linkageCalm]

theorem enterDeenergized_linkage (n p : Nat) (s : State) : (enterDeenergized n p s).linkage = s.linkage := by
  by_cases there : s.detector.assessment = .deenergized
  · rw [enterDeenergized_of_there there]
    rfl
  · rw [enterDeenergized_of_elsewhere there, (registerDeenergized_onlyClaims _).linkage]
    rfl

theorem timersByTripped_runtimesKept (c : TrippedContent) (s : State) : RuntimesKept s (timersByTripped c s) := by
  rw [RuntimesKept, timersByTripped_entries, timersTaken_length]

theorem tripCovered_runtimesKept (result : TripResult) (o : Output) (s : State) : RuntimesKept s (tripCovered result o s) := by
  have offered : RuntimesKept s (tripOffered result o s) := by
    rw [RuntimesKept, tripOffered, offering_eq, tripEnded_eq]
    simp [timersTaken_length]
  exact offered.trans (coverZone_runtimesKept _ _)

theorem runtimesKept_evaluates : Evaluates RuntimesKept where
  refl _ := rfl
  trans := .trans
  event _ _ _ _ _ := rfl
  runtime k f s := modifyAt_length f k s.linkage.entries
  assert _ _ _ o _ _ _ := congrArg List.length (setTrip_linkage_entries _ o _)
  confirm _ o s _ hev run _ _ :=
    (tripCovered_runtimesKept .success o s).trans (hev _ ((keeps_tripCovered .success o s).run.trans run))

/-! ## The blocks, each with the evaluation that follows -/

theorem trippedBlocks_inTurn (order : Nat) (h : Header) (c : TrippedContent) (s : State) :
    InTurn (linkageTripped h.sender c) (detectorTripped h c) (reporting (coverZone c)) s (trippedBlocks order h c s) := by
  unfold trippedBlocks InTurn
  dsimp only
  split <;> tauto

theorem keeps_detectorTripped (h : Header) (c : TrippedContent) : Keeps (detectorTripped h c) := fun s => by
  unfold detectorTripped
  split
  · exact keeps_reporting (keeps_enterDeenergized _ _) s
  · exact .refl s

theorem keeps_tripHeard (n : Nat) (c : TrippedContent) : Keeps (tripHeard n c) := fun s => by
  unfold tripHeard
  split
  · exact keeps_takeIntoTripList n c s
  · exact (keeps_takeIntoTripList n c s).trans (keeps_record _ _ _ _ _)

/-- In RUN the Linkage takes a TRIPPED into its list and its timers, and evaluates (R162, R167). -/
theorem linkageTripped_of_run {n : Nat} {c : TrippedContent} {s : State} (run : s.run = .run) :
    linkageTripped n c s = evaluateTrips (timersByTripped c (tripHeard n c s)) := by
  have heard : (tripHeard n c s).run = .run := (keeps_tripHeard n c s).run.trans run
  unfold linkageTripped
  dsimp only
  exact if_pos heard

theorem tripHeard_linkage (n : Nat) (c : TrippedContent) (s : State) :
    (tripHeard n c s).linkage = { s.linkage with trips := tripListTake n c s.linkage.trips } := by
  unfold tripHeard
  split <;> rfl

/-- What a block's relation is: its own part's, and the evaluation's that follows. -/
theorem detectorTripped_evaluates {R : State → State → Prop} (ev : Evaluates R) (h : Header) (c : TrippedContent)
    (entered : ∀ s, R s (enterDeenergized h.sender h.position s)) (s : State) : R s (detectorTripped h c s) := by
  unfold detectorTripped
  split
  · exact ev.reporting (entered s)
  · exact ev.refl s

/-- The blocks keep the number of runtime states. -/
theorem trippedBlocks_runtimesKept (order : Nat) (h : Header) (c : TrippedContent) {s : State} (run : s.run = .run) :
    RuntimesKept s (trippedBlocks order h c s) := by
  have detector := detectorTripped_evaluates runtimesKept_evaluates h c fun t => congrArg (fun l : Linkage => l.entries.length)
    (enterDeenergized_linkage h.sender h.position t)
  have register : ∀ t, RuntimesKept t (reporting (coverZone c) t) := fun t =>
    runtimesKept_evaluates.reporting (coverZone_runtimesKept c t)
  have linkage : ∀ t, t.run = .run → RuntimesKept t (linkageTripped h.sender c t) := fun t running => by
    rw [linkageTripped_of_run running]
    have heard : RuntimesKept t (tripHeard h.sender c t) := by rw [RuntimesKept, tripHeard_linkage]
    exact (heard.trans (timersByTripped_runtimesKept c _)).trans (runtimesKept_evaluates.evaluateTrips _)
  refine (trippedBlocks_inTurn order h c s).phases (keeps_linkageTripped _ c) (keeps_detectorTripped h c)
    (keeps_reporting (keeps_coverZone c)) (I := RuntimesKept s) (J := RuntimesKept s) rfl
    (fun x _ kept => ⟨kept.trans (detector x), kept.trans (register x)⟩)
    (fun x within kept => kept.trans (linkage x (within.run.trans run)))
    (fun x _ kept => ⟨kept.trans (detector x), kept.trans (register x)⟩)

/-! ## Blocks that confirm no trip and close no disturbance -/

/-- No open-confirm input is asserted, and the settle counter is not full in DISTURBED. -/
def Inert (s : State) : Prop :=
  (∀ o, s.linkage.opened o = false) ∧ (s.detector.assessment ≠ .disturbed ∨ s.detector.settle < s.port.image.settleCount)

/-- An inert part stays so, with its trip list. -/
def InertKept (s t : State) : Prop := Inert s → Inert t ∧ t.linkage.trips = s.linkage.trips

theorem InertKept.trans {s t u : State} (h : InertKept s t) (k : InertKept t u) : InertKept s u := fun inert => by
  obtain ⟨inert', trips⟩ := h inert
  obtain ⟨inert'', trips'⟩ := k inert'
  exact ⟨inert'', trips'.trans trips⟩

theorem InertKept.of_linkage {s t : State} (opened : ∀ o, t.linkage.opened o = s.linkage.opened o)
    (trips : t.linkage.trips = s.linkage.trips) (detector : t.detector = s.detector) (image : t.port.image = s.port.image) :
    InertKept s t := by
  rintro ⟨closed, unclosing⟩
  exact ⟨⟨fun o => (opened o).trans (closed o), by rwa [detector, image]⟩, trips⟩

theorem inertKept_evaluates : Evaluates InertKept where
  refl _ := fun inert => ⟨inert, rfl⟩
  trans := .trans
  event _ _ _ _ _ := .of_linkage (fun _ => rfl) rfl rfl rfl
  runtime _ _ _ := .of_linkage (fun o => by cases o <;> rfl) rfl rfl rfl
  assert _ _ _ o _ _ _ := .of_linkage (fun o' => setTrip_opened o o' _ _) (by simp) (by simp) (by simp)
  confirm _ o _ _ _ _ _ opened := fun inert => by simp [inert.1 o] at opened

theorem Inert.unclosing {s : State} (inert : Inert s) (c : TrippedContent) : Unclosing c s :=
  .inr fun closable => inert.2.elim (· closable.1) (Nat.not_lt.mpr closable.2.1)

theorem coverZone_inertKept (c : TrippedContent) (s : State) : InertKept s (coverZone c s) := fun inert =>
  have claims := coverZone_of_unclosing (inert.unclosing c)
  InertKept.of_linkage (fun o => congrArg (·.opened o) claims.linkage) (congrArg Linkage.trips claims.linkage) claims.detector
    (keeps_coverZone c s).coreKept.image inert

theorem enterDeenergized_inertKept (n p : Nat) (s : State) : InertKept s (enterDeenergized n p s) := by
  rintro ⟨closed, -⟩
  have linkage := enterDeenergized_linkage n p s
  refine ⟨⟨fun o => (congrArg (·.opened o) linkage).trans (closed o), .inl ?_⟩, congrArg Linkage.trips linkage⟩
  rw [(enterDeenergized_detector n p s).1]
  nofun

/-! ## A SUCCESS: no timer's candidate is left within its zone -/

/-- No timer of the first entry has its candidate within the zone. -/
def TimerOutside (c : TrippedContent) (s : State) : Prop :=
  ∀ r, s.linkage.entries[0]? = some r → ∀ x, r.timer.candidate = some x → ¬ InZone c.zone x.span

/-- The trip list answers the zone of a TRIPPED. -/
def Answers (c : TrippedContent) (s : State) : Prop := ∃ i ∈ s.linkage.trips, i.content = c

section
variable {s : State} {e : LinkageEntry} {c : TrippedContent}

/-- What satisfies an entry is outside every answered zone (R156). -/
theorem satisfies_outside {y : Candidate} (answers : Answers c s) (success : c.result = .success) (meets : satisfies s e y = true) :
    ¬ InZone c.zone y.span := by
  obtain ⟨i, mem, rfl⟩ := answers
  intro inside
  have answered : answered s.linkage.trips y.span = true :=
    List.any_eq_true.mpr ⟨i, mem, by simp [success, within_iff.mpr inside]⟩
  simp [satisfies, inScope, answered] at meets

/-- An evaluation of a BACKUP entry keeps its timer outside. -/
theorem evaluateTrips_outside (run : s.run = .run) (table : s.port.image.entries = [e]) (role : e.role = .backup) (inert : Inert s)
    (answers : Answers c s) (success : c.result = .success) (outside : TimerOutside c s) : TimerOutside c (evaluateTrips s) := by
  rw [evaluateTrips_of_single run table]
  intro r' get' x found
  cases get : s.linkage.entries[0]? with
  | none =>
    have kept : RuntimesKept s (evaluateEntry laterRounds 0 e s) := runtimesKept_evaluates.evaluateEntry (keeps_evaluateRounds 7)
      (fun _ => runtimesKept_evaluates.evaluateRounds 7) 0 e run
    have short := List.getElem?_eq_none_iff.mp get
    rw [← kept] at short
    rw [List.getElem?_eq_none short] at get'
    cases get'
  | some r =>
    cases spent : r.spent with
    | true =>
      rw [evaluateEntry_of_spent get spent] at get'
      exact outside r' get' x found
    | false =>
      obtain ⟨r'', get'', timer⟩ := evaluateEntry_timer (ev := laterRounds) role get spent inert.1
      obtain rfl := Option.some.inj (get'.symm.trans get'')
      rw [timer] at found
      obtain ⟨y, meets, rfl⟩ := nextTimer_candidate found
      exact satisfies_outside answers success meets

/-- What a block leaves that changes no runtime state, with the evaluation that may follow. -/
theorem reporting_outside {f : State → State} (keeps : Keeps f) (inertly : InertKept s (f s))
    (entries : (f s).linkage.entries = s.linkage.entries) (run : s.run = .run) (table : s.port.image.entries = [e])
    (role : e.role = .backup) (inert : Inert s) (answers : Answers c s) (success : c.result = .success) (outside : TimerOutside c s) :
    TimerOutside c (reporting f s) := by
  obtain ⟨inert', trips⟩ := inertly inert
  have answers' : Answers c (f s) := by rwa [Answers, trips]
  have outside' : TimerOutside c (f s) := by rwa [TimerOutside, entries]
  unfold reporting
  dsimp only
  split
  · exact outside'
  · exact evaluateTrips_outside ((keeps s).run.trans run) ((congrArg Image.entries (keeps s).coreKept.image).trans table) role inert'
      answers' success outside'

end

end Sys2Proof.Machine

/-! The statement that a backup timer expires at its count (R159 to R162). -/

namespace Sys2Proof.Machine

/-! ## A SUCCESS that joins the trip list (R162, R167) -/

section
variable {s : State} {e : LinkageEntry} {c : TrippedContent} {h : Header} {order : Nat}

theorem tripListTake_of_room {trips : List TripItem} {n : Nat} (unknown : tripKnown trips n c = false) (room : trips.length < 8) :
    tripListTake n c trips = trips ++ [(⟨n, c⟩ : TripItem)] := by
  rw [tripListTake_of_unknown unknown (by omega), Nat.sub_eq_zero_of_le (by omega), List.drop_zero]

/-- A timer that a SUCCESS has left is outside its zone. -/
theorem timerTaken_outside {r : EntryRuntime} (success : c.result = .success) {x : TimerCandidate}
    (found : (timerTaken c r).timer.candidate = some x) : ¬ InZone c.zone x.span := by
  intro inside
  by_cases touched : ∃ y, r.timer.candidate = some y ∧ InZone c.zone y.span
  · obtain ⟨y, held, within⟩ := touched
    rw [timerTaken_of_success held within success] at found
    cases found
  · have outside : ∀ y, r.timer.candidate = some y → ¬ InZone c.zone y.span := fun y held within => touched ⟨y, held, within⟩
    rw [timerTaken_of_outside outside] at found
    exact outside x found inside

/-- The timers' own turn leaves the list and the inputs, and after a SUCCESS no candidate within its zone. -/
theorem timersByTripped_outside (success : c.result = .success) : TimerOutside c (timersByTripped c s) := by
  intro r get x found
  rw [timersByTripped_entries, timersTaken_of_mem List.nodup_range (List.mem_range.mpr (by decide))] at get
  obtain ⟨r, -, rfl⟩ := Option.map_eq_some_iff.mp get
  exact timerTaken_outside success found

/-- What the Linkage's own turn meets at its evaluation: the list with the TRIPPED, the timers taken. -/
theorem listed_linkage (n : Nat) (c : TrippedContent) (s : State) : (timersByTripped c (tripHeard n c s)).linkage = { s.linkage with
    trips := tripListTake n c s.linkage.trips, entries := timersTaken c (List.range 8) s.linkage.entries } := by
  rw [timersByTripped_eq, tripHeard_linkage]

/-- The Linkage's turn on a SUCCESS it did not know: its zone is answered, and no timer is within it. -/
theorem linkageTripped_outside {n : Nat} (run : s.run = .run) (table : s.port.image.entries = [e]) (role : e.role = .backup)
    (inert : Inert s) (unknown : tripKnown s.linkage.trips n c = false) (room : s.linkage.trips.length < 8)
    (success : c.result = .success) :
    Inert (linkageTripped n c s) ∧ Answers c (linkageTripped n c s) ∧ TimerOutside c (linkageTripped n c s) := by
  have within : Within s (timersByTripped c (tripHeard n c s)) := (keeps_tripHeard n c s).trans (keeps_timersByTripped c _)
  have linkage := listed_linkage n c s
  have detector : (timersByTripped c (tripHeard n c s)).detector = s.detector :=
    (timersByTripped_onlyTimers c _).1.detector.trans (tripHeard_fields n c s).1
  have inert' : Inert (timersByTripped c (tripHeard n c s)) := by
    refine ⟨fun o => ?_, by rw [detector, within.coreKept.image]; exact inert.2⟩
    rw [linkage]
    cases o
    · exact inert.1 .trip0
    · exact inert.1 .trip1
  have answers : Answers c (timersByTripped c (tripHeard n c s)) := by
    refine ⟨⟨n, c⟩, ?_, rfl⟩
    rw [linkage]
    dsimp only
    rw [tripListTake_of_room unknown room]
    simp
  obtain ⟨still, trips⟩ := inertKept_evaluates.evaluateTrips _ inert'
  rw [linkageTripped_of_run run]
  exact ⟨still, by rwa [Answers, trips], evaluateTrips_outside (within.run.trans run)
    ((congrArg Image.entries within.coreKept.image).trans table) role inert' answers success (timersByTripped_outside success)⟩

/-- After a SUCCESS that joins the trip list, in whatever order its blocks take it, no timer is left within its zone. -/
theorem trippedBlocks_outside (run : s.run = .run) (table : s.port.image.entries = [e]) (role : e.role = .backup) (inert : Inert s)
    (unknown : tripKnown s.linkage.trips h.sender c = false) (room : s.linkage.trips.length < 8) (success : c.result = .success) :
    TimerOutside c (trippedBlocks order h c s) := by
  have detector := detectorTripped_evaluates inertKept_evaluates h c (enterDeenergized_inertKept h.sender h.position)
  have register : ∀ x, InertKept x (reporting (coverZone c) x) := fun x => inertKept_evaluates.reporting (coverZone_inertKept c x)
  have tables : ∀ {x}, Within s x → x.port.image.entries = [e] := fun within =>
    (congrArg Image.entries within.coreKept.image).trans table
  have final : Inert (trippedBlocks order h c s) ∧ Answers c (trippedBlocks order h c s) ∧ TimerOutside c (trippedBlocks order h c s) := by
    refine (trippedBlocks_inTurn order h c s).phases (keeps_linkageTripped _ c) (keeps_detectorTripped h c)
      (keeps_reporting (keeps_coverZone c)) (I := fun x => Inert x ∧ x.linkage.trips = s.linkage.trips)
      (J := fun x => Inert x ∧ Answers c x ∧ TimerOutside c x) ⟨inert, rfl⟩ ?_ ?_ ?_
    · rintro x - ⟨quiet, same⟩
      obtain ⟨quietD, tripsD⟩ := detector x quiet
      obtain ⟨quietR, tripsR⟩ := register x quiet
      exact ⟨⟨quietD, tripsD.trans same⟩, quietR, tripsR.trans same⟩
    · rintro x within ⟨quiet, same⟩
      exact linkageTripped_outside (within.run.trans run) (tables within) role quiet (by rwa [same]) (by rwa [same]) success
    · rintro x within ⟨quiet, answers, outside⟩
      obtain ⟨quietD, tripsD⟩ := detector x quiet
      obtain ⟨quietR, tripsR⟩ := register x quiet
      have running := within.run.trans run
      refine ⟨⟨quietD, by rwa [Answers, tripsD], ?_⟩, quietR, by rwa [Answers, tripsR], ?_⟩
      · unfold detectorTripped
        split
        · exact reporting_outside (keeps_enterDeenergized _ _) (enterDeenergized_inertKept _ _ x)
            (congrArg Linkage.entries (enterDeenergized_linkage _ _ x)) running (tables within) role quiet answers success outside
        · exact outside
      · exact reporting_outside (keeps_coverZone c) (coverZone_inertKept c x)
          (congrArg Linkage.entries (coverZone_of_unclosing (quiet.unclosing c)).linkage) running (tables within) role quiet answers
          success outside
  exact final.2.2

end

/-! ## A FAILED (R162) -/

section
variable {s : State} {e : LinkageEntry} {c : TrippedContent} {h : Header} {order : Nat} {r : EntryRuntime}

/-- The Detector and the register do nothing with a FAILED. -/
theorem trippedBlocks_of_failed (failed : c.result = .failed) : trippedBlocks order h c s = linkageTripped h.sender c s := by
  refine (trippedBlocks_inTurn order h c s).third.third.alone (fun x => ?_) fun x => ?_
  · simp [detectorTripped, failed]
  · simp [reporting, coverZone_of_failed failed]

/-- A FAILED answers nothing. -/
theorem answered_of_failed {trips : List TripItem} {n : Nat} (failed : c.result = .failed) (room : trips.length < 8) (x : Span) :
    answered (tripListTake n c trips) x = answered trips x := by
  cases known : tripKnown trips n c with
  | true => rw [tripListTake, if_pos known]
  | false => simp [tripListTake_of_room known room, answered, failed]

/-- The timer expired by a FAILED keeps its candidate while that satisfies, and its entry acts on it by PEN. -/
theorem trippedBlocks_expires {n : Nat} {x : TimerCandidate} {y : Candidate} (run : s.run = .run) (table : s.port.image.entries = [e])
    (role : e.role = .backup) (get : s.linkage.entries[0]? = some r) (closed : ∀ o, s.linkage.opened o = false)
    (room : s.linkage.trips.length < 8) (failed : c.result = .failed) (unspent : r.spent = false) (running : r.timer = .running n x)
    (inside : InZone c.zone x.span) (same : sameCandidate s e x = some y) :
    ∃ r', (trippedBlocks order h c s).linkage.entries[0]? = some r' ∧ r'.timer = .expired y.forTimer ∧
      (∃ d ∈ (trippedBlocks order h c s).port.events, d.kind = .backupTrip ∧ d.span = some x.span ∧ d.detail = .value 0) ∧
      (s.linkage.pen = true → r'.spent = true ∧ (e.trip0 = true → s.linkage.trip0.state = .idle →
        (trippedBlocks order h c s).linkage.trip0 = ⟨.asserted, some 0, 0, some e.zone, some y.span, true⟩)) ∧
      (s.linkage.pen = false → r'.spent = false ∧ r'.wouldTrip = true ∧
        (trippedBlocks order h c s).linkage.trip0 = s.linkage.trip0) := by
  have heardGet : (tripHeard h.sender c s).linkage.entries[0]? = some r := by rw [tripHeard_linkage]; exact get
  have taken := timersByTripped_get (c := c) (by decide) heardGet
  rw [timerTaken_of_failed (by rw [running]; rfl) inside failed] at taken
  obtain ⟨d, recent, tells⟩ := timersByTripped_tells (by decide) heardGet running inside failed
  have linkage := listed_linkage h.sender c s
  have within := (keeps_tripHeard h.sender c s).trans (keeps_timersByTripped c _)
  have register : (timersByTripped c (tripHeard h.sender c s)).register = s.register :=
    (timersByTripped_onlyTimers c _).1.register.trans (tripHeard_fields h.sender c s).2.1
  have meets : ∀ z, satisfies (timersByTripped c (tripHeard h.sender c s)) e z = satisfies s e z := fun z => by
    unfold satisfies inScope
    rw [linkage, within.fault, answered_of_failed failed room]
  rw [trippedBlocks_of_failed failed, linkageTripped_of_run run,
    evaluateTrips_of_single (within.run.trans run) ((congrArg Image.entries within.coreKept.image).trans table)]
  generalize timersByTripped c (tripHeard h.sender c s) = u at *
  have still : sameCandidate u e x = some y := by
    unfold sameCandidate
    rw [register]
    simp only [meets]
    exact same
  have next : nextTimer u e (.expired x) = .expired y.forTimer := by rw [nextTimer_expired, still]; rfl
  rw [evaluateEntry_of_expired role taken unspent next]
  obtain ⟨r', get', timer, pen, unpen, outlasts⟩ := actPrimary_acts (ev := laterRounds) (e := e) (x := y.span)
    (s := { u with linkage := { u.linkage with
      entries := u.linkage.entries.set 0 { r with timer := .expired y.forTimer } } }) (entries_set_get taken _)
    (closed_withEntries (fun o => by rw [linkage]; cases o; exacts [closed .trip0, closed .trip1]) _)
  have penSame : u.linkage.pen = s.linkage.pen := by rw [linkage]
  have tripSame : u.linkage.trip0 = s.linkage.trip0 := by rw [linkage]
  refine ⟨r', get', timer, ⟨d, (outlasts (recent.congr rfl) (by decide)).mem, tells⟩, fun on => ?_, fun off => ?_⟩
  · obtain ⟨spent, drives⟩ := pen (penSame.trans on)
    exact ⟨spent, fun output idle => drives output ((congrArg TripRecord.state tripSame).trans idle)⟩
  · obtain ⟨spent, noted, trip⟩ := unpen (penSame.trans off)
    exact ⟨spent.trans unspent, noted, trip.trans tripSame⟩

end

/-! ## O59 -/

theorem closed_of_levels {l : Linkage} (open0 : l.open0 = false) (open1 : l.open1 = false) (o : Output) : l.opened o = false := by
  cases o
  · exact open0
  · exact open1

/-- Settles O59: the timer's command, a change of PEN, the timers under a TRIPPED, and a TRIPPED taken by its blocks in any order. -/
theorem backupTimerExpiresAtItsCount : Obligations.BackupTimerExpiresAtItsCount := by
  unfold Obligations.BackupTimerExpiresAtItsCount
  refine ⟨fun e n c r s hw run table role drives alone get unspent running idle closed =>
      backupTrip_acts hw run table role drives alone get unspent running idle closed,
    fun e r level s hw run table role get unspent open0 open1 change =>
      penChange_timers hw run table role get unspent (closed_of_levels open0 open1) change,
    fun c s k r few get => timersByTripped_acts few get, ?_⟩
  intro frame h c e r s hw run awake table role get open0 open1 room hf
  have next := exec_trippedReceived hw awake hf
  obtain ⟨sameRun, -, detector, register, linkage, image, impaired, -⟩ := noted_frameNoted awake h
  generalize Config.trippedOrder (noted h s).choices = order at next
  have runW : (orderDrawn (noted h s)).run = .run := sameRun.trans run
  have tableW : (orderDrawn (noted h s)).port.image.entries = [e] := (congrArg Image.entries image).trans table
  have linkageW : (orderDrawn (noted h s)).linkage = s.linkage := linkage
  have meets : sameCandidate (orderDrawn (noted h s)) e = sameCandidate s e := by
    have meets : satisfies (orderDrawn (noted h s)) e = satisfies s e := by
      funext y
      change satisfies (noted h s) e y = satisfies s e y
      unfold satisfies
      rw [linkage, impaired]
    have records : (orderDrawn (noted h s)).register = s.register := register
    unfold sameCandidate
    rw [meets, records]
  have unclosing : (orderDrawn (noted h s)).detector = s.detector ∧ (orderDrawn (noted h s)).port.image = s.port.image := ⟨detector, image⟩
  generalize orderDrawn (noted h s) = w at *
  have kept := trippedBlocks_runtimesKept order h c runW
  rw [← linkageW] at get open0 open1 room ⊢
  obtain ⟨r', get'⟩ : ∃ r', (trippedBlocks order h c w).linkage.entries[0]? = some r' := by
    obtain ⟨inside, -⟩ := List.getElem?_eq_some_iff.mp get
    exact ⟨_, List.getElem?_eq_getElem (by rw [kept]; exact inside)⟩
  refine ⟨_, r', next, by rw [settle_linkage]; exact get', fun success unknown quiet => ?_, fun n x failed unspent running inside y same => ?_⟩
  · have inert : Inert w := ⟨closed_of_levels open0 open1, by rw [unclosing.1, unclosing.2]; exact quiet⟩
    have fresh : tripKnown w.linkage.trips h.sender c = false := by
      rw [Bool.eq_false_iff, ne_eq, tripKnown_iff]
      exact fun ⟨i, mem, known⟩ => unknown i mem known
    exact trippedBlocks_outside runW tableW role inert fresh room success r' get'
  · obtain ⟨r'', get'', timer, tells, pen, unpen⟩ := trippedBlocks_expires (order := order) (h := h) runW tableW role get
      (closed_of_levels open0 open1) room failed unspent running inside (by rw [meets]; exact same)
    obtain rfl := Option.some.inj (get'.symm.trans get'')
    rw [settle_linkage, settle_port]
    exact ⟨timer, tells, pen, unpen⟩

end Sys2Proof.Machine
